-- ==== Sys2Proof/Word.lean ====
section
/-! DEFINITION. The widths of the FO-24: bytes, station clock values and the part's index ranges
(00_scope.md "Bays and indices"). Nothing here computes; the arithmetic stands in Machine/. -/

namespace Sys2Proof

/-- One byte of a message, frame or record. -/
abbrev Byte := BitVec 8

/-- A value of the 48-bit station clock, in microseconds (R154). -/
abbrev Time := BitVec 48

/-- A bay of the fixture, 0 to 23. -/
abbrev BayNo := Fin 24

/-- An index of the gather table, 0 to 15 (R58). -/
abbrev GatherNo := Fin 16

/-- A profile number, 0 to 31 (R90). -/
abbrev ProfileNo := Fin 32

/-- A cell of the Result Store, 0 to 4095 (R130). -/
abbrev CellNo := Fin 4096

/-- A set of bays carried as 24 bits, bay n in bit n (R181). -/
abbrev BaySet := BitVec 24

/-- A set of the eight indicators, LOW in bit 0 to SILENT in bit 7 (R102, R181). -/
abbrev Indicators := BitVec 8

end Sys2Proof
end

