-- ==== Sys2Proof/Syntax.lean ====
section
/-! DEFINITION. The commands of the block: one constructor of Instr per row of spec/opcode_table.json.
A request carries the fields its body has in R183, at their widths there, so that every value the host
can send can be commanded. An event at a bay names the bay itself. -/

namespace Sys2Proof

/-- A bay frame without its two sync bytes, as it stands on the line (R182, "Bay frame"). -/
structure BayFrame where
  kind : Byte
  tag : Byte
  length : Byte
  body : List Byte
  check : BitVec 16
  deriving DecidableEq, Repr

/-- A request frame without its sync byte, as it stands on the pipe (R182, "Station request frame"). -/
structure RequestFrame where
  length : BitVec 16
  code : Byte
  seq : Byte
  body : List Byte
  check : BitVec 16
  deriving DecidableEq, Repr

/-- What the body of a SIGN_ON frame carries (R22). -/
structure SignOn where
  version : BitVec 16
  serial : List Byte
  deriving DecidableEq, Repr

/-- What the body of an ANSWER frame carries (R22). -/
structure Answer where
  status : Byte
  value : Option (BitVec 32)
  payload : List Byte
  deriving DecidableEq, Repr

/-- The commands of the block, in the families of the manual's chapters. -/
inductive Instr where
  /-- Power comes on: the levels the inputs have at that moment (R160, R17, R170). -/
  | powerOn (stopAsserted : Bool) (contacts : BaySet) (attached : Bool)
  | startupDebounceEnd
  -- station control requests (chapter 8)
  | identify
  | getParam (number : Byte)
  | setParam (number : Byte) (value : BitVec 32)
  | readClock
  | hold
  | resume
  | stationReset
  -- bay requests (chapters 1 to 3)
  | bayStatus (bay : Byte)
  | setSupply (bay mode : Byte)
  | cycleBay (bay : Byte) (offMs : BitVec 16) (restore : Option Byte)
  | releaseBay (bay : Byte)
  | resetBay (bay : Byte)
  | setLineRate (bay rate : Byte)
  | putTunnel (bay : Byte) (block : List Byte)
  | getTunnel (bay : Byte)
  | peekTunnel (bay : Byte)
  -- gather requests (chapter 4)
  | armGather (bays : BaySet) (command : BitVec 16) (profile : Byte) (failMask : Indicators)
      (timeoutMs : BitVec 16) (options : Byte) (args : List Byte)
  | gatherStatus (index : Byte) (serial : BitVec 16)
  | gatherSlot (index : Byte) (serial : BitVec 16) (bay : Byte)
  | cancelGather (index : Byte) (serial : BitVec 16)
  | releaseGather (index : Byte) (serial : BitVec 16)
  -- profile requests (chapter 5)
  | defineProfile (profile valueMode : Byte) (m d : BitVec 16) (b low high : BitVec 32)
      (latencyMs currentMa : BitVec 16)
  | readProfile (profile : Byte)
  | clearStats (profile : Byte)
  -- ring requests (chapter 7)
  | setRing (bay : Byte) (base length : BitVec 16) (mode : Byte)
  | readResults (bay max : Byte)
  | clearDrops (bay : Byte) (seenDrops seenOverwrites : BitVec 16)
  | ringStatus (bay : Byte)
  -- notice requests (chapter 9)
  | pollNotice
  | clearNotices
  -- calibration requests (chapter 6)
  | writeCal (bay : Byte) (gain offset : BitVec 16)
  | readCal (bay : Byte)
  | lockCal
  | unlockCal
  -- station link events (chapter 10)
  | requestFrameAccepted (frame : RequestFrame)
  | requestFrameCheckFail (frame : RequestFrame)
  | requestLengthDiscard (length : BitVec 16)
  | requestGapExpiry
  | replyDelivered
  | linkDetach
  | linkAttach
  -- bay link events (chapter 2)
  | signOnAccepted (bay : BayNo) (frame : BayFrame)
  | answerAccepted (bay : BayNo) (frame : BayFrame)
  | tunnelInAccepted (bay : BayNo) (frame : BayFrame)
  | bayFrameRejected (bay : BayNo) (frame : BayFrame)
  | bayFrameLengthDiscard (bay : BayNo) (kind tag length : Byte)
  | bayFrameGapExpiry (bay : BayNo)
  | bayCharacterFault (bay : BayNo)
  | syncGapExpiry (bay : BayNo)
  | dispatch (bay : BayNo)
  | askSent (bay : BayNo)
  | tunnelOutSent (bay : BayNo)
  -- timers (chapters 1 to 3)
  | answerTimerExpiry (bay : BayNo)
  | wakeTimerExpiry (bay : BayNo)
  | cycleTimerExpiry (bay : BayNo)
  -- contacts and rails (chapters 1 and 3)
  | presenceContactChange (bay : BayNo) (closed : Bool)
  | debounceExpiry (bay : BayNo)
  /-- The comparator sees a rail current, in mA (R47). -/
  | trip (bay : BayNo) (milliamps : Nat)
  | sag (bay : BayNo)
  | railRiseClear (bay : BayNo)
  -- stop line (chapter 8) and converter (chapter 6)
  | stopLineChange (asserted : Bool)
  | conversionEnd (code : BitVec 12)
  -- bytes on the two receivers (R23, R172)
  | baySyncReceived (bay : BayNo) (byte : Byte)
  | requestSyncReceived (byte : Byte)
  deriving DecidableEq, Repr

/-- How the port reads a request it has taken (R175): an unknown message code, a body length that is
wrong for the code, or a request for its owning block. -/
inductive RequestReading where
  | unknown
  | badLength
  | request (c : Instr)
  deriving DecidableEq, Repr

/-- One row of the request index (R183): the message code and how a body of permitted length is read. -/
structure RequestRow where
  code : Byte
  read : List Byte → Option Instr

end Sys2Proof
end

