-- ==== Sys2Proof/Decode.lean ====
section
/-! DEFINITION. Bytes and what they say: little-endian fields (R181), the request index of R175 and R183
read from and written to message bodies, and the bodies of bay frames (R22, R24, R25). The rows of the
opcode table give no bits, so decodeTableWord reads none. -/

namespace Sys2Proof

/-- No row of spec/opcode_table.json gives bits: no word spells a command. -/
def decodeTableWord (_nbits _w : Nat) : Option Instr := none

/-! ### Little-endian fields -/

/-- The k low bytes of a number, least significant first (00_scope.md, R181). -/
def leBytes : Nat → Nat → List Byte
  | 0, _ => []
  | k + 1, n => BitVec.ofNat 8 n :: leBytes k (n / 256)

/-- The number that little-endian bytes spell. -/
def readLE : List Byte → Nat
  | [] => 0
  | b :: bs => b.toNat + 256 * readLE bs

/-- A field of w bits read from its bytes. -/
def field (w : Nat) (bs : List Byte) : BitVec w := BitVec.ofNat w (readLE bs)

/-! ### Request bodies (R183) -/

def readNone (c : Instr) : List Byte → Option Instr
  | [] => some c
  | _ => none

def readByte (f : Byte → Instr) : List Byte → Option Instr
  | [a] => some (f a)
  | _ => none

def readBytePair (f : Byte → Byte → Instr) : List Byte → Option Instr
  | [a, b] => some (f a b)
  | _ => none

def readSetParam : List Byte → Option Instr
  | [n, v0, v1, v2, v3] => some (.setParam n (field 32 [v0, v1, v2, v3]))
  | _ => none

/-- Two permitted lengths: without the restore mode and with it (R175). -/
def readCycleBay : List Byte → Option Instr
  | [bay, o0, o1] => some (.cycleBay bay (field 16 [o0, o1]) none)
  | [bay, o0, o1, mode] => some (.cycleBay bay (field 16 [o0, o1]) (some mode))
  | _ => none

def readPutTunnel : List Byte → Option Instr
  | bay :: block => some (.putTunnel bay block)
  | _ => none

def readArmGather : List Byte → Option Instr
  | s0 :: s1 :: s2 :: c0 :: c1 :: profile :: mask :: t0 :: t1 :: options :: args =>
    some (.armGather (field 24 [s0, s1, s2]) (field 16 [c0, c1]) profile mask (field 16 [t0, t1]) options args)
  | _ => none

/-- The index and serial by which a request names a gather. -/
def readGather (f : Byte → BitVec 16 → Instr) : List Byte → Option Instr
  | [i, s0, s1] => some (f i (field 16 [s0, s1]))
  | _ => none

def readGatherSlot : List Byte → Option Instr
  | [i, s0, s1, bay] => some (.gatherSlot i (field 16 [s0, s1]) bay)
  | _ => none

def readDefineProfile : List Byte → Option Instr
  | [p, mode, m0, m1, d0, d1, b0, b1, b2, b3, l0, l1, l2, l3, h0, h1, h2, h3, t0, t1, c0, c1] =>
    some (.defineProfile p mode (field 16 [m0, m1]) (field 16 [d0, d1]) (field 32 [b0, b1, b2, b3])
      (field 32 [l0, l1, l2, l3]) (field 32 [h0, h1, h2, h3]) (field 16 [t0, t1]) (field 16 [c0, c1]))
  | _ => none

def readSetRing : List Byte → Option Instr
  | [bay, b0, b1, l0, l1, mode] => some (.setRing bay (field 16 [b0, b1]) (field 16 [l0, l1]) mode)
  | _ => none

/-- A bay and two 16-bit fields: CLEAR_DROPS and WRITE_CAL. -/
def readBayTwoWords (f : Byte → BitVec 16 → BitVec 16 → Instr) : List Byte → Option Instr
  | [bay, x0, x1, y0, y1] => some (f bay (field 16 [x0, x1]) (field 16 [y0, y1]))
  | _ => none

/-- The request index of section 10.9 with the bodies of R183. -/
def requestTable : List RequestRow := [
  ⟨0x01, readNone .identify⟩,
  ⟨0x02, readByte .getParam⟩,
  ⟨0x03, readSetParam⟩,
  ⟨0x04, readNone .readClock⟩,
  ⟨0x05, readNone .hold⟩,
  ⟨0x06, readNone .resume⟩,
  ⟨0x07, readNone .stationReset⟩,
  ⟨0x10, readByte .bayStatus⟩,
  ⟨0x11, readBytePair .setSupply⟩,
  ⟨0x12, readCycleBay⟩,
  ⟨0x13, readByte .releaseBay⟩,
  ⟨0x14, readByte .resetBay⟩,
  ⟨0x15, readBytePair .setLineRate⟩,
  ⟨0x18, readPutTunnel⟩,
  ⟨0x19, readByte .getTunnel⟩,
  ⟨0x1A, readByte .peekTunnel⟩,
  ⟨0x20, readArmGather⟩,
  ⟨0x21, readGather .gatherStatus⟩,
  ⟨0x22, readGatherSlot⟩,
  ⟨0x23, readGather .cancelGather⟩,
  ⟨0x24, readGather .releaseGather⟩,
  ⟨0x28, readDefineProfile⟩,
  ⟨0x29, readByte .readProfile⟩,
  ⟨0x2A, readByte .clearStats⟩,
  ⟨0x30, readSetRing⟩,
  ⟨0x31, readBytePair .readResults⟩,
  ⟨0x32, readBayTwoWords .clearDrops⟩,
  ⟨0x33, readByte .ringStatus⟩,
  ⟨0x38, readNone .pollNotice⟩,
  ⟨0x39, readNone .clearNotices⟩,
  ⟨0x40, readBayTwoWords .writeCal⟩,
  ⟨0x41, readByte .readCal⟩,
  ⟨0x42, readNone .lockCal⟩,
  ⟨0x43, readNone .unlockCal⟩]

/-- The port's judgement of a request it has taken: the code first, then the length (R175). -/
def decodeRequest (code : Byte) (body : List Byte) : RequestReading :=
  match requestTable.find? (fun row => row.code == code) with
  | none => .unknown
  | some row =>
    match row.read body with
    | none => .badLength
    | some c => .request c

/-- The message code and body of a request, written from the same tables (R183); none for an event. -/
def encodeRequest : Instr → Option (Byte × List Byte)
  | .identify => some (0x01, [])
  | .getParam n => some (0x02, [n])
  | .setParam n v => some (0x03, n :: leBytes 4 v.toNat)
  | .readClock => some (0x04, [])
  | .hold => some (0x05, [])
  | .resume => some (0x06, [])
  | .stationReset => some (0x07, [])
  | .bayStatus bay => some (0x10, [bay])
  | .setSupply bay mode => some (0x11, [bay, mode])
  | .cycleBay bay offMs none => some (0x12, bay :: leBytes 2 offMs.toNat)
  | .cycleBay bay offMs (some mode) => some (0x12, bay :: leBytes 2 offMs.toNat ++ [mode])
  | .releaseBay bay => some (0x13, [bay])
  | .resetBay bay => some (0x14, [bay])
  | .setLineRate bay rate => some (0x15, [bay, rate])
  | .putTunnel bay block => some (0x18, bay :: block)
  | .getTunnel bay => some (0x19, [bay])
  | .peekTunnel bay => some (0x1A, [bay])
  | .armGather bays command profile failMask timeoutMs options args =>
    some (0x20, leBytes 3 bays.toNat ++ leBytes 2 command.toNat ++ [profile, failMask] ++
      leBytes 2 timeoutMs.toNat ++ options :: args)
  | .gatherStatus i serial => some (0x21, i :: leBytes 2 serial.toNat)
  | .gatherSlot i serial bay => some (0x22, i :: leBytes 2 serial.toNat ++ [bay])
  | .cancelGather i serial => some (0x23, i :: leBytes 2 serial.toNat)
  | .releaseGather i serial => some (0x24, i :: leBytes 2 serial.toNat)
  | .defineProfile p mode m d b low high latencyMs currentMa =>
    some (0x28, p :: mode :: (leBytes 2 m.toNat ++ leBytes 2 d.toNat ++ leBytes 4 b.toNat ++ leBytes 4 low.toNat ++
      leBytes 4 high.toNat ++ leBytes 2 latencyMs.toNat ++ leBytes 2 currentMa.toNat))
  | .readProfile p => some (0x29, [p])
  | .clearStats p => some (0x2A, [p])
  | .setRing bay base length mode =>
    some (0x30, bay :: (leBytes 2 base.toNat ++ leBytes 2 length.toNat ++ [mode]))
  | .readResults bay max => some (0x31, [bay, max])
  | .clearDrops bay drops overwrites => some (0x32, bay :: (leBytes 2 drops.toNat ++ leBytes 2 overwrites.toNat))
  | .ringStatus bay => some (0x33, [bay])
  | .pollNotice => some (0x38, [])
  | .clearNotices => some (0x39, [])
  | .writeCal bay gain offset => some (0x40, bay :: (leBytes 2 gain.toNat ++ leBytes 2 offset.toNat))
  | .readCal bay => some (0x41, [bay])
  | .lockCal => some (0x42, [])
  | .unlockCal => some (0x43, [])
  | .powerOn _ _ _ | .startupDebounceEnd | .requestFrameAccepted _ | .requestFrameCheckFail _
  | .requestLengthDiscard _ | .requestGapExpiry | .replyDelivered | .linkDetach | .linkAttach
  | .signOnAccepted _ _ | .answerAccepted _ _ | .tunnelInAccepted _ _ | .bayFrameRejected _ _
  | .bayFrameLengthDiscard _ _ _ _ | .bayFrameGapExpiry _ | .bayCharacterFault _ | .syncGapExpiry _
  | .dispatch _ | .askSent _ | .tunnelOutSent _ | .answerTimerExpiry _ | .wakeTimerExpiry _
  | .cycleTimerExpiry _ | .presenceContactChange _ _ | .debounceExpiry _ | .trip _ _ | .sag _
  | .railRiseClear _ | .stopLineChange _ | .conversionEnd _ | .baySyncReceived _ _ | .requestSyncReceived _ => none

/-! ### Frames as bytes (R182) -/

/-- The bytes of a request frame after its sync byte. -/
def RequestFrame.bytes (f : RequestFrame) : List Byte :=
  leBytes 2 f.length.toNat ++ [f.code, f.seq] ++ f.body ++ leBytes 2 f.check.toNat

/-- The bytes of a bay frame after its two sync bytes. -/
def BayFrame.bytes (f : BayFrame) : List Byte :=
  [f.kind, f.tag, f.length] ++ f.body ++ leBytes 2 f.check.toNat

/-! ### Bay frame kinds and bodies -/

def kindAsk : Byte := 0x01
def kindTunnelOut : Byte := 0x02
def kindSignOn : Byte := 0x81
def kindAnswer : Byte := 0x82
def kindTunnelIn : Byte := 0x83

/-- The judgement at the length byte: a kind the phone may send, and a length in its range (R22, R24). -/
def bayHeaderTakes (kind length : Byte) : Bool :=
  if kind = kindSignOn then 4 ≤ length.toNat && length.toNat ≤ 27
  else if kind = kindAnswer then 2 ≤ length.toNat && length.toNat ≤ 54
  else if kind = kindTunnelIn then length.toNat ≤ 64
  else false

/-- A printable ASCII character, 0x20 to 0x7E (R22). -/
def printable (c : Byte) : Bool := 0x20 ≤ c.toNat && c.toNat ≤ 0x7E

/-- The body of a SIGN_ON, when it agrees with its own fields (R22, R25). -/
def readSignOn : List Byte → Option SignOn
  | v0 :: v1 :: s :: chars =>
    if 1 ≤ s.toNat ∧ s.toNat ≤ 24 ∧ chars.length = s.toNat ∧ chars.all printable then
      some ⟨field 16 [v0, v1], chars⟩
    else none
  | _ => none

/-- The body of an ANSWER, when it agrees with its own fields (R22, R25). -/
def readAnswer : List Byte → Option Answer
  | status :: flag :: rest =>
    if flag = 0 then
      if rest.length ≤ 48 then some ⟨status, none, rest⟩ else none
    else if flag = 1 then
      match rest with
      | v0 :: v1 :: v2 :: v3 :: payload =>
        if payload.length ≤ 48 then some ⟨status, some (field 32 [v0, v1, v2, v3]), payload⟩ else none
      | _ => none
    else none
  | _ => none

/-- The body examination at the second check byte, by kind (R25). -/
def bodyAgrees (kind : Byte) (body : List Byte) : Bool :=
  if kind = kindSignOn then (readSignOn body).isSome
  else if kind = kindAnswer then (readAnswer body).isSome
  else true

end Sys2Proof
end

