-- ==== Sys2Proof/Config.lean ====
section
/-! DEFINITION. What a particular part fixes and the manual does not state. -/

namespace Sys2Proof

/-- Station parameter 3: "a 32-bit value set at the factory, fixed for the life of the part" (R155).
A free value: nothing in the model can see which (assumption 10). -/
opaque Config.stationSerial : BitVec 32

/-- The code of a conversion that ends without a CONVERSION_END from the sender: whatever 12-bit code the current of
the rail gives (R115, R118). A free value, one for each such conversion (assumption 14). -/
opaque Config.railCode : Nat → BitVec 12

end Sys2Proof
end

