-- ==== Sys2Proof/Machine/State.lean ====
section
/-! DEFINITION. Everything the FO-24 holds, as plain data, and its values at power-on. Each structure names
the rule whose table it follows. A timer is the optional station clock value at which it expires (R154). -/

namespace Sys2Proof.Machine

/-! ### Bay state, supply and link -/

/-- The nine bay states (R2). -/
inductive BayState where
  | vacant | unpowered | cycling | waking | ready | asking | benched | dark | faulted
  deriving DecidableEq, Repr

/-- The two modes in which a supply is on, which are also the two saved modes (R41). -/
inductive OnMode where
  | limited | full
  deriving DecidableEq, Repr

/-- The supply mode of a bay (R41). -/
inductive SupplyMode where
  | off
  | on (mode : OnMode)
  deriving DecidableEq, Repr

/-- The trip comparator: idle, or watching against a rail current in mA (R41). -/
inductive Comparator where
  | idle
  | watching (limit : Nat)
  deriving DecidableEq, Repr

/-- The sag detector (R41, R49). -/
inductive SagDetector where
  | idle | low | clear
  deriving DecidableEq, Repr

/-- The state of a Bay Supply Switch (R41). -/
structure Supply where
  mode : SupplyMode
  saved : OnMode
  cycleTimer : Option Time
  comparator : Comparator
  detector : SagDetector
  trips : BitVec 16
  sags : BitVec 16
  deriving DecidableEq, Repr

/-- The bay receiver, with the bytes of a partly received frame after its sync bytes (R19, R23). -/
inductive Receiver where
  | disabled
  | hunting
  | syncSeen
  | inFrame (got : List Byte)
  deriving DecidableEq, Repr

/-- The bay transmitter (R19). -/
inductive Transmitter where
  | disabled | idle | sendingAsk | sendingTunnel
  deriving DecidableEq, Repr

/-- An ask handed over at dispatch (R19, R28). -/
structure Ask where
  tag : Byte
  command : BitVec 16
  args : List Byte
  deriving DecidableEq, Repr

/-- The state of a Bay Link Controller (R19). `gap` bounds the time to the next byte of a frame (R23,
R26); `frameOut` is the frame in transmission (R20). -/
structure Link where
  receiver : Receiver
  gap : Option Time
  transmitter : Transmitter
  frameOut : List Byte
  pendingAsk : Option Ask
  outstanding : Option Byte
  nextTag : Byte
  answerTimer : Option Time
  wakeTimer : Option Time
  lineRate : Fin 4
  tunnelOut : Option (List Byte)
  tunnelIn : Option (List Byte)
  linkErrors : BitVec 16
  stale : BitVec 16
  tunnelDrops : BitVec 16
  deriving DecidableEq, Repr

/-- The identity from the latest accepted sign-on, with the last sign-on time, which is present exactly
when the identity is (R1). -/
structure Identity where
  serial : List Byte
  version : BitVec 16
  time : Time
  deriving DecidableEq, Repr

/-! ### Sampling, calibration and rings -/

/-- The accumulators of an open sampling window (R112). -/
structure Accumulator where
  n : Nat
  sum : Nat
  sumSquares : Nat
  minimum : Option Nat
  maximum : Option Nat
  sat : Bool
  clamp : Bool
  deriving DecidableEq, Repr

/-- A sampling window. A CLOSED window holds nothing (R112). -/
inductive Window where
  | closed
  | opened (acc : Accumulator)
  deriving DecidableEq, Repr

/-- A calibration pair: gain 0 to 8191 and offset -512 to 511, signed (R112). -/
structure Calibration where
  gain : BitVec 13
  offset : BitVec 10
  deriving DecidableEq, Repr

/-- What a ring does with a record when it is full (R130). -/
inductive RingMode where
  | stop | wrap
  deriving DecidableEq, Repr

/-- The ring state of a bay (R130). -/
structure Ring where
  base : Nat
  length : Nat
  mode : RingMode
  occupancy : Nat
  oldest : Nat
  drops : BitVec 16
  overwrites : BitVec 16
  nextSeq : BitVec 32
  deriving DecidableEq, Repr

/-- One column of the part: the bay record, its link controller and supply switch, its queue, its
sampling window, its calibration pair and its ring. `contact` is the raw level of the presence contact
(closed is true) and `present` the debounced presence (R3). -/
structure Bay where
  state : BayState
  contact : Bool
  present : Bool
  debounce : Option Time
  identity : Option Identity
  signOns : BitVec 16
  link : Link
  supply : Supply
  queue : List GatherNo
  window : Window
  cal : Calibration
  ring : Ring
  deriving DecidableEq, Repr

/-! ### Gathers -/

/-- The state of a gather entry (R59). -/
inductive GatherState where
  | free | opened | done
  deriving DecidableEq, Repr

/-- The progress of a slot (R60, R61). `outside` is the manual's NONE: the bay is not in the set. -/
inductive Stage where
  | outside | queued | sent | final
  deriving DecidableEq, Repr

/-- How a final slot ended (R62). -/
inductive Ending where
  | answered | timedOut | lost | unreached | skipped | cancelled
  deriving DecidableEq, Repr

/-- The verdict of a slot; `none` is the manual's NONE (R108). -/
inductive Verdict where
  | none | pass | fail
  deriving DecidableEq, Repr

/-- The current statistics of a window that closed with n above 0 (R123). -/
structure Stats where
  n : Nat
  mean : Nat
  rms : Nat
  peak : Nat
  min : Nat
  sat : Bool
  clamp : Bool
  deriving DecidableEq, Repr

/-- A slot of a gather entry (R60). -/
structure Slot where
  stage : Stage
  ending : Option Ending
  verdict : Verdict
  indicators : Indicators
  tag : Option Byte
  sendTime : Option Time
  answerTime : Option Time
  status : Option Byte
  raw : Option (BitVec 32)
  scaled : Option (BitVec 32)
  stats : Option Stats
  payload : List Byte
  deriving DecidableEq, Repr

/-- A lowest or highest scaled value (signed) with its bay (R84, R110). -/
structure Extreme where
  value : BitVec 32
  bay : BayNo
  deriving DecidableEq, Repr

/-- The counts of each ending (R84). -/
structure EndingCounts where
  answered : Nat
  timedOut : Nat
  lost : Nat
  unreached : Nat
  skipped : Nat
  cancelled : Nat
  deriving DecidableEq, Repr

/-- The summary of a gather, kept as its slots move (R84, R85). -/
structure Summary where
  endings : EndingCounts
  queued : Nat
  sent : Nat
  passSet : BaySet
  passCount : Nat
  failSet : BaySet
  failCount : Nat
  lowest : Option Extreme
  highest : Option Extreme
  deriving DecidableEq, Repr

/-- An entry of the gather table (R58). -/
structure Gather where
  state : GatherState
  serial : BitVec 16
  bays : BaySet
  command : BitVec 16
  args : List Byte
  profile : ProfileNo
  failMask : Indicators
  timeoutMs : BitVec 16
  measure : Bool
  benchOnFail : Bool
  expectRestart : Bool
  cancelled : Bool
  aborted : Bool
  armTime : Time
  firstSend : Option Time
  lastFinal : Option Time
  summary : Summary
  slots : Vector Slot 24
  deriving DecidableEq, Repr

/-! ### Profiles, converter, notices -/

/-- Whether an answer's value is scaled and judged (R90). -/
inductive ValueMode where
  | statusOnly | numeric
  deriving DecidableEq, Repr

/-- An entry of the profile table (R90). The multiplier, the offset, the limits and the extremes are
signed; the divisor, the latency limit (ms) and the current limit (mA) are not. -/
structure Profile where
  defined : Bool
  mode : ValueMode
  m : BitVec 16
  d : BitVec 16
  b : BitVec 32
  low : BitVec 32
  high : BitVec 32
  latencyMs : BitVec 16
  currentMa : BitVec 16
  inUse : Nat
  evaluated : BitVec 32
  minimum : Option (BitVec 32)
  maximum : Option (BitVec 32)
  fails : BitVec 32
  deriving DecidableEq, Repr

/-- The shared converter (R112). `tied` says that the window the conversion was tied to at its grant has
not closed since (R116, R117). -/
inductive Converter where
  | idle
  | converting (bay : BayNo) (ends : Time) (tied : Bool)
  deriving DecidableEq, Repr

/-- A place of the Notice Unit: one for each class and source (R161). -/
inductive Place where
  | stopLine
  | bayFault (bay : BayNo)
  | bayDark (bay : BayNo)
  | presence (bay : BayNo)
  | gatherDone (index : GatherNo)
  | ringFull (bay : BayNo)
  | tunnelIn (bay : BayNo)
  | signedOn (bay : BayNo)
  deriving DecidableEq, Repr

/-- A condition place: the cause with its reported mark (R161, R163). -/
inductive Condition where
  | inactive | unreported | reported
  deriving DecidableEq, Repr

/-- The places of the Notice Unit; for an event place true is PENDING (R161). -/
structure Notices where
  stopLine : Bool
  bayFault : Vector Bool 24
  bayDark : Vector Bool 24
  presence : Vector Bool 24
  gatherDone : Vector Bool 16
  ringFull : Vector Condition 24
  tunnelIn : Vector Condition 24
  signedOn : Vector Bool 24
  deriving DecidableEq, Repr

/-! ### The station link port -/

/-- The station link receiver, with the bytes of the frame in assembly after its sync byte (R170). -/
inductive PortReceiver where
  | disabled
  | hunting
  | inFrame (got : List Byte)
  deriving DecidableEq, Repr

/-- The status codes of a reply (R180). -/
inductive Status where
  | ok | unknownRequest | badLength | badParam | busy | full | notFound | wrongState | stopAsserted | locked
  deriving DecidableEq, Repr

/-- The three flags of every reply (R176). -/
structure ReplyFlags where
  noticeWaiting : Bool
  stationHeld : Bool
  stopAsserted : Bool
  deriving DecidableEq, Repr

/-- A reply as composed: status, flags and body (R176). -/
structure Reply where
  status : Status
  flags : ReplyFlags
  body : List Byte
  deriving DecidableEq, Repr

/-- The state of a request buffer entry (R170): IN_HAND carries the discard mark of a detach (R178),
REPLYING the reply frame not yet delivered. -/
inductive Phase where
  | waiting
  | inHand (discard : Bool)
  | replying (frame : List Byte)
  deriving DecidableEq, Repr

/-- An entry of the request buffer (R170). -/
structure Entry where
  code : Byte
  seq : Byte
  body : List Byte
  phase : Phase
  deriving DecidableEq, Repr

/-- The state of the Station Link Port (R170); the buffer is oldest first. -/
structure Port where
  attached : Bool
  receiver : PortReceiver
  gap : Option Time
  buffer : List Entry
  errors : BitVec 16
  deriving DecidableEq, Repr

/-! ### The station -/

/-- The run state (R146). -/
inductive RunState where
  | run | held
  deriving DecidableEq, Repr

/-- The stop function, station parameter 4 (R146). -/
inductive StopFunction where
  | hold | abort
  deriving DecidableEq, Repr

/-- The whole part, and the queue of commands that wait for it. `startup` runs during the first 20 ms
(R17, R160). `cells` are the bytes of the Result Store, by byte address, in rising order and none zero
(R130). `railReads` counts the conversion codes taken from the rail by the block itself, so that each is a value of
its own (assumption 14). `lastReply` is the reply that the owning block of the latest request composed
(assumption 15). -/
structure State where
  run : RunState
  stopLine : Bool
  stopFunction : StopFunction
  clock : Time
  wakeTimeout : BitVec 32
  classMask : Byte
  gatherSerial : BitVec 16
  startup : Option Time
  port : Port
  bays : Vector Bay 24
  gathers : Vector Gather 16
  profiles : Vector Profile 32
  converter : Converter
  lastGranted : BayNo
  calLock : Bool
  railReads : Nat
  cells : List Host.Cell
  notices : Notices
  lastReply : Option Reply
  pending : List Instr
  deriving DecidableEq, Repr

/-- The reasons for which the machine stops with a fault: none. Every command of the block ends in a next
state; what the manual refuses is refused in a reply, and what it discards is counted. -/
inductive Fault where
  deriving DecidableEq, Repr

/-- The reasons for which a command has no meaning. -/
inductive Refusal where
  /-- Raised by exec's arm of a command whose meaning is not written; safe, since nothing follows from it.
  No arm raises it now. -/
  | notModelled (mnemonic : String)
  deriving DecidableEq, Repr

/-! ### Values at power-on -/

/-- A link controller right after power-on (R40). -/
def Link.reset : Link :=
  { receiver := .disabled, gap := none, transmitter := .disabled, frameOut := [], pendingAsk := none,
    outstanding := none, nextTag := 0, answerTimer := none, wakeTimer := none, lineRate := 2,
    tunnelOut := none, tunnelIn := none, linkErrors := 0, stale := 0, tunnelDrops := 0 }

/-- A supply switch right after power-on (R57). -/
def Supply.reset : Supply :=
  { mode := .off, saved := .full, cycleTimer := none, comparator := .idle, detector := .idle,
    trips := 0, sags := 0 }

/-- The factory's calibration pair (R124). -/
def Calibration.factory : Calibration := { gain := 4096, offset := 0 }

/-- The default window of a bay, empty (R145). -/
def Ring.reset (bay : BayNo) : Ring :=
  { base := bay.val * 170, length := 170, mode := .stop, occupancy := 0, oldest := 0, drops := 0,
    overwrites := 0, nextSeq := 0 }

/-- A bay at power-on, before its start-up debounce has ended (R17, R18; assumption 9). -/
def Bay.reset (bay : BayNo) : Bay :=
  { state := .vacant, contact := false, present := false, debounce := none, identity := none, signOns := 0,
    link := .reset, supply := .reset, queue := [], window := .closed, cal := .factory, ring := .reset bay }

/-- A slot of a bay outside the bay set (R60). -/
def Slot.outside : Slot :=
  { stage := .outside, ending := none, verdict := .none, indicators := 0, tag := none, sendTime := none,
    answerTime := none, status := none, raw := none, scaled := none, stats := none, payload := [] }

/-- A cleared summary (R67). -/
def Summary.cleared : Summary :=
  { endings := { answered := 0, timedOut := 0, lost := 0, unreached := 0, skipped := 0, cancelled := 0 },
    queued := 0, sent := 0, passSet := 0, passCount := 0, failSet := 0, failCount := 0, lowest := none,
    highest := none }

/-- A FREE entry; its fields are without meaning and are kept cleared (R58; assumption 17). -/
def Gather.free : Gather :=
  { state := .free, serial := 0, bays := 0, command := 0, args := [], profile := 0, failMask := 0,
    timeoutMs := 0, measure := false, benchOnFail := false, expectRestart := false, cancelled := false,
    aborted := false, armTime := 0, firstSend := none, lastFinal := none, summary := .cleared,
    slots := Vector.replicate 24 .outside }

/-- An undefined profile; its definition has no meaning and is kept cleared (R90; assumption 17). -/
def Profile.undefined : Profile :=
  { defined := false, mode := .statusOnly, m := 0, d := 0, b := 0, low := 0, high := 0, latencyMs := 0,
    currentMa := 0, inUse := 0, evaluated := 0, minimum := none, maximum := none, fails := 0 }

/-- The built-in profile 0 (R91). -/
def Profile.builtIn : Profile :=
  { Profile.undefined with defined := true, mode := .statusOnly, m := 1, d := 1 }

/-- The profile table after power-on and station reset (R111). -/
def Profile.table : Vector Profile 32 := (Vector.replicate 32 Profile.undefined).set 0 .builtIn

/-- Every place CLEAR and INACTIVE (R169). -/
def Notices.reset : Notices :=
  { stopLine := false, bayFault := Vector.replicate 24 false, bayDark := Vector.replicate 24 false,
    presence := Vector.replicate 24 false, gatherDone := Vector.replicate 16 false,
    ringFull := Vector.replicate 24 .inactive, tunnelIn := Vector.replicate 24 .inactive,
    signedOn := Vector.replicate 24 false }

/-- The port of an attached function at power-on (R170; assumption 8). -/
def Port.reset : Port :=
  { attached := true, receiver := .hunting, gap := none, buffer := [], errors := 0 }

/-- The bays in rising number. -/
def allBays : List BayNo :=
  [0, 1, 2, 3, 4, 5, 6, 7, 8, 9, 10, 11, 12, 13, 14, 15, 16, 17, 18, 19, 20, 21, 22, 23]

/-- The gather indices in rising order. -/
def allGathers : List GatherNo := [0, 1, 2, 3, 4, 5, 6, 7, 8, 9, 10, 11, 12, 13, 14, 15]

/-- The 24 bays at power-on. -/
def Bay.table : Vector Bay 24 := Vector.ofFn Bay.reset

/-- The part at the moment of power-on, straight from the factory, with every contact open, the stop
line released and the host attached (R160, R124; assumption 8): the clock at 0, the station HELD and the start-up begun. -/
def State.reset : State :=
  { run := .held, stopLine := false, stopFunction := .hold, clock := 0, wakeTimeout := 30000,
    classMask := 255, gatherSerial := 0, startup := some 20000, port := .reset, bays := Bay.table,
    gathers := Vector.replicate 16 .free, profiles := Profile.table, converter := .idle,
    lastGranted := 23, calLock := false, railReads := 0, cells := [], notices := .reset, lastReply := none, pending := [] }

/-! ### Reading and updating the parts -/

def State.bay (s : State) (b : BayNo) : Bay := s.bays.get b

def State.setBay (s : State) (b : BayNo) (x : Bay) : State := { s with bays := s.bays.set b x }

def State.modBay (s : State) (b : BayNo) (f : Bay → Bay) : State := s.setBay b (f (s.bay b))

def State.gather (s : State) (i : GatherNo) : Gather := s.gathers.get i

def State.setGather (s : State) (i : GatherNo) (g : Gather) : State := { s with gathers := s.gathers.set i g }

def State.modGather (s : State) (i : GatherNo) (f : Gather → Gather) : State := s.setGather i (f (s.gather i))

def State.profile (s : State) (p : ProfileNo) : Profile := s.profiles.get p

def State.setProfile (s : State) (p : ProfileNo) (x : Profile) : State := { s with profiles := s.profiles.set p x }

def State.modProfile (s : State) (p : ProfileNo) (f : Profile → Profile) : State :=
  s.setProfile p (f (s.profile p))

def Gather.slot (g : Gather) (b : BayNo) : Slot := g.slots.get b

def Gather.setSlot (g : Gather) (b : BayNo) (x : Slot) : Gather := { g with slots := g.slots.set b x }

/-- A change of a bay's link controller alone. -/
def Bay.modLink (x : Bay) (f : Link → Link) : Bay := { x with link := f x.link }

/-- A change of a bay's supply switch alone. -/
def Bay.modSupply (x : Bay) (f : Supply → Supply) : Bay := { x with supply := f x.supply }

/-- A change of the port alone. -/
def State.modPort (s : State) (f : Port → Port) : State := { s with port := f s.port }

end Sys2Proof.Machine
end

