-- ==== Sys2Proof/Machine/Cells.lean ====
section
/-! DEFINITION. The bytes of the Result Store (R130): a list of (byte address, byte), addresses strictly
rising, no listed byte zero. An unlisted byte reads 0 (assumption 11). -/

namespace Sys2Proof.Machine

/-- The bytes of one record cell (R130). -/
def cellBytes : Nat := 96

/-- The byte at an address. -/
def readCell : List Host.Cell → Nat → Byte
  | [], _ => 0
  | (a, v) :: rest, addr => if a = addr then v else readCell rest addr

/-- A byte stored at an address; storing what an unlisted byte reads removes the entry. -/
def writeCell : List Host.Cell → Nat → Byte → List Host.Cell
  | [], addr, v => if v = 0 then [] else [(addr, v)]
  | (a, w) :: rest, addr, v =>
    if addr < a then (if v = 0 then (a, w) :: rest else (addr, v) :: (a, w) :: rest)
    else if addr = a then (if v = 0 then rest else (a, v) :: rest)
    else (a, w) :: writeCell rest addr v

/-- Bytes stored at consecutive addresses. -/
def writeCells : List Host.Cell → Nat → List Byte → List Host.Cell
  | mem, _, [] => mem
  | mem, addr, v :: vs => writeCells (writeCell mem addr v) (addr + 1) vs

/-- So many bytes read from consecutive addresses. -/
def readCells (mem : List Host.Cell) (addr : Nat) : Nat → List Byte
  | 0 => []
  | n + 1 => readCell mem addr :: readCells mem (addr + 1) n

/-- The canonical form: addresses strictly rising from a bound, and no zero byte listed. -/
def cellsWfFrom : Nat → List Host.Cell → Bool
  | _, [] => true
  | low, (a, v) :: rest => low ≤ a && v ≠ 0 && cellsWfFrom (a + 1) rest

/-- The Result Store's bytes are in their one canonical form. -/
def Memory.wf (mem : List Host.Cell) : Bool := cellsWfFrom 0 mem

/-- The byte address at which a cell begins. -/
def cellAddress (c : CellNo) : Nat := c.val * cellBytes

end Sys2Proof.Machine
end

