-- ==== Sys2Proof/Machine/Operands.lean ====
section
/-! DEFINITION. Reading the operands of commands: numbers with their ranges, coded fields (R181), clamped
values, saturating counters and the timers of the station clock (R154). -/

namespace Sys2Proof.Machine

/-- A bay number 0 to 23; above 23 it is out of range (00_scope.md). -/
def bayOf (n : Byte) : Option BayNo := if h : n.toNat < 24 then some ⟨n.toNat, h⟩ else none

/-- A gather index 0 to 15. -/
def gatherOf (n : Byte) : Option GatherNo := if h : n.toNat < 16 then some ⟨n.toNat, h⟩ else none

/-- A profile number 0 to 31. -/
def profileOf (n : Byte) : Option ProfileNo := if h : n.toNat < 32 then some ⟨n.toNat, h⟩ else none

/-- The mode of SET_SUPPLY: 0 OFF, 1 LIMITED, 2 FULL (R43). -/
def supplyModeOf (code : Byte) : Option SupplyMode :=
  if code = 0 then some .off
  else if code = 1 then some (.on .limited)
  else if code = 2 then some (.on .full)
  else none

/-- The restore mode of CYCLE_BAY: 1 LIMITED, 2 FULL; OFF is refused (R52). -/
def restoreModeOf (code : Byte) : Option OnMode :=
  if code = 1 then some .limited else if code = 2 then some .full else none

/-- A line rate code 0 to 3 (R35). -/
def lineRateOf (code : Byte) : Option (Fin 4) := if h : code.toNat < 4 then some ⟨code.toNat, h⟩ else none

/-- The value mode of DEFINE_PROFILE: 0 STATUS_ONLY, 1 NUMERIC (R93). -/
def valueModeOf (code : Byte) : Option ValueMode :=
  if code = 0 then some .statusOnly else if code = 1 then some .numeric else none

/-- The mode of SET_RING: 0 STOP, 1 WRAP (R143). -/
def ringModeOf (code : Byte) : Option RingMode :=
  if code = 0 then some .stop else if code = 1 then some .wrap else none

/-- A value below the lower limit becomes the lower limit, one above the upper limit the upper limit
(00_scope.md, "Refusal"). -/
def clampNat (low high x : Nat) : Nat := if x < low then low else if high < x then high else x

/-- The same for signed quantities. -/
def clampInt (low high x : Int) : Int := if x < low then low else if high < x then high else x

/-- A saturating counter goes up by one and stops at its largest value (00_scope.md, "Counters"). -/
def satInc {w : Nat} (x : BitVec w) : BitVec w := if x = BitVec.allOnes w then x else x + 1

/-- A count lowered by what the host has seen of it, never below 0 (R140). -/
def lowerBy {w : Nat} (x seen : BitVec w) : BitVec w := if seen.toNat ≤ x.toNat then x - seen else 0

/-- The members of a bay set. -/
def inSet (set : BaySet) (b : BayNo) : Bool := set.getLsbD b.val

/-- The bay set of the bays that satisfy a condition, bay n in bit n (R181). -/
def baySetOf (p : BayNo → Bool) : BaySet :=
  allBays.foldl (fun set b => if p b then set ||| (1#24 <<< b.val) else set) 0

/-- The expiry time of a timer of so many microseconds started now (R154). -/
def expiryAfter (clock : Time) (us : Nat) : Time := clock + BitVec.ofNat 48 us

/-- The clock has come to an expiry time: it stands at it or not half a turn past it (R154;
assumption 19). -/
def reached (expiry clock : Time) : Bool := (clock - expiry).toNat < 2 ^ 47

/-- A timer runs and has run out. -/
def ranOut (timer : Option Time) (clock : Time) : Bool :=
  match timer with
  | none => false
  | some expiry => reached expiry clock

/-- The interval from one clock value to a later one, modulo 2^48 (R154). -/
def interval (since till : Time) : Nat := (till - since).toNat

end Sys2Proof.Machine
end

