-- ==== Sys2Proof/Machine/Flags.lean ====
section
/-! DEFINITION. The flag sets of the part: the eight indicators (R102), the presence byte of slot details
and records (R181), the options and flags of a gather (R181) and the flag byte of a reply (R182). -/

namespace Sys2Proof.Machine

/-! ### Indicators, LOW in bit 0 to SILENT in bit 7 (R181) -/

def indLow : Indicators := 0x01
def indHigh : Indicators := 0x02
def indEdge : Indicators := 0x04
def indClipped : Indicators := 0x08
def indAbsent : Indicators := 0x10
def indLate : Indicators := 0x20
def indDraw : Indicators := 0x40
def indSilent : Indicators := 0x80

/-- An indicator when its condition holds, and the empty set otherwise. -/
def setWhen (p : Bool) (i : Indicators) : Indicators := if p then i else 0

/-- One bit of a flag byte. -/
def bitWhen (p : Bool) (n : Nat) : Nat := if p then 2 ^ n else 0

/-- The presence byte of a slot detail and of an OUTCOME record (R181). -/
def Slot.presence (x : Slot) : Byte :=
  BitVec.ofNat 8 (bitWhen x.sendTime.isSome 0 + bitWhen x.answerTime.isSome 1 + bitWhen x.status.isSome 2 +
    bitWhen x.raw.isSome 3 + bitWhen x.scaled.isSome 4 + bitWhen x.stats.isSome 5 +
    bitWhen (x.stats.any (·.sat)) 6 + bitWhen (x.stats.any (·.clamp)) 7)

/-- The options byte of a gather: MEASURE, BENCH_ON_FAIL, EXPECT_RESTART (R181). -/
def Gather.optionsByte (g : Gather) : Byte :=
  BitVec.ofNat 8 (bitWhen g.measure 0 + bitWhen g.benchOnFail 1 + bitWhen g.expectRestart 2)

/-- The flags byte of a gather: CANCELLED, ABORTED (R181). -/
def Gather.flagsByte (g : Gather) : Byte :=
  BitVec.ofNat 8 (bitWhen g.cancelled 0 + bitWhen g.aborted 1)

/-- The flag byte of a reply (R182). -/
def ReplyFlags.byte (f : ReplyFlags) : Byte :=
  BitVec.ofNat 8 (bitWhen f.noticeWaiting 0 + bitWhen f.stationHeld 1 + bitWhen f.stopAsserted 2)

/-- A one-byte flag holds 0 for clear and 1 for set (R181). -/
def flagByte (p : Bool) : Byte := if p then 1 else 0

end Sys2Proof.Machine
end

