-- ==== Sys2Proof/Machine/Evaluation.lean ====
section
/-! DEFINITION. The Evaluation Unit: scaling, indicators, verdict, profile statistics and gather extremes
(chapter 5). -/

namespace Sys2Proof.Machine

/-! ### Scaling (R99 to R101) -/

/-- P divided by d, rounded to the nearest integer with a tie going away from zero (R100, steps 2 and 3). -/
def roundedQuotient (P d : Int) : Int :=
  let q := P.tdiv d
  let r := P - q * d
  if 2 * r.natAbs ≥ d.natAbs ∧ r ≠ 0 then (if P > 0 then q + 1 else q - 1) else q

/-- The exact result S of the five steps before saturation (R100). -/
def scaleExact (v m d b : Int) : Int := roundedQuotient (v * m) d + b

def int32Min : Int := -2147483648
def int32Max : Int := 2147483647

/-- S brought into the signed 32-bit range (R101). -/
def saturate32 (S : Int) : BitVec 32 := BitVec.ofInt 32 (clampInt int32Min int32Max S)

/-- CLIPPED is set exactly when the exact result lay outside the range (R101). -/
def clipped (S : Int) : Bool := S < int32Min || int32Max < S

/-- The exact result for a slot, when a scaled value is formed at all: an answer with status 0 and a value,
under a NUMERIC profile (R99). -/
def exactScaled (p : Profile) (x : Slot) : Option Int :=
  match x.ending, x.status, x.raw with
  | some .answered, some status, some raw =>
    if status = 0 ∧ p.mode = .numeric then some (scaleExact raw.toInt p.m.toInt p.d.toNat p.b.toInt) else none
  | _, _, _ => none

/-- The latency of an answered slot, answer time minus send time modulo 2^48 (R32, R60). -/
def Slot.latency (x : Slot) : Nat :=
  match x.sendTime, x.answerTime with
  | some sent, some answered => interval sent answered
  | _, _ => 0

/-! ### Indicators (R103 to R107) -/

/-- LOW, HIGH and EDGE of a scaled value, and CLIPPED of its exact result (R101, R103). -/
def valueIndicators (p : Profile) (S : Int) : Indicators :=
  let v := (saturate32 S).toInt
  setWhen (v < p.low.toInt) indLow ||| setWhen (p.high.toInt < v) indHigh |||
    setWhen (v = p.low.toInt || v = p.high.toInt) indEdge ||| setWhen (clipped S) indClipped

/-- ABSENT: a non-zero status, or a NUMERIC profile and no value with status 0 (R104). -/
def absentFound (p : Profile) (x : Slot) : Bool :=
  x.ending == some .answered && (x.status != some 0 || (p.mode == .numeric && x.raw.isNone))

/-- LATE: a latency above the profile's limit (R105). -/
def lateFound (p : Profile) (x : Slot) : Bool :=
  x.ending == some .answered && p.latencyMs != 0 && p.latencyMs.toNat * 1000 < x.latency

/-- DRAW: an RMS current above the profile's limit, under MEASURE (R106). -/
def drawFound (p : Profile) (measure : Bool) (x : Slot) : Bool :=
  p.currentMa != 0 && measure && x.stats.any (fun t => p.currentMa.toNat < t.rms)

/-- SILENT: an ending without a credited answer (R107). -/
def silentFound (x : Slot) : Bool :=
  x.ending == some .timedOut || x.ending == some .lost || x.ending == some .unreached

/-- The indicator set of a slot (R102 to R107). -/
def indicatorsOf (p : Profile) (measure : Bool) (x : Slot) : Indicators :=
  ((exactScaled p x).elim 0 (valueIndicators p)) ||| setWhen (absentFound p x) indAbsent |||
    setWhen (lateFound p x) indLate ||| setWhen (drawFound p measure x) indDraw |||
    setWhen (silentFound x) indSilent

/-- FAIL when the indicators and the fail mask have a member in common (R108). -/
def verdictOf (indicators failMask : Indicators) : Verdict :=
  if indicators &&& failMask = 0 then .pass else .fail

/-- The slot with its judgement: scaled value, indicators and verdict (R98). -/
def evaluate (p : Profile) (failMask : Indicators) (measure : Bool) (x : Slot) : Slot :=
  { x with scaled := (exactScaled p x).map saturate32, indicators := indicatorsOf p measure x,
           verdict := verdictOf (indicatorsOf p measure x) failMask }

/-! ### Statistics and extremes (R109, R110) -/

/-- The lower of a signed value and one that may be absent; an equal one stays (R109). -/
def lowerOf (m : Option (BitVec 32)) (v : BitVec 32) : Option (BitVec 32) :=
  match m with
  | none => some v
  | some x => if v.toInt < x.toInt then some v else some x

/-- The higher of the two (R109). -/
def higherOf (m : Option (BitVec 32)) (v : BitVec 32) : Option (BitVec 32) :=
  match m with
  | none => some v
  | some x => if x.toInt < v.toInt then some v else some x

/-- A profile after an evaluation: the evaluated count and the extremes when a scaled value was formed, the
fail count when the verdict is FAIL (R109). -/
def Profile.account (p : Profile) (x : Slot) : Profile :=
  let p := match x.scaled with
    | none => p
    | some v => { p with evaluated := satInc p.evaluated, minimum := lowerOf p.minimum v,
                         maximum := higherOf p.maximum v }
  if x.verdict = .fail then { p with fails := satInc p.fails } else p

/-- The lowest scaled value of a gather and its bay; an equal value leaves them (R110). -/
def lowestOf (m : Option Extreme) (b : BayNo) (v : BitVec 32) : Option Extreme :=
  match m with
  | none => some ⟨v, b⟩
  | some x => if v.toInt < x.value.toInt then some ⟨v, b⟩ else some x

/-- The highest scaled value of a gather and its bay (R110). -/
def highestOf (m : Option Extreme) (b : BayNo) (v : BitVec 32) : Option Extreme :=
  match m with
  | none => some ⟨v, b⟩
  | some x => if x.value.toInt < v.toInt then some ⟨v, b⟩ else some x

/-- The extremes of a summary after an evaluation (R110). -/
def Summary.extremes (m : Summary) (b : BayNo) (x : Slot) : Summary :=
  match x.scaled with
  | none => m
  | some v => { m with lowest := lowestOf m.lowest b v, highest := highestOf m.highest b v }

/-- One more of an ending (R85). -/
def EndingCounts.count (c : EndingCounts) : Ending → EndingCounts
  | .answered => { c with answered := c.answered + 1 }
  | .timedOut => { c with timedOut := c.timedOut + 1 }
  | .lost => { c with lost := c.lost + 1 }
  | .unreached => { c with unreached := c.unreached + 1 }
  | .skipped => { c with skipped := c.skipped + 1 }
  | .cancelled => { c with cancelled := c.cancelled + 1 }

/-- One less in the count of a slot's former stage (R85). -/
def Summary.leave (m : Summary) : Stage → Summary
  | .queued => { m with queued := m.queued - 1 }
  | .sent => { m with sent := m.sent - 1 }
  | .outside => m
  | .final => m

/-- The bay joins the PASS or the FAIL set by the slot's verdict (R85). -/
def Summary.judge (m : Summary) (b : BayNo) : Verdict → Summary
  | .pass => { m with passSet := m.passSet ||| (1#24 <<< b.val), passCount := m.passCount + 1 }
  | .fail => { m with failSet := m.failSet ||| (1#24 <<< b.val), failCount := m.failCount + 1 }
  | .none => m

end Sys2Proof.Machine
end

