-- ==== Sys2Proof/Machine/Check.lean ====
section
/-! DEFINITION. The check of every frame on both links (R21, R171, R176). -/

namespace Sys2Proof.Machine

/-- One of the eight steps of a byte: shift left within 16 bits, and combine with 0x1021 when the bit
shifted out was 1 (R21). -/
def crcStep (r : BitVec 16) : BitVec 16 :=
  if r.msb then (r <<< 1) ^^^ 0x1021 else r <<< 1

/-- A byte taken into the check register: combined into its high eight bits, then eight steps (R21). -/
def crcByte (r : BitVec 16) (b : Byte) : BitVec 16 :=
  Nat.repeat crcStep 8 (r ^^^ (b.setWidth 16 <<< 8))

/-- The check of a run of bytes, from 0xFFFF, with no final inversion (R21). -/
def crc (bs : List Byte) : BitVec 16 := bs.foldl crcByte 0xFFFF

/-- The bytes a bay frame's check covers: kind, tag, length and body (R21). -/
def bayCovered (f : BayFrame) : List Byte := [f.kind, f.tag, f.length] ++ f.body

/-- The received check agrees with the one computed over the bytes received (R21). -/
def bayIntact (f : BayFrame) : Bool := crc (bayCovered f) == f.check

/-- The bytes a request frame's check covers: body length, code, sequence byte and body (R171). -/
def requestCovered (f : RequestFrame) : List Byte :=
  leBytes 2 f.length.toNat ++ [f.code, f.seq] ++ f.body

/-- The received check of a request frame agrees (R171). -/
def requestIntact (f : RequestFrame) : Bool := crc (requestCovered f) == f.check

/-- A bay frame the part sends, sync bytes and check included (R21, R182). -/
def bayFrameOut (kind tag : Byte) (body : List Byte) : List Byte :=
  let covered := [kind, tag, BitVec.ofNat 8 body.length] ++ body
  [0xA5, 0x5A] ++ covered ++ leBytes 2 (crc covered).toNat

end Sys2Proof.Machine
end

