-- ==== Sys2Proof/Machine/Formats.lean ====
section
/-! DEFINITION. How state is written as bytes: the codes of R181, the reply frame of R182, the bodies of
R183 and the record cell of R184. -/

namespace Sys2Proof.Machine

/-! ### Codes (R181, R180) -/

def BayState.code : BayState → Byte
  | .vacant => 0 | .unpowered => 1 | .cycling => 2 | .waking => 3 | .ready => 4
  | .asking => 5 | .benched => 6 | .dark => 7 | .faulted => 8

def OnMode.code : OnMode → Byte
  | .limited => 1 | .full => 2

def SupplyMode.code : SupplyMode → Byte
  | .off => 0 | .on m => m.code

/-- The gather state has a code for OPEN and DONE; no reply reports a FREE entry (R181). -/
def GatherState.code : GatherState → Byte
  | .free => 0 | .opened => 1 | .done => 2

def Stage.code : Stage → Byte
  | .outside => 0 | .queued => 1 | .sent => 2 | .final => 3

def Ending.code : Ending → Byte
  | .answered => 1 | .timedOut => 2 | .lost => 3 | .unreached => 4 | .skipped => 5 | .cancelled => 6

/-- The ending code of a slot, 0 while it is not FINAL (R181). -/
def endingCode : Option Ending → Byte
  | none => 0 | some e => e.code

def Verdict.code : Verdict → Byte
  | .none => 0 | .pass => 1 | .fail => 2

def ValueMode.code : ValueMode → Byte
  | .statusOnly => 0 | .numeric => 1

def RingMode.code : RingMode → Byte
  | .stop => 0 | .wrap => 1

def Status.code : Status → Byte
  | .ok => 0 | .unknownRequest => 1 | .badLength => 2 | .badParam => 3 | .busy => 4
  | .full => 5 | .notFound => 6 | .wrongState => 7 | .stopAsserted => 8 | .locked => 9

/-! ### Fields -/

/-- A field of k bytes written from a bit vector; a signed one is two's complement (R181). -/
def put {w : Nat} (k : Nat) (x : BitVec w) : List Byte := leBytes k x.toNat

/-- An absent field is carried as zero bytes of its full size (R181). -/
def putOption {w : Nat} (k : Nat) (x : Option (BitVec w)) : List Byte := leBytes k ((x.map BitVec.toNat).getD 0)

/-- Bytes made up to n with zeros. -/
def padTo (n : Nat) (bs : List Byte) : List Byte := bs ++ List.replicate (n - bs.length) 0

/-- The ten bytes of current statistics, zero when absent (R183, R184). -/
def putStats : Option Stats → List Byte
  | none => List.replicate 10 0
  | some x => leBytes 2 x.n ++ leBytes 2 x.mean ++ leBytes 2 x.rms ++ leBytes 2 x.peak ++ leBytes 2 x.min

/-! ### Frames the part sends (R182) -/

/-- An ASK frame: the ask's tag, its command code and its arguments (R22, R30). -/
def askFrame (a : Ask) : List Byte := bayFrameOut kindAsk a.tag (put 2 a.command ++ a.args)

/-- A TUNNEL_OUT frame: tag 0 and the block (R22, R37). -/
def tunnelFrame (block : List Byte) : List Byte := bayFrameOut kindTunnelOut 0 block

/-- A reply frame; its check covers everything after the sync byte (R176, R182). -/
def replyFrame (code seq : Byte) (r : Reply) : List Byte :=
  let covered := leBytes 2 r.body.length ++ [code, seq, r.status.code, r.flags.byte] ++ r.body
  0x3C :: covered ++ leBytes 2 (crc covered).toNat

/-! ### Reply bodies (R183) -/

/-- The bay status body (R16, R183). -/
def bayStatusBody (b : BayNo) (x : Bay) : List Byte :=
  let serial := (x.identity.map (·.serial)).getD []
  [BitVec.ofNat 8 b.val, x.state.code, flagByte x.present, x.supply.mode.code, x.supply.saved.code,
    BitVec.ofNat 8 (bitWhen x.identity.isSome 0 + bitWhen x.link.tunnelOut.isSome 1 +
      bitWhen x.link.tunnelIn.isSome 2)] ++
  putOption 2 (x.identity.map (·.version)) ++ [BitVec.ofNat 8 serial.length] ++ padTo 24 serial ++
  putOption 6 (x.identity.map (·.time)) ++ put 2 x.signOns ++
  [BitVec.ofNat 8 x.link.lineRate.val, x.link.nextTag] ++
  put 2 x.link.linkErrors ++ put 2 x.link.stale ++ put 2 x.link.tunnelDrops ++
  put 2 x.supply.trips ++ put 2 x.supply.sags ++
  [BitVec.ofNat 8 x.queue.length] ++ leBytes 2 x.ring.occupancy

/-- A tunnel slot as GET_TUNNEL and PEEK_TUNNEL return it (R39, R183). -/
def tunnelBody : Option (List Byte) → List Byte
  | none => [0, 0]
  | some block => [1, BitVec.ofNat 8 block.length] ++ block

/-- The gather summary body (R86, R183). -/
def gatherSummaryBody (i : GatherNo) (g : Gather) : List Byte :=
  let m := g.summary
  [BitVec.ofNat 8 i.val] ++ put 2 g.serial ++ [g.state.code, g.flagsByte] ++ put 3 g.bays ++
  put 2 g.command ++ [BitVec.ofNat 8 g.profile.val, g.failMask] ++ put 2 g.timeoutMs ++
  [g.optionsByte] ++ put 6 g.armTime ++
  [m.endings.answered, m.endings.timedOut, m.endings.lost, m.endings.unreached, m.endings.skipped,
    m.endings.cancelled, m.queued, m.sent].map (BitVec.ofNat 8) ++
  put 3 m.passSet ++ [BitVec.ofNat 8 m.passCount] ++ put 3 m.failSet ++ [BitVec.ofNat 8 m.failCount] ++
  [BitVec.ofNat 8 (bitWhen m.lowest.isSome 0 + bitWhen m.highest.isSome 1 + bitWhen g.firstSend.isSome 2 +
    bitWhen g.lastFinal.isSome 3)] ++
  putOption 4 (m.lowest.map (·.value)) ++ [BitVec.ofNat 8 ((m.lowest.map (·.bay.val)).getD 0)] ++
  putOption 4 (m.highest.map (·.value)) ++ [BitVec.ofNat 8 ((m.highest.map (·.bay.val)).getD 0)] ++
  putOption 6 g.firstSend ++ putOption 6 g.lastFinal

/-- The slot detail body (R87, R183). -/
def slotBody (i : GatherNo) (serial : BitVec 16) (b : BayNo) (x : Slot) : List Byte :=
  [BitVec.ofNat 8 i.val] ++ put 2 serial ++
  [BitVec.ofNat 8 b.val, x.stage.code, endingCode x.ending, x.verdict.code, x.indicators, x.presence,
    x.tag.getD 0] ++
  putOption 6 x.sendTime ++ putOption 6 x.answerTime ++ [x.status.getD 0] ++
  putOption 4 x.raw ++ putOption 4 x.scaled ++ putStats x.stats ++
  [BitVec.ofNat 8 x.payload.length] ++ x.payload

/-- The body of READ_PROFILE (R96, R183). -/
def profileBody (n : ProfileNo) (p : Profile) : List Byte :=
  [BitVec.ofNat 8 n.val, p.mode.code] ++ put 2 p.m ++ put 2 p.d ++ put 4 p.b ++ put 4 p.low ++ put 4 p.high ++
  put 2 p.latencyMs ++ put 2 p.currentMa ++ [BitVec.ofNat 8 p.inUse] ++ put 4 p.evaluated ++
  [BitVec.ofNat 8 (bitWhen p.minimum.isSome 0 + bitWhen p.maximum.isSome 1)] ++
  putOption 4 p.minimum ++ putOption 4 p.maximum ++ put 4 p.fails

/-- The body of RING_STATUS; the oldest sequence is read from the oldest record (R139, R183). -/
def ringStatusBody (b : BayNo) (r : Ring) (oldestSeq : Option (BitVec 32)) : List Byte :=
  [BitVec.ofNat 8 b.val] ++ leBytes 2 r.base ++ leBytes 2 r.length ++ [r.mode.code] ++
  leBytes 2 r.occupancy ++ leBytes 2 r.oldest ++ [flagByte oldestSeq.isSome] ++ putOption 4 oldestSeq ++
  put 2 r.drops ++ put 2 r.overwrites ++ put 4 r.nextSeq

/-- The calibration pair as a request or reply carries it: gain unsigned, offset signed (R183). -/
def calBody (c : Calibration) : List Byte := put 2 c.gain ++ put 2 (c.offset.signExtend 16)

/-! ### Record cells (R184) -/

/-- The three record kinds (R135, R181). -/
inductive RecordKind where
  | outcome | signOn | supply
  deriving DecidableEq, Repr

def RecordKind.code : RecordKind → Nat
  | .outcome => 1 | .signOn => 2 | .supply => 3

/-- The four supply events (R56, R181). -/
inductive SupplyEvent where
  | trip | sag | cycleOff | cycleOn
  deriving DecidableEq, Repr

def SupplyEvent.code : SupplyEvent → Byte
  | .trip => 1 | .sag => 2 | .cycleOff => 3 | .cycleOn => 4

/-- A record cell of 96 bytes: the common fields, then the kind's own, then zeros (R135, R184). -/
def recordCell (kind : RecordKind) (b : BayNo) (seq : BitVec 32) (time : Time) (own : List Byte) : List Byte :=
  padTo 96 ([BitVec.ofNat 8 (b.val + 32 * kind.code)] ++ put 4 seq ++ put 6 time ++ own)

/-- An age: the record's time minus an earlier time, modulo 2^48, zero when absent (R184). -/
def age (time : Time) (since : Option Time) : Nat := (since.map (fun t => interval t time)).getD 0

/-- The own fields of an OUTCOME record (R75, R136, R184). -/
def outcomeFields (i : GatherNo) (g : Gather) (x : Slot) (time : Time) : List Byte :=
  put 2 g.serial ++ [BitVec.ofNat 8 i.val, x.tag.getD 0] ++ put 2 g.command ++
  [endingCode x.ending ||| (x.verdict.code <<< 4), x.indicators, x.presence] ++
  leBytes 4 (age time x.sendTime) ++ leBytes 4 (age time x.answerTime) ++ [x.status.getD 0] ++
  putOption 4 x.raw ++ putOption 4 x.scaled ++ putStats x.stats ++
  [BitVec.ofNat 8 x.payload.length] ++ padTo 48 x.payload

/-- The own fields of a SIGN_ON record (R7, R137, R184). -/
def signOnFields (a : SignOn) (changed : Bool) : List Byte :=
  put 2 a.version ++ [BitVec.ofNat 8 a.serial.length] ++ padTo 24 a.serial ++ [flagByte changed]

/-- The own fields of a SUPPLY record (R56, R137, R184). -/
def supplyFields (e : SupplyEvent) (mode : OnMode) : List Byte := [e.code, mode.code]

end Sys2Proof.Machine
end

