-- ==== Sys2Proof/Machine/NoticePlaces.lean ====
section
/-! DEFINITION. The Notice Unit's places, their classes and their latching (chapter 9). -/

namespace Sys2Proof.Machine

/-- The class number of a place, its position in priority order (R161). -/
def Place.classNo : Place → Nat
  | .stopLine => 0 | .bayFault _ => 1 | .bayDark _ => 2 | .presence _ => 3
  | .gatherDone _ => 4 | .ringFull _ => 5 | .tunnelIn _ => 6 | .signedOn _ => 7

/-- The source number of a place (R161). -/
def Place.sourceNo : Place → Nat
  | .stopLine => 0 | .bayFault b => b.val | .bayDark b => b.val | .presence b => b.val
  | .gatherDone i => i.val | .ringFull b => b.val | .tunnelIn b => b.val | .signedOn b => b.val

/-- The 161 places, by class number and then by source number (R161, R165). -/
def allPlaces : List Place :=
  .stopLine :: allBays.map .bayFault ++ allBays.map .bayDark ++ allBays.map .presence ++
  allGathers.map .gatherDone ++ allBays.map .ringFull ++ allBays.map .tunnelIn ++ allBays.map .signedOn

/-- A place waits to be reported, whatever its class's bit: an event place PENDING, or a condition place
ACTIVE with its mark clear (R161). -/
def Notices.waiting (n : Notices) : Place → Bool
  | .stopLine => n.stopLine
  | .bayFault b => n.bayFault.get b
  | .bayDark b => n.bayDark.get b
  | .presence b => n.presence.get b
  | .gatherDone i => n.gatherDone.get i
  | .ringFull b => n.ringFull.get b == .unreported
  | .tunnelIn b => n.tunnelIn.get b == .unreported
  | .signedOn b => n.signedOn.get b

/-- An event place made PENDING or CLEAR; a condition place has no such value and stays. -/
def Notices.setEvent (n : Notices) (v : Bool) : Place → Notices
  | .stopLine => { n with stopLine := v }
  | .bayFault b => { n with bayFault := n.bayFault.set b v }
  | .bayDark b => { n with bayDark := n.bayDark.set b v }
  | .presence b => { n with presence := n.presence.set b v }
  | .gatherDone i => { n with gatherDone := n.gatherDone.set i v }
  | .ringFull _ => n
  | .tunnelIn _ => n
  | .signedOn b => { n with signedOn := n.signedOn.set b v }

/-- A condition place that follows a rise of its cause: INACTIVE becomes ACTIVE, unreported (R163). -/
def Condition.rise : Condition → Condition
  | .inactive => .unreported | .unreported => .unreported | .reported => .reported

/-- A condition place whose mark is set when it is ACTIVE (R163, R166). -/
def Condition.mark : Condition → Condition
  | .inactive => .inactive | .unreported => .reported | .reported => .reported

/-- A place as POLL_NOTICE leaves the one it chooses: an event CLEAR, a condition marked (R165). -/
def Notices.collect (n : Notices) : Place → Notices
  | .ringFull b => { n with ringFull := n.ringFull.set b (n.ringFull.get b).mark }
  | .tunnelIn b => { n with tunnelIn := n.tunnelIn.set b (n.tunnelIn.get b).mark }
  | .stopLine => n.setEvent false .stopLine
  | .bayFault b => n.setEvent false (.bayFault b)
  | .bayDark b => n.setEvent false (.bayDark b)
  | .presence b => n.setEvent false (.presence b)
  | .gatherDone i => n.setEvent false (.gatherDone i)
  | .signedOn b => n.setEvent false (.signedOn b)

/-- Every event place CLEAR and every ACTIVE condition place marked (R166). -/
def Notices.clearAll (n : Notices) : Notices :=
  { Notices.reset with ringFull := n.ringFull.map Condition.mark, tunnelIn := n.tunnelIn.map Condition.mark }

/-- The class of a place is enabled in the class mask (R161). -/
def State.classEnabled (s : State) (p : Place) : Bool := s.classMask.getLsbD p.classNo

/-- A notice is reportable: its class is enabled and its place waits (R161). -/
def State.reportable (s : State) (p : Place) : Bool := s.classEnabled p && s.notices.waiting p

/-- An event notice is raised: latched when its class is enabled, and not remembered otherwise (R162). -/
def State.raise (s : State) (p : Place) : State :=
  if s.classEnabled p then { s with notices := s.notices.setEvent true p } else s

/-- A pending event notice is removed (R168). -/
def State.clearNotice (s : State) (p : Place) : State := { s with notices := s.notices.setEvent false p }

/-- The RING_FULL cause of a bay becomes ACTIVE (R142, R163). -/
def State.ringFullRises (s : State) (b : BayNo) : State :=
  { s with notices := { s.notices with ringFull := s.notices.ringFull.set b (s.notices.ringFull.get b).rise } }

/-- The RING_FULL cause of a bay becomes INACTIVE and its mark clear (R141, R163). -/
def State.ringFullFalls (s : State) (b : BayNo) : State :=
  { s with notices := { s.notices with ringFull := s.notices.ringFull.set b .inactive } }

/-- The TUNNEL_IN cause of a bay becomes ACTIVE (R38, R163). -/
def State.tunnelInRises (s : State) (b : BayNo) : State :=
  { s with notices := { s.notices with tunnelIn := s.notices.tunnelIn.set b (s.notices.tunnelIn.get b).rise } }

/-- The TUNNEL_IN cause of a bay becomes INACTIVE and its mark clear (R39, R163). -/
def State.tunnelInFalls (s : State) (b : BayNo) : State :=
  { s with notices := { s.notices with tunnelIn := s.notices.tunnelIn.set b .inactive } }

/-- The most urgent reportable place (R165). -/
def State.mostUrgent (s : State) : Option Place := allPlaces.find? s.reportable

/-- How many places are reportable (R165). -/
def State.reportableCount (s : State) : Nat := allPlaces.countP s.reportable

/-- The three flags of a reply, sampled now (R146, R167, R176). -/
def State.replyFlags (s : State) : ReplyFlags :=
  { noticeWaiting := allPlaces.any s.reportable, stationHeld := s.run == .held, stopAsserted := s.stopLine }

end Sys2Proof.Machine
end

