-- ==== Sys2Proof/Machine/Sampling.lean ====
section
/-! DEFINITION. The Current Measurement Unit: the arbiter, the calibration of a sample, accumulation and
the statistics of a window (chapter 6). -/

namespace Sys2Proof.Machine

/-- A window just opened (R113). -/
def Accumulator.cleared : Accumulator :=
  { n := 0, sum := 0, sumSquares := 0, minimum := none, maximum := none, sat := false, clamp := false }

/-! ### Calibration and accumulation (R119 to R122) -/

/-- The calibrated value of a code before clamping (R119). -/
def calibrate (c : Calibration) (code : BitVec 12) : Int :=
  ((code.toNat * c.gain.toNat + 2048) / 4096 : Nat) + c.offset.toInt

/-- The sample in mA, clamped to 0 to 8191 (R120). -/
def clampSample (x : Int) : Nat := (clampInt 0 8191 x).toNat

/-- Clamping changes the value (R120). -/
def sampleClamped (x : Int) : Bool := x < 0 || 8191 < x

/-- The smaller of a value and one that may be unset. -/
def minOf (m : Option Nat) (c : Nat) : Option Nat :=
  match m with
  | none => some c
  | some x => some (if c < x then c else x)

/-- The larger of a value and one that may be unset. -/
def maxOf (m : Option Nat) (c : Nat) : Option Nat :=
  match m with
  | none => some c
  | some x => some (if x < c then c else x)

/-- A calibrated value, not yet clamped, credited to an open window: accumulated while n is below 65 535
(R121, with the CLAMP flag of R120), and discarded with SAT set from then on (R122). -/
def Accumulator.credit (a : Accumulator) (x : Int) : Accumulator :=
  if a.n < 65535 then
    { n := a.n + 1, sum := a.sum + clampSample x, sumSquares := a.sumSquares + clampSample x * clampSample x,
      minimum := minOf a.minimum (clampSample x), maximum := maxOf a.maximum (clampSample x), sat := a.sat,
      clamp := a.clamp || sampleClamped x }
  else { a with sat := true }

/-! ### Statistics (R123) -/

/-- The square root found bit by bit: r with the k lower bits still to be tried. -/
def sqrtBits : Nat → Nat → Nat → Nat
  | 0, _, r => r
  | k + 1, x, r => sqrtBits k x (if (r + 2 ^ k) * (r + 2 ^ k) ≤ x then r + 2 ^ k else r)

/-- The largest whole number whose square does not exceed x (R123). -/
def floorSqrt (x : Nat) : Nat := sqrtBits (x.log2 / 2 + 1) x 0

/-- The statistics handed over at the close: none when n is 0 (R114, R123). -/
def Accumulator.stats (a : Accumulator) : Option Stats :=
  if a.n = 0 then none
  else some { n := a.n, mean := a.sum / a.n, rms := floorSqrt (a.sumSquares / a.n), peak := a.maximum.getD 0,
              min := a.minimum.getD 0, sat := a.sat, clamp := a.clamp }

/-- The statistics a window would hand over now. -/
def Window.stats : Window → Option Stats
  | .closed => none
  | .opened a => a.stats

def Window.isOpen : Window → Bool
  | .closed => false
  | .opened _ => true

/-! ### The arbiter (R116) -/

/-- The bays in the order the arbiter looks at them: from the bay after the last granted one, wrapping
from 23 to 0, and ending with the last granted bay itself (R116). -/
def searchOrder (last : BayNo) : List BayNo := allBays.map (fun k => last + 1 + k)

/-- The bay the next grant goes to (R116). -/
def State.nextGrant (s : State) : Option BayNo :=
  (searchOrder s.lastGranted).find? (fun b => (s.bay b).window.isOpen)

/-- A grant when the converter is IDLE and a window is OPEN; the conversion ends 10 us later (R115, R116). -/
def State.grant (s : State) : State :=
  match s.converter, s.nextGrant with
  | .idle, some b =>
    { s with converter := .converting b (expiryAfter s.clock 10) true, lastGranted := b }
  | _, _ => s

/-- The sampling window of a bay opens with cleared accumulators, and a grant follows at once when the
converter is IDLE (R113). -/
def State.openWindow (s : State) (b : BayNo) : State :=
  (s.modBay b (fun x => { x with window := .opened .cleared })).grant

/-- The conversion in progress, if it was tied to this bay's window, is tied to it no longer (R114, R117). -/
def Converter.untie (c : Converter) (b : BayNo) : Converter :=
  match c with
  | .idle => .idle
  | .converting granted ends tied => .converting granted ends (tied && granted ≠ b)

/-- The sampling window of a bay closes; the converter runs on (R114). -/
def State.closeWindow (s : State) (b : BayNo) : State :=
  let s := s.modBay b (fun x => { x with window := .closed })
  { s with converter := s.converter.untie b }

/-- The sample of a conversion that ends: credited to the window of the granted bay when the window it was
tied to is still open, and discarded otherwise (R117). -/
def State.creditSample (s : State) (b : BayNo) (tied : Bool) (code : BitVec 12) : State :=
  match tied, (s.bay b).window with
  | true, .opened a => s.modBay b (fun x => { x with window := .opened (a.credit (calibrate x.cal code)) })
  | _, _ => s

end Sys2Proof.Machine
end

