-- ==== Sys2Proof/Machine/Ops.lean ====
section
/-! DEFINITION. The operations that several commands share: writing a record, switching a supply, the
frames of a bay link, completing a slot and a gather, ending asks and queued slots, and waking a bay.
Each follows one rule of the manual, in that rule's order. -/

namespace Sys2Proof.Machine

/-! ### Result rings (chapter 7) -/

/-- The cell of a position of a ring's window, counted from the oldest record and wrapping from the last
cell to the first (R131). The cell number is taken within the store (assumption 12). -/
def Ring.cellAt (r : Ring) (k : Nat) : CellNo := Fin.ofNat 4096 (r.base + (r.oldest + k) % r.length)

/-- The ring holds fewer records than its window has cells (R134). -/
def Ring.hasRoom (r : Ring) : Bool := r.occupancy < r.length

/-- A record handed over now is put into a cell: not in a window of length 0, nor in a full ring in STOP
mode (R134). -/
def Ring.keeps (r : Ring) : Bool := r.length ≠ 0 && (r.hasRoom || r.mode == .wrap)

/-- A record handed over now is counted as a loss: a drop or an overwrite (R134). -/
def Ring.loses (r : Ring) : Bool := r.length ≠ 0 && !r.hasRoom

/-- The ring state after a record has been handed over: the sequence number is used whatever becomes of
the record (R133), and the record is placed by the state of the ring (R134). -/
def Ring.afterWrite (r : Ring) : Ring :=
  let r := { r with nextSeq := r.nextSeq + 1 }
  if r.length = 0 then r
  else if r.hasRoom then { r with occupancy := r.occupancy + 1 }
  else match r.mode with
    | .stop => { r with drops := satInc r.drops }
    | .wrap => { r with oldest := (r.oldest + 1) % r.length, overwrites := satInc r.overwrites }

/-- No loss is counted (R142). -/
def Ring.lossless (r : Ring) : Bool := r.drops == 0 && r.overwrites == 0

/-- A record is handed to the Result Store for a bay, with the clock as its time (R132 to R135). The first
loss counted from a sum of 0 makes the RING_FULL cause ACTIVE (R134, R142). -/
def State.writeRecord (s : State) (b : BayNo) (kind : RecordKind) (own : List Byte) : State :=
  let r := (s.bay b).ring
  let stored :=
    if r.keeps then
      { s with cells := writeCells s.cells (cellAddress (r.cellAt r.occupancy))
                          (recordCell kind b r.nextSeq s.clock own) }
    else s
  let accounted := stored.modBay b (fun x => { x with ring := x.ring.afterWrite })
  if r.loses && r.lossless then accounted.ringFullRises b else accounted

/-! ### Bay supply and bay link (chapters 2 and 3) -/

/-- The receiver and the transmitter are disabled: a partly received frame is discarded, a frame in
transmission cut off and a pending ask withdrawn (R20). -/
def Link.disable (l : Link) : Link :=
  { l with receiver := .disabled, gap := none, transmitter := .disabled, frameOut := [], pendingAsk := none }

/-- The receiver hunts and the transmitter is idle (R20). -/
def Link.enable (l : Link) : Link :=
  { l with receiver := .hunting, gap := none, transmitter := .idle, frameOut := [] }

/-- The trip threshold of a mode, in mA (R41). -/
def OnMode.threshold : OnMode → Nat
  | .limited => 600 | .full => 4000

/-- The supply goes off, for any cause (R42). -/
def Bay.switchOff (x : Bay) : Bay :=
  (x.modLink Link.disable).modSupply
    (fun p => { p with mode := .off, comparator := .idle, detector := .idle })

/-- The supply goes on in a mode, for any cause (R42). -/
def Bay.switchOn (x : Bay) (m : OnMode) : Bay :=
  (x.modLink Link.enable).modSupply
    (fun p => { p with mode := .on m, comparator := .watching m.threshold, detector := .low })

/-- The supply of a bay is on (R2). -/
def Bay.powered (x : Bay) : Bool := x.supply.mode != .off

/-- A cycle in progress ends without being restored: its timer stops and the saved mode becomes FULL
(R55). -/
def Bay.abandonCycle (x : Bay) : Bay :=
  if x.state = .cycling then x.modSupply (fun p => { p with cycleTimer := none, saved := .full }) else x

/-- The state of a bay taken out of service: UNPOWERED, or VACANT when it holds no phone (R14, R152). -/
def Bay.outOfService (x : Bay) : Bay := { x with state := if x.present then .unpowered else .vacant }

/-- The wake timer stops if it runs (R8). -/
def Bay.stopWake (x : Bay) : Bay := x.modLink (fun l => { l with wakeTimer := none })

/-- The bay enters WAKING and its wake timer starts with the wake timeout in force (R8). -/
def State.startWake (s : State) (b : BayNo) : State :=
  s.modBay b (fun x => { x with
    state := .waking,
    link := { x.link with wakeTimer := some (expiryAfter s.clock (s.wakeTimeout.toNat * 1000)) } })

/-- The powered set: the bays whose supply mode is not OFF (R41). -/
def State.poweredSet (s : State) : BaySet := baySetOf (fun b => (s.bay b).powered)

/-- The presence set (R3). -/
def State.presenceSet (s : State) : BaySet := baySetOf (fun b => (s.bay b).present)

/-- A tunnel-out block is waiting: the slot is full and the bay is READY, ASKING or BENCHED (R29). -/
def Bay.tunnelWaiting (x : Bay) : Bool :=
  x.link.tunnelOut.isSome && (x.state == .ready || x.state == .asking || x.state == .benched)

/-- The transmitter of a bay begins a frame when it is IDLE, the station is RUN and a sender is waiting,
the tunnel frame first (R29, R30, R37). -/
def State.beginFrame (s : State) (b : BayNo) : State :=
  let x := s.bay b
  if s.run = .run ∧ x.link.transmitter = .idle then
    if x.tunnelWaiting then
      s.modBay b (fun x => x.modLink (fun l =>
        { l with transmitter := .sendingTunnel, frameOut := tunnelFrame (l.tunnelOut.getD []) }))
    else match x.link.pendingAsk with
      | none => s
      | some a => s.modBay b (fun x => x.modLink (fun l =>
          { l with transmitter := .sendingAsk, pendingAsk := none, frameOut := askFrame a }))
  else s

/-- Something done at every bay in rising number; the bays share nothing along such a path (R152, R148;
assumption 18). -/
def State.eachBay (s : State) (f : State → BayNo → State) : State := allBays.foldl f s

/-! ### Completing slots and gathers (R73 to R80) -/

/-- The slot is QUEUED or SENT, and so can still receive an ending; a slot receives its ending once, and an
event that would end a slot already FINAL does not touch it (R62). -/
def Slot.endable (x : Slot) : Bool := x.stage == .queued || x.stage == .sent

/-- A slot of the gather is still QUEUED or SENT (R59). -/
def Gather.hasOpenSlot (g : Gather) : Bool :=
  allBays.any (fun b => (g.slot b).endable)

/-- A gather completes: DONE, its last final time, its profile's in-use count and its notice (R80). -/
def State.completeGather (s : State) (i : GatherNo) : State :=
  let p := (s.gather i).profile
  let s := s.modGather i (fun g => { g with state := .done, lastFinal := some s.clock })
  (s.modProfile p (fun x => { x with inUse := x.inUse - 1 })).raise (.gatherDone i)

/-- The gather completes when none of its slots is now QUEUED or SENT (R73, R76). -/
def State.completeGatherIfFinal (s : State) (i : GatherNo) : State :=
  if (s.gather i).hasOpenSlot then s else s.completeGather i

/-- The fields a slot takes from its ending (R74). -/
def Slot.withEnding (x : Slot) (e : Ending) (answer : Option Answer) (clock : Time) (stats : Option Stats) : Slot :=
  { x with stage := .final, ending := some e, stats := stats, answerTime := answer.map (fun _ => clock),
           status := answer.map (·.status), raw := answer.bind (·.value),
           payload := (answer.map (·.payload)).getD [] }

/-- The current statistics that completing this slot takes: those of the bay's window, which is open only
for a SENT slot (R73, step 1). -/
def State.statsFor (s : State) (i : GatherNo) (b : BayNo) : Option Stats :=
  if ((s.gather i).slot b).stage = .sent then (s.bay b).window.stats else none

/-- The slot as its completion leaves it: window, fields and evaluation (R73, steps 1 to 3). -/
def State.finalSlot (s : State) (i : GatherNo) (b : BayNo) (e : Ending) (answer : Option Answer) : Slot :=
  let g := s.gather i
  evaluate (s.profile g.profile) g.failMask g.measure
    ((g.slot b).withEnding e answer s.clock (s.statsFor i b))

/-- The window of a SENT slot closes (R73, step 1; R114). -/
def State.closeWindowFor (s : State) (i : GatherNo) (b : BayNo) : State :=
  if ((s.gather i).slot b).stage = .sent then s.closeWindow b else s

/-- A gather with a slot of it made final: the slot, the extremes and the counts of the summary (R85,
R110). -/
def Gather.finalise (g : Gather) (b : BayNo) (x : Slot) (e : Ending) : Gather :=
  let former := (g.slot b).stage
  { g.setSlot b x with
    summary := let m := ((g.summary.extremes b x).leave former).judge b x.verdict
               { m with endings := m.endings.count e } }

/-- The seven steps of R73 but the last, for a slot that is still QUEUED or SENT. -/
def State.finishEvaluated (s : State) (b : BayNo) (i : GatherNo) (e : Ending) (answer : Option Answer) : State :=
  let g := s.gather i
  let x := s.finalSlot i b e answer
  let s := s.closeWindowFor i b
  let s := s.modProfile g.profile (fun p => p.account x)
  let s := s.modGather i (fun g => g.finalise b x e)
  let s := s.writeRecord b .outcome (outcomeFields i g x s.clock)
  s.completeGatherIfFinal i

/-- The completion of a slot that ends ANSWERED, TIMED_OUT, LOST or UNREACHED, but for the bay's next
state (R73, steps 1 to 6). -/
def State.completeEvaluated (s : State) (b : BayNo) (i : GatherNo) (e : Ending) (answer : Option Answer) : State :=
  if ((s.gather i).slot b).endable then s.finishEvaluated b i e answer else s

/-- The three steps of R76, for a slot that is still QUEUED. -/
def State.finishUnevaluated (s : State) (b : BayNo) (i : GatherNo) (e : Ending) : State :=
  let s := s.modGather i (fun g =>
    g.finalise b { g.slot b with stage := .final, ending := some e, verdict := .none, indicators := 0 } e)
  s.completeGatherIfFinal i

/-- The completion of a slot that ends SKIPPED or CANCELLED (R76). -/
def State.completeUnevaluated (s : State) (b : BayNo) (i : GatherNo) (e : Ending) : State :=
  if ((s.gather i).slot b).endable then s.finishUnevaluated b i e else s

/-- The bay's queue is emptied (R64). -/
def Bay.emptyQueue (x : Bay) : Bay := { x with queue := [] }

/-- Every QUEUED slot of the bay ends UNREACHED, oldest first, each with its outcome record (R64). -/
def State.unreachQueue (s : State) (b : BayNo) : State :=
  (s.bay b).queue.foldl (fun t i => t.completeEvaluated b i .unreached none) (s.modBay b Bay.emptyQueue)

/-- Every QUEUED slot of the bay ends SKIPPED or CANCELLED, oldest first, without a record (R64). -/
def State.dropQueue (s : State) (b : BayNo) (e : Ending) : State :=
  (s.bay b).queue.foldl (fun t i => t.completeUnevaluated b i e) (s.modBay b Bay.emptyQueue)

/-- The gather whose slot is SENT for the bay, if any (R61). -/
def State.sentGather (s : State) (b : BayNo) : Option GatherNo :=
  allGathers.find? (fun i => ((s.gather i).slot b).stage == .sent)

/-- The link at the end of an ask: the answer timer stops, the outstanding tag becomes absent and a pending
ask is withdrawn (R34). -/
def Link.endAsk (l : Link) : Link := { l with answerTimer := none, outstanding := none, pendingAsk := none }

/-- The outstanding ask of an ASKING bay ends LOST (R34, R73); nothing when the bay is not ASKING. -/
def State.loseAsk (s : State) (b : BayNo) : State :=
  if (s.bay b).state = .asking then
    let t := s.modBay b (fun x => x.modLink Link.endAsk)
    match s.sentGather b with
    | none => t
    | some i => t.completeEvaluated b i .lost none
  else s

/-- What follows at the bay from an ask that ended ANSWERED or TIMED_OUT: BENCHED, WAKING or READY, chosen
on the completed slot and the gather's options (R11, R77 to R79). -/
def State.followAsk (s : State) (b : BayNo) (i : GatherNo) : State :=
  let g := s.gather i
  if (g.slot b).verdict = .fail ∧ g.benchOnFail then
    (s.modBay b (fun x => { x with state := .benched })).dropQueue b .skipped
  else if g.expectRestart then s.startWake b
  else s.modBay b (fun x => { x with state := .ready })

/-- The ask of an ASKING bay ends ANSWERED or TIMED_OUT (R32, R33, R73). An ASKING bay without a SENT slot,
which no run reaches (R61), becomes READY (assumption 16). -/
def State.endAsk (s : State) (b : BayNo) (e : Ending) (answer : Option Answer) : State :=
  let t := s.modBay b (fun x => x.modLink Link.endAsk)
  match s.sentGather b with
  | none => t.modBay b (fun x => { x with state := .ready })
  | some i => (t.completeEvaluated b i e answer).followAsk b i

/-! ### Emptying slots and clearing counts -/

/-- Both tunnel slots are emptied, which ends the bay's TUNNEL_IN cause (R5, R14). -/
def State.emptyTunnels (s : State) (b : BayNo) : State :=
  (s.modBay b (fun x => x.modLink (fun l => { l with tunnelOut := none, tunnelIn := none }))).tunnelInFalls b

/-- The wake and answer timers stop if they run (R5, R14). -/
def Bay.stopTimers (x : Bay) : Bay := x.modLink (fun l => { l with wakeTimer := none, answerTimer := none })

/-! ### The abort (R151, R152) -/

/-- The abort actions at one bay: none for a FAULTED bay, and otherwise the six steps of R152. -/
def State.abortBay (s : State) (b : BayNo) : State :=
  if (s.bay b).state = .faulted then s
  else
    let s := s.modBay b (fun x => (x.abandonCycle.switchOff).stopWake)
    let s := s.loseAsk b
    let s := s.dropQueue b .cancelled
    s.modBay b (fun x => (x.modLink (fun l => { l with tunnelOut := none })).outOfService)

/-- The ABORTED flag of every OPEN gather (R81). -/
def State.flagAborted (s : State) : State :=
  { s with gathers := s.gathers.map (fun g => if g.state = .opened then { g with aborted := true } else g) }

/-- The abort: HELD, the flags, then every bay (R151). -/
def State.abort (s : State) : State :=
  ({ s with run := .held }.flagAborted).eachBay State.abortBay

/-! ### Replies (R175, R176) -/

/-- The port takes WAITING entries in order: one refused at step 1 or 2 is answered at once, and the first
request for an owning block becomes IN_HAND; while an entry is IN_HAND none is taken (R175, R176). -/
def takeWaiting (flags : ReplyFlags) : List Entry → List Entry
  | [] => []
  | e :: es =>
    match e.phase with
    | .replying _ => e :: takeWaiting flags es
    | .inHand _ => e :: es
    | .waiting =>
      match decodeRequest e.code e.body with
      | .unknown => { e with phase := .replying (replyFrame e.code e.seq ⟨.unknownRequest, flags, []⟩) } ::
          takeWaiting flags es
      | .badLength => { e with phase := .replying (replyFrame e.code e.seq ⟨.badLength, flags, []⟩) } ::
          takeWaiting flags es
      | .request _ => { e with phase := .inHand false } :: es

/-- The port takes what it can; nothing while the start-up runs (R160, R175). -/
def State.takeRequests (s : State) : State :=
  match s.startup with
  | some _ => s
  | none => s.modPort (fun p => { p with buffer := takeWaiting s.replyFlags p.buffer })

/-- The entry that is IN_HAND, if any (R170). -/
def inHandEntry : List Entry → Option Entry
  | [] => none
  | e :: es =>
    match e.phase with
    | .inHand _ => some e
    | .waiting => inHandEntry es
    | .replying _ => inHandEntry es

/-- The request that is IN_HAND, if any, as its owning block reads it (R175). -/
def State.requestInHand (s : State) : Option Instr :=
  match inHandEntry s.port.buffer with
  | none => none
  | some e =>
    match decodeRequest e.code e.body with
    | .request c => some c
    | .unknown => none
    | .badLength => none

/-- The entry IN_HAND gets its reply and becomes REPLYING; one marked for discard leaves the buffer (R176,
R178). -/
def finishInHand (r : Reply) : List Entry → List Entry
  | [] => []
  | e :: es =>
    match e.phase with
    | .inHand false => { e with phase := .replying (replyFrame e.code e.seq r) } :: es
    | .inHand true => es
    | .waiting => e :: finishInHand r es
    | .replying _ => e :: finishInHand r es

/-- The reply to a request is composed after the request has been carried out, with the flags of that
moment (R146, R167, R176). When that request is the one IN_HAND, its entry becomes REPLYING and the port
takes the next; otherwise the reply stays in `lastReply` alone (assumption 3). -/
def State.answer (s : State) (c : Instr) (status : Status) (body : List Byte) : State :=
  let r : Reply := { status := status, flags := s.replyFlags, body := body }
  let s := { s with lastReply := some r }
  if s.requestInHand = some c then
    (s.modPort (fun p => { p with buffer := finishInHand r p.buffer })).takeRequests
  else s

/-- The outcome type of every meaning. -/
abbrev Result := Host.Outcome State Fault Refusal

end Sys2Proof.Machine
end

