-- ==== Sys2Proof/Machine/Bays.lean ====
section
/-! DEFINITION. Bays and their lifecycle: presence, sign-on, waking, release, bay reset and bay status
(chapter 1). -/

namespace Sys2Proof.Machine

/-! ### Presence (R3 to R5) -/

/-- The raw contact level changes: away from the debounced presence the 20 ms timer starts afresh, back to
it the timer stops (R3). During the start-up the level alone is taken (R17). -/
def Bay.contactTo (x : Bay) (closed : Bool) (startup : Bool) (clock : Time) : Bay :=
  { x with contact := closed,
           debounce := if startup then x.debounce
                       else if closed = x.present then none else some (expiryAfter clock 20000) }

/-- A command that names the level the contact already has is no change (assumption 2). -/
def eventPresenceContactChange (bay : BayNo) (closed : Bool) (s : State) : State :=
  if (s.bay bay).contact = closed then s
    else s.modBay bay (fun x => x.contactTo closed s.startup.isSome s.clock)

/-- An arrival: the VACANT bay becomes UNPOWERED and PRESENCE is raised (R4). -/
def State.arrive (s : State) (b : BayNo) : State :=
  (s.modBay b (fun x => { x with present := true, state := .unpowered })).raise (.presence b)

/-- A removal, in the eight steps of R5. -/
def State.remove (s : State) (b : BayNo) : State :=
  let s := s.modBay b (fun x => x.abandonCycle.switchOff.stopTimers)
  let s := s.loseAsk b
  let s := s.unreachQueue b
  let s := s.emptyTunnels b
  (s.modBay b (fun x => { x with identity := none, present := false, state := .vacant })).raise (.presence b)

/-- The debounce timer expires and the debounced presence takes the raw level (R3). -/
def eventDebounceExpiry (bay : BayNo) (s : State) : State :=
    let x := s.bay bay
    if ranOut x.debounce s.clock then
      let s := s.modBay bay (fun x => { x with debounce := none })
      if x.contact = x.present then s
      else if x.contact then s.arrive bay
      else s.remove bay
    else s

/-! ### Sign-on (R6, R7) -/

/-- The serial differs from the one held (R7). -/
def identityChanged (held : Option Identity) (serial : List Byte) : Bool :=
  match held with
  | none => false
  | some i => i.serial != serial

/-- The bay state after an accepted sign-on (R6). -/
def BayState.afterSignOn : BayState → BayState
  | .waking => .ready | .dark => .ready | .ready => .ready | .asking => .ready | .benched => .benched
  | .vacant => .vacant | .unpowered => .unpowered | .cycling => .cycling | .faulted => .faulted

/-- An accepted sign-on: an outstanding ask ends LOST, the bay state follows, the identity is replaced, the
next ask tag is 1, the record is written and the notice raised (R6, R7). -/
def State.signOn (s : State) (b : BayNo) (a : SignOn) : State :=
  let s := s.loseAsk b
  let changed := identityChanged (s.bay b).identity a.serial
  let s := s.modBay b (fun x => { x.stopWake with
    state := x.state.afterSignOn
    identity := some { serial := a.serial, version := a.version, time := s.clock }
    signOns := satInc x.signOns
    link := { x.stopWake.link with nextTag := 1 } })
  let s := s.writeRecord b .signOn (signOnFields a changed)
  (s.raise (.signedOn b)).beginFrame b

/-! ### Waking and going dark (R9) -/

/-- The wake timer of a WAKING bay expires: DARK, its queued slots UNREACHED, and BAY_DARK (R9). -/
def State.goDark (s : State) (b : BayNo) : State :=
  ((s.modBay b (fun x => { x with state := .dark })).unreachQueue b).raise (.bayDark b)

def eventWakeTimerExpiry (bay : BayNo) (s : State) : State :=
  if ranOut (s.bay bay).link.wakeTimer s.clock then
      let woken := s.modBay bay Bay.stopWake
      if (s.bay bay).state = .waking then woken.goDark bay else woken
    else s

/-! ### Release and reset (R13, R14) -/

/-- The reply body that carries a bay's state. -/
def State.stateBody (s : State) (b : BayNo) : List Byte := [(s.bay b).state.code]

/-- R13; a bay released to READY may find a frame waiting for its transmitter (R29). -/
def requestReleaseBay (bay : Byte) (s : State) : State :=
  match bayOf bay with
    | none => s.answer (.releaseBay bay) .badParam []
    | some b =>
      match (s.bay b).state with
      | .benched =>
        let s := (s.modBay b (fun x => { x with state := .ready })).beginFrame b
        s.answer (.releaseBay bay) .ok (s.stateBody b)
      | .dark =>
        let s := s.startWake b
        s.answer (.releaseBay bay) .ok (s.stateBody b)
      | .faulted =>
        let s := s.modBay b (fun x => { x with state := .unpowered })
        s.answer (.releaseBay bay) .ok (s.stateBody b)
      | .vacant => s.answer (.releaseBay bay) .wrongState (s.stateBody b)
      | .unpowered => s.answer (.releaseBay bay) .wrongState (s.stateBody b)
      | .cycling => s.answer (.releaseBay bay) .wrongState (s.stateBody b)
      | .waking => s.answer (.releaseBay bay) .wrongState (s.stateBody b)
      | .ready => s.answer (.releaseBay bay) .wrongState (s.stateBody b)
      | .asking => s.answer (.releaseBay bay) .wrongState (s.stateBody b)

/-- The counts and the next ask tag that a bay reset sets to 0 (R14, step 6). -/
def Bay.clearHistory (x : Bay) : Bay :=
  { x with
    identity := none
    signOns := 0
    link := { x.link with linkErrors := 0, stale := 0, tunnelDrops := 0, nextTag := 0 }
    supply := { x.supply with trips := 0, sags := 0 } }

/-- The bay's pending event notices are removed (R14, step 7; R168). -/
def State.clearBayNotices (s : State) (b : BayNo) : State :=
  (((s.clearNotice (.bayFault b)).clearNotice (.bayDark b)).clearNotice (.presence b)).clearNotice (.signedOn b)

/-- The eight steps of RESET_BAY (R14). -/
def State.resetBay (s : State) (b : BayNo) : State :=
  let s := s.modBay b (fun x => x.switchOff.stopTimers.modSupply (fun p => { p with cycleTimer := none, saved := .full }))
  let s := s.loseAsk b
  let s := s.dropQueue b .cancelled
  let s := s.emptyTunnels b
  let s := s.modBay b Bay.clearHistory
  let s := s.clearBayNotices b
  s.modBay b Bay.outOfService

/-- R14, R15. -/
def requestResetBay (bay : Byte) (s : State) : State :=
  match bayOf bay with
    | none => s.answer (.resetBay bay) .badParam []
    | some b => (s.resetBay b).answer (.resetBay bay) .ok ((s.resetBay b).stateBody b)

/-- R16. -/
def requestBayStatus (bay : Byte) (s : State) : State :=
  match bayOf bay with
    | none => s.answer (.bayStatus bay) .badParam []
    | some b => s.answer (.bayStatus bay) .ok (bayStatusBody b (s.bay b))

end Sys2Proof.Machine
end

