-- ==== Sys2Proof/WellFormed.lean ====
section
/-! DEFINITION. Which commands can be sent at all: an operand list fits the frame that carries it. Every
other operand is held by its type. -/

namespace Sys2Proof

/-- A bay frame holds as many body bytes as its length byte says (R23). -/
def BayFrame.wellFormed (f : BayFrame) : Bool := f.body.length == f.length.toNat

/-- A request frame holds as many body bytes as its length field says, at most 1024 (R172). -/
def RequestFrame.wellFormed (f : RequestFrame) : Bool :=
  f.body.length == f.length.toNat && f.length.toNat ≤ 1024

/-- The operands of the command fit the message or frame that carries them (R172, R175, R183). -/
def Instr.wellFormed : Instr → Bool
  | .putTunnel _ block => 1 + block.length ≤ 1024
  | .armGather _ _ _ _ _ _ args => 10 + args.length ≤ 1024
  | .requestFrameAccepted f => f.wellFormed
  | .requestFrameCheckFail f => f.wellFormed
  | .signOnAccepted _ f => f.wellFormed
  | .answerAccepted _ f => f.wellFormed
  | .tunnelInAccepted _ f => f.wellFormed
  | .bayFrameRejected _ f => f.wellFormed
  | .powerOn _ _ _ => true
  | .startupDebounceEnd => true
  | .identify => true
  | .getParam _ => true
  | .setParam _ _ => true
  | .readClock => true
  | .hold => true
  | .resume => true
  | .stationReset => true
  | .bayStatus _ => true
  | .setSupply _ _ => true
  | .cycleBay _ _ _ => true
  | .releaseBay _ => true
  | .resetBay _ => true
  | .setLineRate _ _ => true
  | .getTunnel _ => true
  | .peekTunnel _ => true
  | .gatherStatus _ _ => true
  | .gatherSlot _ _ _ => true
  | .cancelGather _ _ => true
  | .releaseGather _ _ => true
  | .defineProfile _ _ _ _ _ _ _ _ _ => true
  | .readProfile _ => true
  | .clearStats _ => true
  | .setRing _ _ _ _ => true
  | .readResults _ _ => true
  | .clearDrops _ _ _ => true
  | .ringStatus _ => true
  | .pollNotice => true
  | .clearNotices => true
  | .writeCal _ _ _ => true
  | .readCal _ => true
  | .lockCal => true
  | .unlockCal => true
  | .requestLengthDiscard _ => true
  | .requestGapExpiry => true
  | .replyDelivered => true
  | .linkDetach => true
  | .linkAttach => true
  | .bayFrameLengthDiscard _ _ _ _ => true
  | .bayFrameGapExpiry _ => true
  | .bayCharacterFault _ => true
  | .syncGapExpiry _ => true
  | .dispatch _ => true
  | .askSent _ => true
  | .tunnelOutSent _ => true
  | .answerTimerExpiry _ => true
  | .wakeTimerExpiry _ => true
  | .cycleTimerExpiry _ => true
  | .presenceContactChange _ _ => true
  | .debounceExpiry _ => true
  | .trip _ _ => true
  | .sag _ => true
  | .railRiseClear _ => true
  | .stopLineChange _ => true
  | .conversionEnd _ => true
  | .baySyncReceived _ _ => true
  | .requestSyncReceived _ => true

end Sys2Proof
end

