-- ==== Sys2Proof/Machine/BayLink.lean ====
section
/-! DEFINITION. The bay link: reception byte by byte and frame by frame, the crediting of answers, the
sending of frames, the line rate and the tunnel (chapter 2). -/

namespace Sys2Proof.Machine

/-! ### Reception (R23 to R27) -/

/-- The 2 ms limit of a bay receiver (R23, R26). -/
def bayGapLimit : Nat := 2000

/-- How many bytes a bay frame has after its sync bytes: header, body and check (R23). -/
def bayFrameSize (length : Byte) : Nat := 3 + length.toNat + 2

/-- In IN_FRAME a byte joins the frame, unless it is the one at which the receiver judges: a length byte it
does not take, or the second check byte. Those are the frame's own events (R24, R25; assumption 6). -/
def bayFrameByte (got : List Byte) (byte : Byte) : Option (List Byte) :=
  match got with
  | [] => some [byte]
  | [kind] => some [kind, byte]
  | [kind, tag] => if bayHeaderTakes kind byte then some [kind, tag, byte] else none
  | kind :: tag :: length :: rest =>
    if rest.length + 3 + 1 < bayFrameSize length then some (kind :: tag :: length :: rest ++ [byte]) else none

/-- A byte at the bay receiver (R23). -/
def Link.receive (l : Link) (byte : Byte) (clock : Time) : Link :=
  match l.receiver with
  | .disabled => l
  | .hunting =>
    if byte = 0xA5 then { l with receiver := .syncSeen, gap := some (expiryAfter clock bayGapLimit) } else l
  | .syncSeen =>
    if byte = 0x5A then { l with receiver := .inFrame [], gap := some (expiryAfter clock bayGapLimit) }
    else if byte = 0xA5 then { l with gap := some (expiryAfter clock bayGapLimit) }
    else { l with receiver := .hunting, gap := none }
  | .inFrame got =>
    match bayFrameByte got byte with
    | none => l
    | some got => { l with receiver := .inFrame got, gap := some (expiryAfter clock bayGapLimit) }

/-- R23. -/
def eventBaySyncReceived (bay : BayNo) (byte : Byte) (s : State) : State :=
  s.modBay bay (fun x => x.modLink (fun l => l.receive byte s.clock))

/-- The receiver returns to hunting. -/
def Link.hunt (l : Link) : Link := { l with receiver := .hunting, gap := none }

/-- A frame is discarded: counted once, and the receiver hunts (R24 to R26). -/
def Link.discard (l : Link) : Link := { l.hunt with linkErrors := satInc l.linkErrors }

/-- The bytes received so far when a frame is in progress (R23). -/
def Link.assembling (l : Link) : Option (List Byte) :=
  match l.receiver with
  | .inFrame got => some got
  | .disabled => none
  | .hunting => none
  | .syncSeen => none

/-- These bytes can be the frame in progress: the receiver is IN_FRAME and what it has received so far
begins them (R23). -/
def Link.fits (l : Link) (bytes : List Byte) : Bool :=
  match l.assembling with
  | none => false
  | some got => got.isPrefixOf bytes

/-- A whole frame stands at the receiver: its length byte was taken and its second check byte has been
received (R24, R25). -/
def Link.frameEnds (l : Link) (f : BayFrame) : Bool :=
  l.fits f.bytes && f.wellFormed && bayHeaderTakes f.kind f.length

/-- The frame passes both examinations of R25 and is of this kind (R27). -/
def Link.accepts (l : Link) (kind : Byte) (f : BayFrame) : Bool :=
  l.frameEnds f && bayIntact f && bodyAgrees f.kind f.body && f.kind == kind

/-- An accepted frame returns the receiver to hunting (R27). -/
def State.huntAgain (s : State) (b : BayNo) : State := s.modBay b (fun x => x.modLink Link.hunt)

/-- R6, R7, R27. -/
def eventSignOnAccepted (bay : BayNo) (frame : BayFrame) (s : State) : State :=
  if (s.bay bay).link.accepts kindSignOn frame then
      match readSignOn frame.body with
      | none => s
      | some a => (s.huntAgain bay).signOn bay a
    else s

/-- The answer is credited: the bay is ASKING, the tag is the outstanding one and the answer timer runs
(R31). -/
def Bay.credits (x : Bay) (tag : Byte) : Bool :=
  x.state == .asking && x.link.outstanding == some tag && x.link.answerTimer.isSome

/-- A stale answer is discarded and counted (R31). -/
def State.countStale (s : State) (b : BayNo) : State :=
  s.modBay b (fun x => x.modLink (fun l => { l with stale := satInc l.stale }))

/-- R31, R32. -/
def eventAnswerAccepted (bay : BayNo) (frame : BayFrame) (s : State) : State :=
  if (s.bay bay).link.accepts kindAnswer frame then
      match readAnswer frame.body with
      | none => s
      | some a =>
        if (s.bay bay).credits frame.tag then (s.huntAgain bay).endAsk bay .answered (some a)
        else (s.huntAgain bay).countStale bay
    else s

/-- A TUNNEL_IN block is stored in an empty slot, which makes the cause ACTIVE, or dropped and counted
(R38). -/
def State.tunnelArrives (s : State) (b : BayNo) (block : List Byte) : State :=
  match (s.bay b).link.tunnelIn with
  | none => (s.modBay b (fun x => x.modLink (fun l => { l with tunnelIn := some block }))).tunnelInRises b
  | some _ => s.modBay b (fun x => x.modLink (fun l => { l with tunnelDrops := satInc l.tunnelDrops }))

/-- R38. -/
def eventTunnelInAccepted (bay : BayNo) (frame : BayFrame) (s : State) : State :=
  if (s.bay bay).link.accepts kindTunnelIn frame then (s.huntAgain bay).tunnelArrives bay frame.body else s

/-- A frame whose check fails or whose body disagrees with its own fields (R25). -/
def eventBayFrameRejected (bay : BayNo) (frame : BayFrame) (s : State) : State :=
  if (s.bay bay).link.frameEnds frame && !(bayIntact frame && bodyAgrees frame.kind frame.body) then
      s.modBay bay (fun x => x.modLink Link.discard)
    else s

/-- A kind or a length that the receiver does not take (R24). -/
def eventBayFrameLengthDiscard (bay : BayNo) (kind tag length : Byte) (s : State) : State :=
  if (s.bay bay).link.fits [kind, tag, length] && !bayHeaderTakes kind length then
      s.modBay bay (fun x => x.modLink Link.discard)
    else s

/-- More than 2 ms between bytes of a frame (R26). -/
def eventBayFrameGapExpiry (bay : BayNo) (s : State) : State :=
  if (s.bay bay).link.assembling.isSome && ranOut (s.bay bay).link.gap s.clock then
      s.modBay bay (fun x => x.modLink Link.discard)
    else s

/-- A character without a valid stop bit: IN_FRAME the frame is discarded and counted, in SYNC_SEEN the
receiver hunts again, and otherwise it is passed over (R26). -/
def Link.characterFault (l : Link) : Link :=
  match l.receiver with
  | .inFrame _ => l.discard
  | .syncSeen => l.hunt
  | .hunting => l
  | .disabled => l

def eventBayCharacterFault (bay : BayNo) (s : State) : State :=
  s.modBay bay (fun x => x.modLink Link.characterFault)

/-- More than 2 ms after a first sync byte (R23). -/
def eventSyncGapExpiry (bay : BayNo) (s : State) : State :=
  if (s.bay bay).link.receiver = .syncSeen ∧ ranOut (s.bay bay).link.gap s.clock then
      s.modBay bay (fun x => x.modLink Link.hunt)
    else s

/-! ### Dispatch and sending (R28 to R30, R69 to R71) -/

/-- The ask tag after this one: from 255 it goes to 1 (R28). -/
def nextAskTag (tag : Byte) : Byte := if tag = 255 then 1 else tag + 1

/-- A slot dispatched under a tag (R70). -/
def Gather.sendSlot (g : Gather) (b : BayNo) (tag : Byte) : Gather :=
  { g.setSlot b { g.slot b with stage := .sent, tag := some tag } with
    summary := { g.summary with queued := g.summary.queued - 1, sent := g.summary.sent + 1 } }

/-- The dispatch of the gather at the head of the bay's queue, in the four steps of R70, and the begin of
its frame when the transmitter is IDLE (R29). -/
def State.dispatchHead (s : State) (b : BayNo) (i : GatherNo) (rest : List GatherNo) : State :=
  let tag := (s.bay b).link.nextTag
  let g := s.gather i
  let s := s.modGather i (fun g => g.sendSlot b tag)
  let s := s.modBay b (fun x => { x with
    queue := rest
    state := .asking
    link := { x.link with
      nextTag := nextAskTag tag
      outstanding := some tag
      pendingAsk := some { tag := tag, command := g.command, args := g.args } } })
  s.beginFrame b

/-- A bay is dispatched when it is READY, the station is RUN and its queue is not empty (R69). -/
def State.mayDispatch (s : State) (b : BayNo) : Bool :=
  (s.bay b).state == .ready && s.run == .run && !(s.bay b).queue.isEmpty

/-- R69, R70. An index whose slot is not QUEUED, which no queue holds in a run (R63), leaves the queue and
sends nothing (assumption 16). -/
def eventDispatch (bay : BayNo) (s : State) : State :=
  if s.mayDispatch bay then
      match (s.bay bay).queue with
      | [] => s
      | i :: rest =>
        if ((s.gather i).slot bay).stage = .queued then s.dispatchHead bay i rest
        else s.modBay bay (fun x => { x with queue := rest })
    else s

/-- The frame has left and the transmitter is IDLE. -/
def Link.frameLeft (l : Link) : Link := { l with transmitter := .idle, frameOut := [] }

/-- The frame in transmission is that of the outstanding ask: the bay is ASKING, its ask is no longer
pending and its answer timer does not run yet. An ASK frame whose ask a sign-on ended takes no send time
(R34). -/
def Bay.sendsOutstanding (x : Bay) : Bool :=
  x.state == .asking && x.link.pendingAsk.isNone && x.link.answerTimer.isNone

/-- The send time is reported: the slot, the gather's first send time, and the window (R71). -/
def State.recordSend (s : State) (b : BayNo) (i : GatherNo) : State :=
  let s := s.modGather i (fun g =>
    { g.setSlot b { g.slot b with sendTime := some s.clock } with
      firstSend := match g.firstSend with
        | none => some s.clock
        | some t => some t })
  if (s.gather i).measure then s.openWindow b else s

/-- The last check byte of the outstanding ask's frame has left: the answer timer starts and the send time
is reported (R30). -/
def State.askLeft (s : State) (b : BayNo) : State :=
  match s.sentGather b with
  | none => s
  | some i =>
    (s.modBay b (fun x => x.modLink (fun l =>
      { l with answerTimer := some (expiryAfter s.clock ((s.gather i).timeoutMs.toNat * 1000)) }))).recordSend b i

/-- R30. -/
def eventAskSent (bay : BayNo) (s : State) : State :=
  if (s.bay bay).link.transmitter = .sendingAsk then
      let left := s.modBay bay (fun x => x.modLink Link.frameLeft)
      (if (s.bay bay).sendsOutstanding then left.askLeft bay else left).beginFrame bay
    else s

/-- R37. -/
def eventTunnelOutSent (bay : BayNo) (s : State) : State :=
  if (s.bay bay).link.transmitter = .sendingTunnel then
      (s.modBay bay (fun x => x.modLink (fun l => { l.frameLeft with tunnelOut := none }))).beginFrame bay
    else s

/-- R33. -/
def eventAnswerTimerExpiry (bay : BayNo) (s : State) : State :=
  if ranOut (s.bay bay).link.answerTimer s.clock then
      if (s.bay bay).state = .asking then s.endAsk bay .timedOut none
      else s.modBay bay (fun x => x.modLink (fun l => { l with answerTimer := none }))
    else s

/-! ### Requests (R35, R36, R39) -/

/-- R35. -/
def requestSetLineRate (bay rate : Byte) (s : State) : State :=
  match bayOf bay, lineRateOf rate with
    | some b, some r =>
      if (s.bay b).state = .vacant ∨ (s.bay b).state = .unpowered then
        (s.modBay b (fun x => x.modLink (fun l => { l with lineRate := r }))).answer (.setLineRate bay rate) .ok [rate]
      else s.answer (.setLineRate bay rate) .wrongState []
    | _, _ => s.answer (.setLineRate bay rate) .badParam []

/-- A bay without supply takes no tunnel block (R36). -/
def BayState.refusesTunnel : BayState → Bool
  | .vacant => true | .unpowered => true | .cycling => true | .faulted => true
  | .waking => false | .ready => false | .asking => false | .benched => false | .dark => false

/-- R36; the block may begin at once (R29). -/
def requestPutTunnel (bay : Byte) (block : List Byte) (s : State) : State :=
  match bayOf bay with
    | none => s.answer (.putTunnel bay block) .badParam []
    | some b =>
      if 64 < block.length then s.answer (.putTunnel bay block) .badLength []
      else if (s.bay b).link.tunnelOut.isSome then s.answer (.putTunnel bay block) .full []
      else if (s.bay b).state.refusesTunnel then s.answer (.putTunnel bay block) .wrongState []
      else ((s.modBay b (fun x => x.modLink (fun l => { l with tunnelOut := some block }))).beginFrame b).answer
        (.putTunnel bay block) .ok []

/-- The tunnel-in slot is emptied, which ends a cause that was ACTIVE (R39). -/
def State.takeTunnelIn (s : State) (b : BayNo) : State :=
  (s.modBay b (fun x => x.modLink (fun l => { l with tunnelIn := none }))).tunnelInFalls b

/-- R39. -/
def requestGetTunnel (bay : Byte) (s : State) : State :=
  match bayOf bay with
    | none => s.answer (.getTunnel bay) .badParam []
    | some b => (s.takeTunnelIn b).answer (.getTunnel bay) .ok (tunnelBody (s.bay b).link.tunnelIn)

/-- R39. -/
def requestPeekTunnel (bay : Byte) (s : State) : State :=
  match bayOf bay with
    | none => s.answer (.peekTunnel bay) .badParam []
    | some b => s.answer (.peekTunnel bay) .ok (tunnelBody (s.bay b).link.tunnelIn)

end Sys2Proof.Machine
end

