-- ==== Sys2Proof/Machine/StationLink.lean ====
section
/-! DEFINITION. The Station Link Port: reception of request frames, the request buffer, delivery of
replies, detach and attach (chapter 10). -/

namespace Sys2Proof.Machine

/-- The 50 ms limit between bytes of a request frame (R173). -/
def portGapLimit : Nat := 50000

/-- The longest request body (R172). -/
def maxBody : Nat := 1024

/-- The host-to-controller pipe accepts data while the function is attached and the buffer holds fewer
than 4 entries (R174). -/
def Port.accepting (p : Port) : Bool := p.attached && p.buffer.length < 4

/-- How many bytes a request frame has after its sync byte (R172). -/
def requestFrameSize (l0 l1 : Byte) : Nat := 2 + 2 + (field 16 [l0, l1]).toNat + 2

/-- In IN_FRAME a byte joins the frame in assembly, unless it is the one at which the port judges: a second
length byte above the limit, or the second check byte. Those are the frame's own events (R172, R173;
assumption 6). -/
def requestFrameByte (got : List Byte) (byte : Byte) : Option (List Byte) :=
  match got with
  | [] => some [byte]
  | [l0] => if (field 16 [l0, byte]).toNat ≤ maxBody then some [l0, byte] else none
  | l0 :: l1 :: rest =>
    if rest.length + 2 + 1 < requestFrameSize l0 l1 then some (l0 :: l1 :: rest ++ [byte]) else none

/-- A byte at the station link receiver (R172, R173). -/
def Port.receive (p : Port) (byte : Byte) (clock : Time) : Port :=
  match p.receiver with
  | .disabled => p
  | .hunting =>
    if byte = 0xC3 then { p with receiver := .inFrame [], gap := some (expiryAfter clock portGapLimit) } else p
  | .inFrame got =>
    match requestFrameByte got byte with
    | none => p
    | some got => { p with receiver := .inFrame got, gap := some (expiryAfter clock portGapLimit) }

/-- R172; no byte arrives while the pipe is stopped (R174). -/
def execRequestSyncReceived (byte : Byte) (s : State) : Result :=
  .next (s.modPort (fun p => if p.accepting then p.receive byte s.clock else p))

/-- These bytes can be the frame in assembly. -/
def Port.fits (p : Port) (bytes : List Byte) : Bool :=
  match p.receiver with
  | .inFrame got => p.accepting && got.isPrefixOf bytes
  | .disabled => false
  | .hunting => false

/-- The receiver returns to hunting and the gap timer stops. -/
def Port.hunt (p : Port) : Port := { p with receiver := .hunting, gap := none }

/-- A frame is discarded and counted (R172, R173, R179). -/
def Port.discard (p : Port) : Port := { p.hunt with errors := satInc p.errors }

/-- The frame becomes a WAITING entry at the end of the buffer (R174). -/
def Port.accept (p : Port) (f : RequestFrame) : Port :=
  { p.hunt with buffer := p.buffer ++ [{ code := f.code, seq := f.seq, body := f.body, phase := .waiting }] }

/-- A frame whose check passes; the port takes it at once when none is IN_HAND (R174, R175). -/
def execRequestFrameAccepted (frame : RequestFrame) (s : State) : Result :=
  .next (if s.port.fits frame.bytes && frame.wellFormed && requestIntact frame then
      (s.modPort (fun p => p.accept frame)).takeRequests
    else s)

/-- A frame whose check fails (R173). -/
def eventRequestFrameCheckFail (frame : RequestFrame) (s : State) : State :=
  if s.port.fits frame.bytes && frame.wellFormed && !requestIntact frame then s.modPort Port.discard else s

/-- A body length above 1024, discarded at its second length byte (R172). -/
def eventRequestLengthDiscard (length : BitVec 16) (s : State) : State :=
  if s.port.fits (leBytes 2 length.toNat) && maxBody < length.toNat then s.modPort Port.discard else s

/-- A frame is in assembly. -/
def Port.assembling (p : Port) : Bool :=
  match p.receiver with
  | .inFrame _ => true
  | .disabled => false
  | .hunting => false

/-- The gap timer has run out with a frame in assembly. While the pipe is stopped the timer is suspended and does
not run out (R173, R174). -/
def Port.gapRunOut (p : Port) (clock : Time) : Bool := p.accepting && p.assembling && ranOut p.gap clock

/-- The port over one microsecond: while the pipe is stopped the gap timer is suspended, and its expiry time moves
on with the clock, so that it resumes with its remaining time (R173, R174). -/
def Port.passMicrosecond (p : Port) : Port := if p.accepting then p else { p with gap := p.gap.map (· + 1) }

/-- The 50 ms gap timer expires (R173). -/
def eventRequestGapExpiry (s : State) : State :=
  if s.port.gapRunOut s.clock then s.modPort Port.discard else s

/-- The oldest entry leaves the buffer when its reply has been delivered (R177). -/
def deliverOldest : List Entry → List Entry
  | [] => []
  | e :: es =>
    match e.phase with
    | .replying _ => es
    | .waiting => e :: es
    | .inHand _ => e :: es

/-- R177; a detached function delivers nothing. -/
def execReplyDelivered (s : State) : Result :=
  .next (if s.port.attached then s.modPort (fun p => { p with buffer := deliverOldest p.buffer }) else s)

/-- An entry at a detach: only the one IN_HAND stays, marked for discard (R178). -/
def Entry.atDetach (e : Entry) : Option Entry :=
  match e.phase with
  | .inHand _ => some { e with phase := .inHand true }
  | .waiting => none
  | .replying _ => none

/-- The four steps of a detach (R178). -/
def Port.detach (p : Port) : Port :=
  { p with attached := false, receiver := .disabled, gap := none, buffer := p.buffer.filterMap Entry.atDetach }

/-- R178; a function already detached does not detach (assumption 2). -/
def execLinkDetach (s : State) : Result := .next (if s.port.attached then s.modPort Port.detach else s)

/-- R178; a function already attached does not attach (assumption 2). -/
def execLinkAttach (s : State) : Result :=
  .next (if s.port.attached then s
    else s.modPort (fun p => { p with attached := true, receiver := .hunting, gap := none }))

end Sys2Proof.Machine
end

