-- ==== Sys2Proof/Machine/Clock.lean ====
section
/-! DEFINITION. What the block does of its own accord when no command waits: the events that are due, and
the passing of one microsecond (R154; assumption 1). -/

namespace Sys2Proof.Machine

/-- The gap limit of a bay receiver that has run out: the frame in progress is discarded, or a lone first sync
byte passed over (R23, R26; assumption 5). -/
def Link.gapRunOut (l : Link) (b : BayNo) (clock : Time) : Option Instr :=
  match l.receiver with
  | .disabled => none
  | .hunting => none
  | .syncSeen => if ranOut l.gap clock then some (.syncGapExpiry b) else none
  | .inFrame _ => if ranOut l.gap clock then some (.bayFrameGapExpiry b) else none

/-- The event of a bay that is due: a dispatch whose conditions hold (R69), or a timer that has run out
(R3, R9, R23, R26, R33, R54). -/
def State.dueAtBay (s : State) (b : BayNo) : Option Instr :=
  let x := s.bay b
  if s.mayDispatch b then some (.dispatch b)
  else if ranOut x.debounce s.clock then some (.debounceExpiry b)
  else if ranOut x.supply.cycleTimer s.clock then some (.cycleTimerExpiry b)
  else if ranOut x.link.wakeTimer s.clock then some (.wakeTimerExpiry b)
  else if ranOut x.link.answerTimer s.clock then some (.answerTimerExpiry b)
  else x.link.gapRunOut b s.clock

/-- The next event the block raises itself: the request in hand (R175), the end of the start-up (R17), the gap
timer of the station link (R173), or an event due at a bay. Which of several comes first is the model's choice
(assumption 18). -/
def State.dueCommand (s : State) : Option Instr :=
  match s.requestInHand with
  | some c => some c
  | none =>
    if ranOut s.startup s.clock then some .startupDebounceEnd
    else if s.port.gapRunOut s.clock then some .requestGapExpiry
    else allBays.findSome? s.dueAtBay

/-- A conversion has run its 10 us and no CONVERSION_END of the sender waits (R115; assumption 14). -/
def State.awaitsSample (s : State) : Bool :=
  match s.converter with
  | .idle => false
  | .converting _ ends _ => reached ends s.clock

/-- The end of a conversion that the block raises itself, with the code that the rail gives: a free value (R115;
assumption 14). -/
def State.endConversion (s : State) : State :=
  { s with pending := [.conversionEnd (Config.railCode s.railReads)], railReads := s.railReads + 1 }

/-- One microsecond passes (R154); a gap timer that a stopped pipe suspends keeps its remaining time (R173). -/
def State.passMicrosecond (s : State) : State := { s with clock := s.clock + 1, port := s.port.passMicrosecond }

/-- What happens when no command waits: a due event joins the queue, then the end of a conversion that has run its
10 us; with nothing due one microsecond passes, in every state of the part (R154). -/
def State.idle (s : State) : State :=
  match s.dueCommand with
  | some c => { s with pending := [c] }
  | none => if s.awaitsSample then s.endConversion else s.passMicrosecond

end Sys2Proof.Machine
end

