-- ==== Sys2Proof/Machine/Gathers.lean ====
section
/-! DEFINITION. The gather requests: arming, cancelling, reading and releasing (chapter 4). -/

namespace Sys2Proof.Machine

/-! ### Arming (R65 to R68) -/

/-- A bay takes queued slots at arm (R2, R67). -/
def BayState.available : BayState → Bool
  | .ready => true | .asking => true | .waking => true | .cycling => true
  | .vacant => false | .unpowered => false | .benched => false | .dark => false | .faulted => false

/-- The FREE entry with the lowest index (R67). -/
def State.freeEntry (s : State) : Option GatherNo := allGathers.find? (fun i => (s.gather i).state == .free)

/-- A bay of the set would be queued and its queue already holds 8 indices (R66, check 6). -/
def State.queueFull (s : State) (bays : BaySet) : Bool :=
  allBays.any (fun b => inSet bays b && (s.bay b).state.available && 8 ≤ (s.bay b).queue.length)

/-- The serial after this one: from 65535 it goes to 1 (R67). -/
def nextSerial (serial : BitVec 16) : BitVec 16 := if serial = 65535 then 1 else serial + 1

/-- The answer timeout in effect, in ms (R65). -/
def timeoutInEffect (ms : BitVec 16) : BitVec 16 := BitVec.ofNat 16 (clampNat 10 60000 ms.toNat)

/-- A slot at arm: QUEUED for an available bay of the set, SKIPPED for one not available, and NONE outside
the set (R67). -/
def armedSlot (member available : Bool) : Slot :=
  if member then
    if available then { Slot.outside with stage := .queued }
    else { Slot.outside with stage := .final, ending := some .skipped }
  else .outside

/-- How many bays satisfy a condition. -/
def countBays (p : BayNo → Bool) : Nat := allBays.countP p

/-- The fields of a gather from the request, its slots and its cleared summary with the counts of R85
(R67, steps 2 to 5). -/
def State.armedGather (s : State) (bays : BaySet) (command : BitVec 16) (profile : ProfileNo)
    (failMask : Indicators) (timeoutMs : BitVec 16) (options : Byte) (args : List Byte) : Gather :=
  let queuedAt := fun b => inSet bays b && (s.bay b).state.available
  let skippedAt := fun b => inSet bays b && !(s.bay b).state.available
  { state := .opened
    serial := nextSerial s.gatherSerial
    bays := bays
    command := command
    args := args
    profile := profile
    failMask := failMask
    timeoutMs := timeoutInEffect timeoutMs
    measure := options.getLsbD 0
    benchOnFail := options.getLsbD 1
    expectRestart := options.getLsbD 2
    cancelled := false
    aborted := false
    armTime := s.clock
    firstSend := none
    lastFinal := none
    summary := { Summary.cleared with
      queued := countBays queuedAt
      endings := { Summary.cleared.endings with skipped := countBays skippedAt } }
    slots := Vector.ofFn (fun b => armedSlot (inSet bays b) (s.bay b).state.available) }

/-- The index is appended to the queue of every available bay of the set (R67, step 4). -/
def State.enqueue (s : State) (bays : BaySet) (i : GatherNo) : State :=
  { s with bays := s.bays.mapFinIdx (fun n x h =>
      if inSet bays ⟨n, h⟩ && x.state.available then { x with queue := x.queue ++ [i] } else x) }

/-- The gather is taken into an entry: OPEN with the profile's in-use count raised when a slot is QUEUED
(R67, step 6), and DONE at once otherwise (R68). -/
def State.arm (s : State) (i : GatherNo) (g : Gather) : State :=
  let t := { s with gatherSerial := g.serial }.enqueue g.bays i
  if g.hasOpenSlot then
    (t.setGather i g).modProfile g.profile (fun p => { p with inUse := p.inUse + 1 })
  else
    (t.setGather i { g with state := .done, lastFinal := some g.armTime }).raise (.gatherDone i)

/-- The six checks of R66, in their order; the profile and the entry when they pass. -/
def State.armChecks (s : State) (bays : BaySet) (profile : Byte) (args : List Byte) :
    Except Status (ProfileNo × GatherNo) :=
  if bays = 0 then .error .badParam
  else if 48 < args.length then .error .badLength
  else match profileOf profile with
    | none => .error .badParam
    | some p =>
      if !(s.profile p).defined then .error .notFound
      else match s.freeEntry with
        | none => .error .full
        | some i => if s.queueFull bays then .error .full else .ok (p, i)

/-- R65 to R68; the dispatches follow as events of their own (R69). -/
def requestArmGather (bays : BaySet) (command : BitVec 16) (profile : Byte) (failMask : Indicators)
    (timeoutMs : BitVec 16) (options : Byte) (args : List Byte) (s : State) : State :=
  let c := Instr.armGather bays command profile failMask timeoutMs options args
  match s.armChecks bays profile args with
    | .error status => s.answer c status []
    | .ok (p, i) =>
      let g := s.armedGather bays command p failMask timeoutMs options args
      (s.arm i g).answer c .ok ([BitVec.ofNat 8 i.val] ++ put 2 g.serial ++ put 2 g.timeoutMs)

/-! ### Naming a gather (R86 to R88) -/

/-- The gather that an index and a serial name: an index above 15 is BAD_PARAM, a FREE entry or another
serial NOT_FOUND (R82, R86, R88). -/
def State.named (s : State) (index : Byte) (serial : BitVec 16) : Except Status GatherNo :=
  match gatherOf index with
  | none => .error .badParam
  | some i =>
    if (s.gather i).state = .free ∨ (s.gather i).serial ≠ serial then .error .notFound else .ok i

/-- R86. -/
def requestGatherStatus (index : Byte) (serial : BitVec 16) (s : State) : State :=
  match s.named index serial with
    | .error status => s.answer (.gatherStatus index serial) status []
    | .ok i => s.answer (.gatherStatus index serial) .ok (gatherSummaryBody i (s.gather i))

/-- R87: the index and the bay are judged before the gather is looked for. -/
def requestGatherSlot (index : Byte) (serial : BitVec 16) (bay : Byte) (s : State) : State :=
  match bayOf bay with
    | none => s.answer (.gatherSlot index serial bay) .badParam []
    | some b =>
      match s.named index serial with
      | .error status => s.answer (.gatherSlot index serial bay) status []
      | .ok i => s.answer (.gatherSlot index serial bay) .ok (slotBody i serial b ((s.gather i).slot b))

/-! ### Cancelling (R82) -/

/-- The QUEUED slot of one bay ends CANCELLED and leaves the bay's queue (R64, R82). -/
def State.cancelSlot (s : State) (i : GatherNo) (b : BayNo) : State :=
  if ((s.gather i).slot b).stage = .queued then
    (s.modBay b (fun x => { x with queue := x.queue.filter (· ≠ i) })).completeUnevaluated b i .cancelled
  else s

/-- CANCEL_GATHER of an OPEN gather: the flag, then every QUEUED slot in rising bay number (R82). -/
def State.cancel (s : State) (i : GatherNo) : State :=
  (s.modGather i (fun g => { g with cancelled := true })).eachBay (fun t b => t.cancelSlot i b)

/-- R82: in DONE the request is taken with no change. -/
def requestCancelGather (index : Byte) (serial : BitVec 16) (s : State) : State :=
  match s.named index serial with
    | .error status => s.answer (.cancelGather index serial) status []
    | .ok i =>
      let t := if (s.gather i).state = .opened then s.cancel i else s
      t.answer (.cancelGather index serial) .ok [(t.gather i).state.code]

/-! ### Releasing (R88) -/

/-- R88, R168. -/
def requestReleaseGather (index : Byte) (serial : BitVec 16) (s : State) : State :=
  match s.named index serial with
    | .error status => s.answer (.releaseGather index serial) status []
    | .ok i =>
      if (s.gather i).state = .done then
        ((s.setGather i .free).clearNotice (.gatherDone i)).answer (.releaseGather index serial) .ok []
      else s.answer (.releaseGather index serial) .wrongState []

end Sys2Proof.Machine
end

