-- ==== Sys2Proof/Machine/Measurement.lean ====
section
/-! DEFINITION. The end of a conversion and the calibration store (chapter 6). -/

namespace Sys2Proof.Machine

/-- A conversion whose 10 us have run ends with its code: the sample is credited or discarded, the
converter is IDLE, and the next grant follows (R115 to R117). -/
def eventConversionEnd (code : BitVec 12) (s : State) : State :=
  match s.converter with
    | .idle => s
    | .converting b ends tied =>
      if reached ends s.clock then ({ s.creditSample b tied code with converter := .idle }).grant else s

/-- The pair stored for the values offered, clamped (R125). -/
def clampedPair (gain offset : BitVec 16) : Calibration :=
  { gain := BitVec.ofNat 13 (clampNat 0 8191 gain.toNat),
    offset := BitVec.ofInt 10 (clampInt (-512) 511 offset.toInt) }

/-- R125. -/
def requestWriteCal (bay : Byte) (gain offset : BitVec 16) (s : State) : State :=
  match bayOf bay with
    | none => s.answer (.writeCal bay gain offset) .badParam []
    | some b =>
      if s.calLock then s.answer (.writeCal bay gain offset) .locked []
      else (s.modBay b (fun x => { x with cal := clampedPair gain offset })).answer (.writeCal bay gain offset) .ok
        (bay :: calBody (clampedPair gain offset))

/-- R126. -/
def requestReadCal (bay : Byte) (s : State) : State :=
  match bayOf bay with
    | none => s.answer (.readCal bay) .badParam []
    | some b => s.answer (.readCal bay) .ok (bay :: calBody (s.bay b).cal ++ [flagByte s.calLock])

/-- R127. -/
def requestLockCal (s : State) : State := { s with calLock := true }.answer .lockCal .ok [1]

/-- R128: only while no bay's supply is on. -/
def requestUnlockCal (s : State) : State :=
  if s.poweredSet = 0 then { s with calLock := false }.answer .unlockCal .ok [0]
    else s.answer .unlockCal .wrongState []

end Sys2Proof.Machine
end

