-- ==== Sys2Proof/Machine/NoticeRequests.lean ====
section
/-! DEFINITION. POLL_NOTICE and CLEAR_NOTICES (chapter 9). -/

namespace Sys2Proof.Machine

/-- R165: the most urgent reportable notice is collected; the count is of the places still reportable. -/
def requestPollNotice (s : State) : State :=
  match s.mostUrgent with
    | none => s.answer .pollNotice .ok [0, 0, 0, 0]
    | some p =>
      let t := { s with notices := s.notices.collect p }
      t.answer .pollNotice .ok
        [1, BitVec.ofNat 8 p.classNo, BitVec.ofNat 8 p.sourceNo, BitVec.ofNat 8 t.reportableCount]

/-- R166. -/
def requestClearNotices (s : State) : State :=
  { s with notices := s.notices.clearAll }.answer .clearNotices .ok []

end Sys2Proof.Machine
end

