-- ==== Sys2Proof/Machine/Profiles.lean ====
section
/-! DEFINITION. The profile requests (chapter 5). -/

namespace Sys2Proof.Machine

/-- The six checks of R93, in their order; the profile and its value mode when they pass. -/
def State.defineChecks (s : State) (profile valueMode : Byte) (d : BitVec 16) (low high : BitVec 32)
    (currentMa : BitVec 16) : Except Status (ProfileNo × ValueMode) :=
  match profileOf profile with
  | none => .error .badParam
  | some p =>
    if p = 0 then .error .badParam
    else match valueModeOf valueMode with
      | none => .error .badParam
      | some mode =>
        if d.toNat = 0 ∨ 32767 < d.toNat then .error .badParam
        else if high.toInt < low.toInt then .error .badParam
        else if 8191 < currentMa.toNat then .error .badParam
        else if 0 < (s.profile p).inUse then .error .busy
        else .ok (p, mode)

/-- The latency limit in effect, in ms (R94). -/
def latencyInEffect (ms : BitVec 16) : BitVec 16 := BitVec.ofNat 16 (clampNat 0 60000 ms.toNat)

/-- A profile replaced whole by a new definition, its statistics cleared (R94). -/
def Profile.define (p : Profile) (mode : ValueMode) (m d : BitVec 16) (b low high : BitVec 32)
    (latencyMs currentMa : BitVec 16) : Profile :=
  { defined := true, mode := mode, m := m, d := d, b := b, low := low, high := high,
    latencyMs := latencyInEffect latencyMs, currentMa := currentMa, inUse := p.inUse, evaluated := 0,
    minimum := none, maximum := none, fails := 0 }

/-- R93, R94. -/
def requestDefineProfile (profile valueMode : Byte) (m d : BitVec 16) (b low high : BitVec 32)
    (latencyMs currentMa : BitVec 16) (s : State) : State :=
  let c := Instr.defineProfile profile valueMode m d b low high latencyMs currentMa
  match s.defineChecks profile valueMode d low high currentMa with
    | .error status => s.answer c status []
    | .ok (p, mode) =>
      (s.modProfile p (fun x => x.define mode m d b low high latencyMs currentMa)).answer c .ok
        (profile :: put 2 (latencyInEffect latencyMs))

/-- The profile a number names: above 31 BAD_PARAM, undefined NOT_FOUND; profile 0 is always defined (R96,
R97). -/
def State.namedProfile (s : State) (profile : Byte) : Except Status ProfileNo :=
  match profileOf profile with
  | none => .error .badParam
  | some p => if (s.profile p).defined then .ok p else .error .notFound

/-- R96. -/
def requestReadProfile (profile : Byte) (s : State) : State :=
  match s.namedProfile profile with
    | .error status => s.answer (.readProfile profile) status []
    | .ok p => s.answer (.readProfile profile) .ok (profileBody p (s.profile p))

/-- The statistics cleared, the definition and the in-use count kept (R97). -/
def Profile.clearStats (p : Profile) : Profile :=
  { p with evaluated := 0, minimum := none, maximum := none, fails := 0 }

/-- R97. -/
def requestClearStats (profile : Byte) (s : State) : State :=
  match s.namedProfile profile with
    | .error status => s.answer (.clearStats profile) status []
    | .ok p => (s.modProfile p Profile.clearStats).answer (.clearStats profile) .ok []

end Sys2Proof.Machine
end

