-- ==== Sys2Proof/Machine/Rings.lean ====
section
/-! DEFINITION. The ring requests: SET_RING, READ_RESULTS, CLEAR_DROPS and RING_STATUS (chapter 7). -/

namespace Sys2Proof.Machine

/-! ### SET_RING (R143, R144) -/

/-- Two windows share a cell: both non-empty, and each begins before the other ends (R131). -/
def windowsMeet (base length base' length' : Nat) : Bool :=
  0 < length && 0 < length' && base < base' + length' && base' < base + length

/-- The window would share a cell with that of another bay (R143, check 4). -/
def State.windowTaken (s : State) (b : BayNo) (base length : Nat) : Bool :=
  allBays.any (fun c => c != b && windowsMeet base length (s.bay c).ring.base (s.bay c).ring.length)

/-- The bay has a slot QUEUED or SENT in some gather (R143, check 5). -/
def State.holdsSlot (s : State) (b : BayNo) : Bool :=
  allGathers.any (fun i => ((s.gather i).slot b).endable)

/-- The window asked for is the present one. -/
def Ring.sameWindow (r : Ring) (base length : Nat) : Bool := r.base == base && r.length == length

/-- The five checks of R143, in their order; the bay and the mode when they pass. -/
def State.ringChecks (s : State) (bay : Byte) (base length : Nat) (mode : Byte) :
    Except Status (BayNo × RingMode) :=
  match bayOf bay with
  | none => .error .badParam
  | some b =>
    match ringModeOf mode with
    | none => .error .badParam
    | some m =>
      if 4095 < base ∨ 4096 < base + length then .error .badParam
      else if s.windowTaken b base length then .error .badParam
      else if !(s.bay b).ring.sameWindow base length && (0 < (s.bay b).ring.occupancy || s.holdsSlot b) then
        .error .busy
      else .ok (b, m)

/-- A new window with its oldest offset at 0, or the mode alone when the window stays (R144). -/
def Ring.setWindow (r : Ring) (base length : Nat) (mode : RingMode) : Ring :=
  if r.sameWindow base length then { r with mode := mode }
  else { r with base := base, length := length, mode := mode, occupancy := 0, oldest := 0 }

/-- R143, R144. -/
def requestSetRing (bay : Byte) (base length : BitVec 16) (mode : Byte) (s : State) : State :=
  match s.ringChecks bay base.toNat length.toNat mode with
    | .error status => s.answer (.setRing bay base length mode) status []
    | .ok (b, m) =>
      (s.modBay b (fun x => { x with ring := x.ring.setWindow base.toNat length.toNat m })).answer
        (.setRing bay base length mode) .ok (put 2 base ++ put 2 length ++ [m.code])

/-! ### Reading (R138, R139) -/

/-- The record at a position of a bay's ring, as its 96-byte cell (R131, R184). -/
def State.recordAt (s : State) (b : BayNo) (k : Nat) : List Byte :=
  readCells s.cells (cellAddress ((s.bay b).ring.cellAt k)) cellBytes

/-- How many records a read takes: the max clamped to 1 to 8, or as many as the ring holds (R138). -/
def Ring.takes (r : Ring) (max : Byte) : Nat := min (clampNat 1 8 max.toNat) r.occupancy

/-- The ring after its n oldest records have been removed (R131, R138). -/
def Ring.removeOldest (r : Ring) (n : Nat) : Ring :=
  { r with occupancy := r.occupancy - n, oldest := if r.length = 0 then r.oldest else (r.oldest + n) % r.length }

/-- R138. -/
def requestReadResults (bay max : Byte) (s : State) : State :=
  match bayOf bay with
    | none => s.answer (.readResults bay max) .badParam []
    | some b =>
      let n := (s.bay b).ring.takes max
      let records := (List.range n).flatMap (s.recordAt b)
      let t := s.modBay b (fun x => { x with ring := x.ring.removeOldest n })
      t.answer (.readResults bay max) .ok
        ([bay, BitVec.ofNat 8 n] ++ leBytes 2 (t.bay b).ring.occupancy ++ records)

/-- The sequence number of the oldest record held, from its cell (R139, R184). -/
def State.oldestSequence (s : State) (b : BayNo) : Option (BitVec 32) :=
  if 0 < (s.bay b).ring.occupancy then some (field 32 (((s.recordAt b 0).drop 1).take 4)) else none

/-- R139. -/
def requestRingStatus (bay : Byte) (s : State) : State :=
  match bayOf bay with
    | none => s.answer (.ringStatus bay) .badParam []
    | some b => s.answer (.ringStatus bay) .ok (ringStatusBody b (s.bay b).ring (s.oldestSequence b))

/-! ### CLEAR_DROPS (R140, R141) -/

/-- The loss counts lowered by what the host has seen (R140). -/
def Ring.lowerCounts (r : Ring) (drops overwrites : BitVec 16) : Ring :=
  { r with drops := lowerBy r.drops drops, overwrites := lowerBy r.overwrites overwrites }

/-- CLEAR_DROPS at a bay: the counts, and the end of the RING_FULL cause when both are 0 (R140, R141). -/
def State.clearLosses (s : State) (b : BayNo) (drops overwrites : BitVec 16) : State :=
  let t := s.modBay b (fun x => { x with ring := x.ring.lowerCounts drops overwrites })
  if (t.bay b).ring.lossless then t.ringFullFalls b else t

/-- R140, R141. -/
def requestClearDrops (bay : Byte) (seenDrops seenOverwrites : BitVec 16) (s : State) : State :=
  match bayOf bay with
    | none => s.answer (.clearDrops bay seenDrops seenOverwrites) .badParam []
    | some b =>
      let t := s.clearLosses b seenDrops seenOverwrites
      t.answer (.clearDrops bay seenDrops seenOverwrites) .ok
        (put 2 (t.bay b).ring.drops ++ put 2 (t.bay b).ring.overwrites)

end Sys2Proof.Machine
end

