-- ==== Sys2Proof/Machine/Station.lean ====
section
/-! DEFINITION. Station control and time: power-on, the run state, the stop line, the clock, the parameters
and the station reset (chapter 8). -/

namespace Sys2Proof.Machine

/-! ### Power-on (R160, R17) -/

/-- Power comes on: every item at its power-on value, the calibration store as last stored, and the input
levels as they stand (R160, R124, R170). The waiting commands are not the part's and stay. -/
def execPowerOn (stopAsserted : Bool) (contacts : BaySet) (attached : Bool) (s : State) : Result :=
  .next { State.reset with
    stopLine := stopAsserted
    port := { Port.reset with attached := attached, receiver := if attached then .hunting else .disabled }
    bays := Vector.ofFn (fun b => { Bay.reset b with contact := inSet contacts b, cal := (s.bay b).cal })
    calLock := s.calLock
    railReads := s.railReads
    pending := s.pending }

/-- A bay at the end of the start-up: UNPOWERED or VACANT by the level its contact then has (R17). -/
def Bay.startUp (x : Bay) : Bay := { x with present := x.contact, debounce := none }.outOfService

/-- The first 20 ms end: each bay takes its presence without a notice, and the port begins to take
requests (R17, R160). -/
def execStartupDebounceEnd (s : State) : Result :=
  .next (if ranOut s.startup s.clock then
    { s with startup := none, bays := s.bays.map Bay.startUp }.takeRequests
  else s)

/-! ### Parameters (R155, R156) -/

def partCode : BitVec 32 := 0x0F24
def revision : BitVec 32 := 1
def bayCount : BitVec 32 := 24

/-- The value of a station parameter now, 0 for an unassigned number (R155). -/
def State.param (s : State) (number : Byte) : BitVec 32 :=
  match number.toNat with
  | 0 => partCode
  | 1 => revision
  | 2 => bayCount
  | 3 => Config.stationSerial
  | 4 => match s.stopFunction with
    | .hold => 0
    | .abort => 1
  | 5 => s.wakeTimeout
  | 6 => s.classMask.setWidth 32
  | 7 => s.gatherSerial.setWidth 32
  | 8 => s.port.errors.setWidth 32
  | 9 => s.presenceSet.setWidth 32
  | 10 => s.poweredSet.setWidth 32
  | _ => 0

/-- A value offered for a parameter: clamped and stored when it may be written, and ignored otherwise
(R156, R164). -/
def State.setParameter (s : State) (number : Byte) (value : BitVec 32) : State :=
  match number.toNat with
  | 4 => { s with stopFunction := if value = 0 then .hold else .abort }
  | 5 => { s with wakeTimeout := BitVec.ofNat 32 (clampNat 1000 120000 value.toNat) }
  | 6 => { s with classMask := BitVec.ofNat 8 (clampNat 0 255 value.toNat) }
  | _ => s

def requestIdentify (s : State) : State :=
  s.answer .identify .ok (put 4 (s.param 0) ++ put 4 (s.param 1) ++ put 4 (s.param 2) ++ put 4 (s.param 3))

def requestGetParam (number : Byte) (s : State) : State :=
  s.answer (.getParam number) .ok (number :: put 4 (s.param number))

/-- The reply carries the value in effect after the request (R156). -/
def requestSetParam (number : Byte) (value : BitVec 32) (s : State) : State :=
  let s := s.setParameter number value
  s.answer (.setParam number value) .ok (number :: put 4 (s.param number))

/-- R154. -/
def requestReadClock (s : State) : State := s.answer .readClock .ok (put 6 s.clock)

/-! ### Run state and stop line (R147 to R151) -/

/-- R147. -/
def requestHold (s : State) : State := { s with run := .held }.answer .hold .ok []

/-- The station becomes RUN, and each IDLE transmitter with a sender waiting begins its frame; the
dispatches follow as events of their own (R148, R29, R69). -/
def State.resumeRun (s : State) : State := { s with run := .run }.eachBay State.beginFrame

/-- R148. -/
def requestResume (s : State) : State :=
  if s.stopLine then s.answer .resume .stopAsserted []
    else if s.run = .run then s.answer .resume .ok []
    else s.resumeRun.answer .resume .ok []

/-- An assertion acts by the stop function in force (R149 to R151). -/
def State.actOnStop (s : State) : State :=
  match s.stopFunction with
  | .hold => { s with run := .held }
  | .abort => s.abort

/-- The stop line input changes level: the level, the notice, and the action of an assertion (R149). A
command that names the level already held is no change (assumption 2). -/
def eventStopLineChange (asserted : Bool) (s : State) : State :=
  if s.stopLine = asserted then s
    else
      let s := { s with stopLine := asserted }.raise .stopLine
      if asserted then s.actOnStop else s

/-! ### Station reset (R158, R159) -/

/-- A bay at its station reset values: a FAULTED bay stays FAULTED, and its presence, contact, debounce
timer and calibration pair are kept (R18, R40, R57, R129, R145). -/
def Bay.stationReset (x : Bay) (b : BayNo) : Bay :=
  { Bay.reset b with state := x.state, contact := x.contact, present := x.present, debounce := x.debounce,
                     cal := x.cal }

/-- The eight steps of the station reset (R158). -/
def State.stationReset (s : State) : State :=
  let s := s.abort
  { s with
    gathers := Vector.replicate 16 .free
    gatherSerial := 0
    profiles := Profile.table
    cells := []
    bays := Vector.ofFn (fun b => (s.bay b).stationReset b)
    converter := .idle
    lastGranted := 23
    notices := .reset
    stopFunction := .hold
    wakeTimeout := 30000
    classMask := 255 }

def requestStationReset (s : State) : State := s.stationReset.answer .stationReset .ok []

end Sys2Proof.Machine
end

