-- ==== Sys2Proof/Machine/SupplySwitch.lean ====
section
/-! DEFINITION. Bay supply and power cycling: SET_SUPPLY, the overcurrent trip, the sag, CYCLE_BAY and the
end of a cycle (chapter 3). -/

namespace Sys2Proof.Machine

/-! ### SET_SUPPLY (R43 to R46) -/

/-- SET_SUPPLY OFF in a powered state (R45). -/
def State.supplyOff (s : State) (b : BayNo) : State :=
  let s := s.modBay b (fun x => x.switchOff.stopWake)
  let s := s.loseAsk b
  let s := s.unreachQueue b
  s.modBay b (fun x => { x with state := .unpowered })

/-- SET_SUPPLY OFF in CYCLING (R46). -/
def State.cycleOff (s : State) (b : BayNo) : State :=
  let s := s.modBay b Bay.abandonCycle
  let s := s.modBay b (fun x => { x with state := .unpowered })
  s.unreachQueue b

/-- SET_SUPPLY LIMITED or FULL in a powered state: the mode and its threshold, and nothing else (R44). -/
def Bay.changeMode (x : Bay) (m : OnMode) : Bay :=
  x.modSupply (fun p => { p with mode := .on m, comparator := .watching m.threshold })

/-- What SET_SUPPLY does in each bay state; none where it is refused (R43 to R46). -/
def State.setSupply (s : State) (b : BayNo) (mode : SupplyMode) : Option State :=
  match (s.bay b).state, mode with
  | .vacant, _ => none
  | .faulted, _ => none
  | .unpowered, .off => some s
  | .unpowered, .on m => some ((s.modBay b (fun x => x.switchOn m)).startWake b)
  | .cycling, .off => some (s.cycleOff b)
  | .cycling, .on m => some (s.modBay b (fun x => x.modSupply (fun p => { p with saved := m })))
  | _, .off => some (s.supplyOff b)
  | _, .on m => some (s.modBay b (fun x => x.changeMode m))

/-- R43. -/
def requestSetSupply (bay mode : Byte) (s : State) : State :=
  match bayOf bay, supplyModeOf mode with
    | some b, some m =>
      match s.setSupply b m with
      | none => s.answer (.setSupply bay mode) .wrongState []
      | some t => t.answer (.setSupply bay mode) .ok [(t.bay b).state.code, (t.bay b).supply.mode.code]
    | _, _ => s.answer (.setSupply bay mode) .badParam []

/-! ### Trip (R47) -/

/-- The seven steps of a trip, with the mode in force at it (R47). -/
def State.takeTrip (s : State) (b : BayNo) (mode : OnMode) : State :=
  let s := s.modBay b Bay.switchOff
  let s := s.modBay b (fun x => x.modSupply (fun p => { p with trips := satInc p.trips }))
  let s := s.writeRecord b .supply (supplyFields .trip mode)
  let s := s.modBay b Bay.stopWake
  let s := s.loseAsk b
  let s := s.unreachQueue b
  (s.modBay b (fun x => { x with state := .faulted })).raise (.bayFault b)

/-- The rail current exceeds what the comparator watches for (R41, R47). -/
def Comparator.trips (c : Comparator) (milliamps : Nat) : Bool :=
  match c with
  | .idle => false
  | .watching limit => limit < milliamps

/-- R47; a current that does not exceed the threshold of the mode in force is no trip (assumption 2). -/
def eventTrip (bay : BayNo) (milliamps : Nat) (s : State) : State :=
  match (s.bay bay).supply.mode with
    | .off => s
    | .on m => if (s.bay bay).supply.comparator.trips milliamps then s.takeTrip bay m else s

/-! ### Sag (R49, R50) -/

/-- A sag discards a partly received frame and cuts off a frame in transmission, and leaves the link
enabled (R20, R50). -/
def Link.cut (l : Link) : Link := { l with receiver := .hunting, gap := none, transmitter := .idle, frameOut := [] }

/-- The five steps of a sag, with the mode in force at it (R50); the detector waits for the rail (R49). -/
def State.takeSag (s : State) (b : BayNo) (mode : OnMode) : State :=
  let s := s.modBay b (fun x => x.modSupply (fun p => { p with detector := .low, sags := satInc p.sags }))
  let s := s.writeRecord b .supply (supplyFields .sag mode)
  let s := s.modBay b (fun x => x.modLink Link.cut)
  let s := s.loseAsk b
  s.startWake b

/-- A fall of the rail below the sag threshold is a sag only when the detector is CLEAR (R49). -/
def eventSag (bay : BayNo) (s : State) : State :=
  match (s.bay bay).supply.mode with
    | .off => s
    | .on m => if (s.bay bay).supply.detector = .clear then s.takeSag bay m else s

/-- The rail rises above the sag threshold: LOW becomes CLEAR (R49). -/
def eventRailRiseClear (bay : BayNo) (s : State) : State :=
  if (s.bay bay).supply.detector = .low then
      s.modBay bay (fun x => x.modSupply (fun p => { p with detector := .clear }))
    else s

/-! ### Power cycling (R52 to R54) -/

/-- The off-time in effect, in ms (R52). -/
def offTimeInEffect (offMs : BitVec 16) : Nat := clampNat 100 10000 offMs.toNat

/-- The seven steps of CYCLE_BAY in a bay whose supply is on in a mode (R53). -/
def State.cycle (s : State) (b : BayNo) (off : Nat) (saved mode : OnMode) : State :=
  let s := s.modBay b (fun x => x.switchOff.modSupply (fun p =>
    { p with saved := saved, cycleTimer := some (expiryAfter s.clock (off * 1000)) }))
  let s := s.writeRecord b .supply (supplyFields .cycleOff mode)
  let s := s.modBay b Bay.stopWake
  let s := s.loseAsk b
  s.modBay b (fun x => { x with state := .cycling })

/-- A restore mode that is absent, or one of the two it may name (R52). -/
def restoreChoice : Option Byte → Option (Option OnMode)
  | none => some none
  | some code => (restoreModeOf code).map some

/-- R52, R53. A bay in one of the four states that take the request has its supply on, by R2. -/
def requestCycleBay (bay : Byte) (offMs : BitVec 16) (restore : Option Byte) (s : State) : State :=
  match bayOf bay, restoreChoice restore with
    | some b, some choice =>
      match (s.bay b).state, (s.bay b).supply.mode with
      | .cycling, _ => s.answer (.cycleBay bay offMs restore) .busy []
      | .waking, .on m | .ready, .on m | .asking, .on m | .dark, .on m =>
        (s.cycle b (offTimeInEffect offMs) (choice.getD m) m).answer (.cycleBay bay offMs restore) .ok
          (leBytes 2 (offTimeInEffect offMs) ++ [(choice.getD m).code])
      | _, _ => s.answer (.cycleBay bay offMs restore) .wrongState []
    | _, _ => s.answer (.cycleBay bay offMs restore) .badParam []

/-- The three steps of the end of a cycle (R54). -/
def State.restoreSupply (s : State) (b : BayNo) : State :=
  let saved := (s.bay b).supply.saved
  let s := s.modBay b (fun x => x.switchOn saved)
  let s := s.writeRecord b .supply (supplyFields .cycleOn saved)
  s.startWake b

/-- R54. -/
def eventCycleTimerExpiry (bay : BayNo) (s : State) : State :=
  if ranOut (s.bay bay).supply.cycleTimer s.clock then
      let stopped := s.modBay bay (fun x => x.modSupply (fun p => { p with cycleTimer := none }))
      if (s.bay bay).state = .cycling then stopped.restoreSupply bay else stopped
    else s

end Sys2Proof.Machine
end

