-- ==== Sys2Proof/Machine/Requests.lean ====
section
/-! DEFINITION. When a request is carried out. The moment an entry of the request buffer becomes IN_HAND is the
moment the request is taken, and it reads the state of that moment (R175): whatever command comes next finds it
carried out. While the start-up runs a request waits in the request buffer (R160). -/

namespace Sys2Proof.Machine

/-- The effect of a request at its owning block, its reply included (R175); no other command is a request. -/
def State.carryOut (s : State) (c : Instr) : State :=
  match c with
  | .identify => requestIdentify s
  | .getParam number => requestGetParam number s
  | .setParam number value => requestSetParam number value s
  | .readClock => requestReadClock s
  | .hold => requestHold s
  | .resume => requestResume s
  | .stationReset => requestStationReset s
  | .bayStatus bay => requestBayStatus bay s
  | .setSupply bay mode => requestSetSupply bay mode s
  | .cycleBay bay offMs restore => requestCycleBay bay offMs restore s
  | .releaseBay bay => requestReleaseBay bay s
  | .resetBay bay => requestResetBay bay s
  | .setLineRate bay rate => requestSetLineRate bay rate s
  | .putTunnel bay block => requestPutTunnel bay block s
  | .getTunnel bay => requestGetTunnel bay s
  | .peekTunnel bay => requestPeekTunnel bay s
  | .armGather bays command profile failMask timeoutMs options args =>
      requestArmGather bays command profile failMask timeoutMs options args s
  | .gatherStatus index serial => requestGatherStatus index serial s
  | .gatherSlot index serial bay => requestGatherSlot index serial bay s
  | .cancelGather index serial => requestCancelGather index serial s
  | .releaseGather index serial => requestReleaseGather index serial s
  | .defineProfile profile valueMode m d b low high latencyMs currentMa =>
      requestDefineProfile profile valueMode m d b low high latencyMs currentMa s
  | .readProfile profile => requestReadProfile profile s
  | .clearStats profile => requestClearStats profile s
  | .setRing bay base length mode => requestSetRing bay base length mode s
  | .readResults bay max => requestReadResults bay max s
  | .clearDrops bay seenDrops seenOverwrites => requestClearDrops bay seenDrops seenOverwrites s
  | .ringStatus bay => requestRingStatus bay s
  | .pollNotice => requestPollNotice s
  | .clearNotices => requestClearNotices s
  | .writeCal bay gain offset => requestWriteCal bay gain offset s
  | .readCal bay => requestReadCal bay s
  | .lockCal => requestLockCal s
  | .unlockCal => requestUnlockCal s
  | .powerOn _ _ _ | .startupDebounceEnd | .requestFrameAccepted _ | .requestFrameCheckFail _
  | .requestLengthDiscard _ | .requestGapExpiry | .replyDelivered | .linkDetach | .linkAttach
  | .signOnAccepted _ _ | .answerAccepted _ _ | .tunnelInAccepted _ _ | .bayFrameRejected _ _
  | .bayFrameLengthDiscard _ _ _ _ | .bayFrameGapExpiry _ | .bayCharacterFault _ | .syncGapExpiry _
  | .dispatch _ | .askSent _ | .tunnelOutSent _ | .answerTimerExpiry _ | .wakeTimerExpiry _
  | .cycleTimerExpiry _ | .presenceContactChange _ _ | .debounceExpiry _ | .trip _ _ | .sag _
  | .railRiseClear _ | .stopLineChange _ | .conversionEnd _ | .baySyncReceived _ _ | .requestSyncReceived _ => s

/-- The request in hand is carried out, unless it is the request c itself (R175). -/
def State.carryInHand (c : Instr) (s : State) : State :=
  match s.requestInHand with
  | none => s
  | some d => if d = c then s else s.carryOut d

/-- What a command finds: the request in hand has been carried out, and so has each one that the port took as the
one before it was answered; when the command is the request in hand itself, it finds those before it carried out
(R175, R176). -/
def State.before (s : State) (c : Instr) : State := s.port.buffer.foldl (fun t _ => t.carryInHand c) s

/-- The port can receive a whole frame now: the pipe accepts data and no frame is in assembly (R172, R174). -/
def Port.receivesFrame (p : Port) : Bool := p.accepting && p.receiver == .hunting

/-- During the start-up a request waits at the end of the request buffer. A pipe that accepts no data keeps it at the
host, and so does a frame in assembly, whose bytes the host sends first: no frame is in assembly when the pipe stops
(R160, R174). A request commanded by its own row carries no sequence byte, and its entry has 0 there
(assumption 3). -/
def State.keepWaiting (s : State) (c : Instr) : State :=
  match encodeRequest c with
  | none => s
  | some (code, body) =>
    if s.port.receivesFrame && c.wellFormed then
      s.modPort (fun p =>
        { p with buffer := p.buffer ++ [{ code := code, seq := 0, body := body, phase := .waiting }] })
    else s

/-- A request at the part: it waits while the start-up runs (R160), and otherwise it is carried out, after those
taken before it (R175). -/
def State.serve (s : State) (c : Instr) (effect : State → State) : State :=
  match s.startup with
  | some _ => s.keepWaiting c
  | none => effect (s.before c)

end Sys2Proof.Machine
end

