-- ==== Sys2Proof/Machine/Commands.lean ====
section
/-! DEFINITION. The meaning of each command that finds the request in hand carried out (R175): a request takes
effect by its rule once the start-up is over (R160), and an event by its rule after what was taken before it. The
power-on, the end of the start-up and the port's own bytes, acceptances, deliveries, detach and attach do not
wait for a request in hand; their meanings stand in Station.lean and StationLink.lean. -/

namespace Sys2Proof.Machine

def execIdentify (s : State) : Result :=
  .next (s.serve .identify requestIdentify)

def execGetParam (number : Byte) (s : State) : Result :=
  .next (s.serve (.getParam number) (requestGetParam number))

def execSetParam (number : Byte) (value : BitVec 32) (s : State) : Result :=
  .next (s.serve (.setParam number value) (requestSetParam number value))

def execReadClock (s : State) : Result :=
  .next (s.serve .readClock requestReadClock)

def execHold (s : State) : Result :=
  .next (s.serve .hold requestHold)

def execResume (s : State) : Result :=
  .next (s.serve .resume requestResume)

def execStationReset (s : State) : Result :=
  .next (s.serve .stationReset requestStationReset)

def execBayStatus (bay : Byte) (s : State) : Result :=
  .next (s.serve (.bayStatus bay) (requestBayStatus bay))

def execSetSupply (bay mode : Byte) (s : State) : Result :=
  .next (s.serve (.setSupply bay mode) (requestSetSupply bay mode))

def execCycleBay (bay : Byte) (offMs : BitVec 16) (restore : Option Byte) (s : State) : Result :=
  .next (s.serve (.cycleBay bay offMs restore) (requestCycleBay bay offMs restore))

def execReleaseBay (bay : Byte) (s : State) : Result :=
  .next (s.serve (.releaseBay bay) (requestReleaseBay bay))

def execResetBay (bay : Byte) (s : State) : Result :=
  .next (s.serve (.resetBay bay) (requestResetBay bay))

def execSetLineRate (bay rate : Byte) (s : State) : Result :=
  .next (s.serve (.setLineRate bay rate) (requestSetLineRate bay rate))

def execPutTunnel (bay : Byte) (block : List Byte) (s : State) : Result :=
  .next (s.serve (.putTunnel bay block) (requestPutTunnel bay block))

def execGetTunnel (bay : Byte) (s : State) : Result :=
  .next (s.serve (.getTunnel bay) (requestGetTunnel bay))

def execPeekTunnel (bay : Byte) (s : State) : Result :=
  .next (s.serve (.peekTunnel bay) (requestPeekTunnel bay))

def execArmGather (bays : BaySet) (command : BitVec 16) (profile : Byte) (failMask : Indicators)
    (timeoutMs : BitVec 16) (options : Byte) (args : List Byte) (s : State) : Result :=
  .next (s.serve (.armGather bays command profile failMask timeoutMs options args) (requestArmGather bays
    command profile failMask timeoutMs options args))

def execGatherStatus (index : Byte) (serial : BitVec 16) (s : State) : Result :=
  .next (s.serve (.gatherStatus index serial) (requestGatherStatus index serial))

def execGatherSlot (index : Byte) (serial : BitVec 16) (bay : Byte) (s : State) : Result :=
  .next (s.serve (.gatherSlot index serial bay) (requestGatherSlot index serial bay))

def execCancelGather (index : Byte) (serial : BitVec 16) (s : State) : Result :=
  .next (s.serve (.cancelGather index serial) (requestCancelGather index serial))

def execReleaseGather (index : Byte) (serial : BitVec 16) (s : State) : Result :=
  .next (s.serve (.releaseGather index serial) (requestReleaseGather index serial))

def execDefineProfile (profile valueMode : Byte) (m d : BitVec 16) (b low high : BitVec 32)
    (latencyMs currentMa : BitVec 16) (s : State) : Result :=
  .next (s.serve (.defineProfile profile valueMode m d b low high latencyMs currentMa) (requestDefineProfile
    profile valueMode m d b low high latencyMs currentMa))

def execReadProfile (profile : Byte) (s : State) : Result :=
  .next (s.serve (.readProfile profile) (requestReadProfile profile))

def execClearStats (profile : Byte) (s : State) : Result :=
  .next (s.serve (.clearStats profile) (requestClearStats profile))

def execSetRing (bay : Byte) (base length : BitVec 16) (mode : Byte) (s : State) : Result :=
  .next (s.serve (.setRing bay base length mode) (requestSetRing bay base length mode))

def execReadResults (bay max : Byte) (s : State) : Result :=
  .next (s.serve (.readResults bay max) (requestReadResults bay max))

def execClearDrops (bay : Byte) (seenDrops seenOverwrites : BitVec 16) (s : State) : Result :=
  .next (s.serve (.clearDrops bay seenDrops seenOverwrites) (requestClearDrops bay seenDrops seenOverwrites))

def execRingStatus (bay : Byte) (s : State) : Result :=
  .next (s.serve (.ringStatus bay) (requestRingStatus bay))

def execPollNotice (s : State) : Result :=
  .next (s.serve .pollNotice requestPollNotice)

def execClearNotices (s : State) : Result :=
  .next (s.serve .clearNotices requestClearNotices)

def execWriteCal (bay : Byte) (gain offset : BitVec 16) (s : State) : Result :=
  .next (s.serve (.writeCal bay gain offset) (requestWriteCal bay gain offset))

def execReadCal (bay : Byte) (s : State) : Result :=
  .next (s.serve (.readCal bay) (requestReadCal bay))

def execLockCal (s : State) : Result :=
  .next (s.serve .lockCal requestLockCal)

def execUnlockCal (s : State) : Result :=
  .next (s.serve .unlockCal requestUnlockCal)

def execRequestFrameCheckFail (frame : RequestFrame) (s : State) : Result :=
  .next (eventRequestFrameCheckFail frame (s.before (.requestFrameCheckFail frame)))

def execRequestLengthDiscard (length : BitVec 16) (s : State) : Result :=
  .next (eventRequestLengthDiscard length (s.before (.requestLengthDiscard length)))

def execRequestGapExpiry (s : State) : Result :=
  .next (eventRequestGapExpiry (s.before .requestGapExpiry))

def execSignOnAccepted (bay : BayNo) (frame : BayFrame) (s : State) : Result :=
  .next (eventSignOnAccepted bay frame (s.before (.signOnAccepted bay frame)))

def execAnswerAccepted (bay : BayNo) (frame : BayFrame) (s : State) : Result :=
  .next (eventAnswerAccepted bay frame (s.before (.answerAccepted bay frame)))

def execTunnelInAccepted (bay : BayNo) (frame : BayFrame) (s : State) : Result :=
  .next (eventTunnelInAccepted bay frame (s.before (.tunnelInAccepted bay frame)))

def execBayFrameRejected (bay : BayNo) (frame : BayFrame) (s : State) : Result :=
  .next (eventBayFrameRejected bay frame (s.before (.bayFrameRejected bay frame)))

def execBayFrameLengthDiscard (bay : BayNo) (kind tag length : Byte) (s : State) : Result :=
  .next (eventBayFrameLengthDiscard bay kind tag length (s.before (.bayFrameLengthDiscard bay kind tag length)))

def execBayFrameGapExpiry (bay : BayNo) (s : State) : Result :=
  .next (eventBayFrameGapExpiry bay (s.before (.bayFrameGapExpiry bay)))

def execBayCharacterFault (bay : BayNo) (s : State) : Result :=
  .next (eventBayCharacterFault bay (s.before (.bayCharacterFault bay)))

def execSyncGapExpiry (bay : BayNo) (s : State) : Result :=
  .next (eventSyncGapExpiry bay (s.before (.syncGapExpiry bay)))

def execDispatch (bay : BayNo) (s : State) : Result :=
  .next (eventDispatch bay (s.before (.dispatch bay)))

def execAskSent (bay : BayNo) (s : State) : Result :=
  .next (eventAskSent bay (s.before (.askSent bay)))

def execTunnelOutSent (bay : BayNo) (s : State) : Result :=
  .next (eventTunnelOutSent bay (s.before (.tunnelOutSent bay)))

def execAnswerTimerExpiry (bay : BayNo) (s : State) : Result :=
  .next (eventAnswerTimerExpiry bay (s.before (.answerTimerExpiry bay)))

def execWakeTimerExpiry (bay : BayNo) (s : State) : Result :=
  .next (eventWakeTimerExpiry bay (s.before (.wakeTimerExpiry bay)))

def execCycleTimerExpiry (bay : BayNo) (s : State) : Result :=
  .next (eventCycleTimerExpiry bay (s.before (.cycleTimerExpiry bay)))

def execPresenceContactChange (bay : BayNo) (closed : Bool) (s : State) : Result :=
  .next (eventPresenceContactChange bay closed (s.before (.presenceContactChange bay closed)))

def execDebounceExpiry (bay : BayNo) (s : State) : Result :=
  .next (eventDebounceExpiry bay (s.before (.debounceExpiry bay)))

def execTrip (bay : BayNo) (milliamps : Nat) (s : State) : Result :=
  .next (eventTrip bay milliamps (s.before (.trip bay milliamps)))

def execSag (bay : BayNo) (s : State) : Result :=
  .next (eventSag bay (s.before (.sag bay)))

def execRailRiseClear (bay : BayNo) (s : State) : Result :=
  .next (eventRailRiseClear bay (s.before (.railRiseClear bay)))

def execStopLineChange (asserted : Bool) (s : State) : Result :=
  .next (eventStopLineChange asserted (s.before (.stopLineChange asserted)))

def execConversionEnd (code : BitVec 12) (s : State) : Result :=
  .next (eventConversionEnd code (s.before (.conversionEnd code)))

def execBaySyncReceived (bay : BayNo) (byte : Byte) (s : State) : Result :=
  .next (eventBaySyncReceived bay byte (s.before (.baySyncReceived bay byte)))

end Sys2Proof.Machine
end

