-- ==== Sys2Proof/Machine/Dispatch.lean ====
section
/-! DEFINITION. The effect of each command: one arm per constructor of Instr, each one call of its meaning. -/

namespace Sys2Proof.Machine

def exec (i : Instr) (s : State) : Host.Outcome State Fault Refusal :=
  match i with
  | .powerOn stopAsserted contacts attached => Sys2Proof.Machine.execPowerOn stopAsserted contacts attached s
  | .startupDebounceEnd => Sys2Proof.Machine.execStartupDebounceEnd s
  | .identify => Sys2Proof.Machine.execIdentify s
  | .getParam number => Sys2Proof.Machine.execGetParam number s
  | .setParam number value => Sys2Proof.Machine.execSetParam number value s
  | .readClock => Sys2Proof.Machine.execReadClock s
  | .hold => Sys2Proof.Machine.execHold s
  | .resume => Sys2Proof.Machine.execResume s
  | .stationReset => Sys2Proof.Machine.execStationReset s
  | .bayStatus bay => Sys2Proof.Machine.execBayStatus bay s
  | .setSupply bay mode => Sys2Proof.Machine.execSetSupply bay mode s
  | .cycleBay bay offMs restore => Sys2Proof.Machine.execCycleBay bay offMs restore s
  | .releaseBay bay => Sys2Proof.Machine.execReleaseBay bay s
  | .resetBay bay => Sys2Proof.Machine.execResetBay bay s
  | .setLineRate bay rate => Sys2Proof.Machine.execSetLineRate bay rate s
  | .putTunnel bay block => Sys2Proof.Machine.execPutTunnel bay block s
  | .getTunnel bay => Sys2Proof.Machine.execGetTunnel bay s
  | .peekTunnel bay => Sys2Proof.Machine.execPeekTunnel bay s
  | .armGather bays command profile failMask timeoutMs options args => Sys2Proof.Machine.execArmGather bays command profile failMask timeoutMs options args s
  | .gatherStatus index serial => Sys2Proof.Machine.execGatherStatus index serial s
  | .gatherSlot index serial bay => Sys2Proof.Machine.execGatherSlot index serial bay s
  | .cancelGather index serial => Sys2Proof.Machine.execCancelGather index serial s
  | .releaseGather index serial => Sys2Proof.Machine.execReleaseGather index serial s
  | .defineProfile profile valueMode m d b low high latencyMs currentMa => Sys2Proof.Machine.execDefineProfile profile valueMode m d b low high latencyMs currentMa s
  | .readProfile profile => Sys2Proof.Machine.execReadProfile profile s
  | .clearStats profile => Sys2Proof.Machine.execClearStats profile s
  | .setRing bay base length mode => Sys2Proof.Machine.execSetRing bay base length mode s
  | .readResults bay max => Sys2Proof.Machine.execReadResults bay max s
  | .clearDrops bay seenDrops seenOverwrites => Sys2Proof.Machine.execClearDrops bay seenDrops seenOverwrites s
  | .ringStatus bay => Sys2Proof.Machine.execRingStatus bay s
  | .pollNotice => Sys2Proof.Machine.execPollNotice s
  | .clearNotices => Sys2Proof.Machine.execClearNotices s
  | .writeCal bay gain offset => Sys2Proof.Machine.execWriteCal bay gain offset s
  | .readCal bay => Sys2Proof.Machine.execReadCal bay s
  | .lockCal => Sys2Proof.Machine.execLockCal s
  | .unlockCal => Sys2Proof.Machine.execUnlockCal s
  | .requestFrameAccepted frame => Sys2Proof.Machine.execRequestFrameAccepted frame s
  | .requestFrameCheckFail frame => Sys2Proof.Machine.execRequestFrameCheckFail frame s
  | .requestLengthDiscard length => Sys2Proof.Machine.execRequestLengthDiscard length s
  | .requestGapExpiry => Sys2Proof.Machine.execRequestGapExpiry s
  | .replyDelivered => Sys2Proof.Machine.execReplyDelivered s
  | .linkDetach => Sys2Proof.Machine.execLinkDetach s
  | .linkAttach => Sys2Proof.Machine.execLinkAttach s
  | .signOnAccepted bay frame => Sys2Proof.Machine.execSignOnAccepted bay frame s
  | .answerAccepted bay frame => Sys2Proof.Machine.execAnswerAccepted bay frame s
  | .tunnelInAccepted bay frame => Sys2Proof.Machine.execTunnelInAccepted bay frame s
  | .bayFrameRejected bay frame => Sys2Proof.Machine.execBayFrameRejected bay frame s
  | .bayFrameLengthDiscard bay kind tag length => Sys2Proof.Machine.execBayFrameLengthDiscard bay kind tag length s
  | .bayFrameGapExpiry bay => Sys2Proof.Machine.execBayFrameGapExpiry bay s
  | .bayCharacterFault bay => Sys2Proof.Machine.execBayCharacterFault bay s
  | .syncGapExpiry bay => Sys2Proof.Machine.execSyncGapExpiry bay s
  | .dispatch bay => Sys2Proof.Machine.execDispatch bay s
  | .askSent bay => Sys2Proof.Machine.execAskSent bay s
  | .tunnelOutSent bay => Sys2Proof.Machine.execTunnelOutSent bay s
  | .answerTimerExpiry bay => Sys2Proof.Machine.execAnswerTimerExpiry bay s
  | .wakeTimerExpiry bay => Sys2Proof.Machine.execWakeTimerExpiry bay s
  | .cycleTimerExpiry bay => Sys2Proof.Machine.execCycleTimerExpiry bay s
  | .presenceContactChange bay closed => Sys2Proof.Machine.execPresenceContactChange bay closed s
  | .debounceExpiry bay => Sys2Proof.Machine.execDebounceExpiry bay s
  | .trip bay milliamps => Sys2Proof.Machine.execTrip bay milliamps s
  | .sag bay => Sys2Proof.Machine.execSag bay s
  | .railRiseClear bay => Sys2Proof.Machine.execRailRiseClear bay s
  | .stopLineChange asserted => Sys2Proof.Machine.execStopLineChange asserted s
  | .conversionEnd code => Sys2Proof.Machine.execConversionEnd code s
  | .baySyncReceived bay byte => Sys2Proof.Machine.execBaySyncReceived bay byte s
  | .requestSyncReceived byte => Sys2Proof.Machine.execRequestSyncReceived byte s

end Sys2Proof.Machine
end

