-- ==== Sys2Proof/Safety.lean ====
section
/-! DEFINITION. What the manual says holds of the part at every moment: the invariants that claims are
stated in. Each is decidable. -/

namespace Sys2Proof.Machine

/-! ### One bay -/

/-- The states in which the supply is OFF (R2). -/
def BayState.supplyOff : BayState → Bool
  | .vacant => true | .unpowered => true | .cycling => true | .faulted => true
  | .waking => false | .ready => false | .asking => false | .benched => false | .dark => false

/-- The comparator that goes with a supply mode (R41). -/
def comparatorFor : SupplyMode → Comparator
  | .off => .idle
  | .on m => .watching m.threshold

/-- The supply is OFF exactly in VACANT, UNPOWERED, CYCLING and FAULTED; comparator, sag detector,
receiver and transmitter go with it; the bay is VACANT exactly when its presence is absent; the cycle
timer runs exactly in CYCLING and the wake timer exactly in WAKING (R2, R8, R20, R41). -/
def Bay.supplyConsistent (x : Bay) : Bool :=
  (x.supply.mode == .off) == x.state.supplyOff &&
  x.supply.comparator == comparatorFor x.supply.mode &&
  (x.supply.detector == .idle) == x.state.supplyOff &&
  (x.link.receiver == .disabled) == x.state.supplyOff &&
  (x.link.transmitter == .disabled) == x.state.supplyOff &&
  (x.state == .vacant) == !x.present &&
  x.supply.cycleTimer.isSome == (x.state == .cycling) &&
  x.link.wakeTimer.isSome == (x.state == .waking)

/-- The outstanding tag is present exactly when the bay is ASKING, and only then is an ask pending or the
answer timer running, not both; READY, ASKING and BENCHED bays have an ask tag other than 0 to give, and an
outstanding tag is not 0 (R19, R28, R30). -/
def Bay.askConsistent (x : Bay) : Bool :=
  x.link.outstanding.isSome == (x.state == .asking) &&
  (!x.link.pendingAsk.isSome || x.state == .asking) &&
  (!x.link.answerTimer.isSome || x.state == .asking) &&
  !(x.link.pendingAsk.isSome && x.link.answerTimer.isSome) &&
  (!(x.state == .ready || x.state == .asking || x.state == .benched) || x.link.nextTag != 0) &&
  x.link.outstanding != some 0

/-- A bay that takes no queued slots has an empty queue, and no queue holds more than 8 indices (R63). -/
def Bay.queueConsistent (x : Bay) : Bool := (x.state.available || x.queue.isEmpty) && x.queue.length ≤ 8

/-- The occupancy stays within the length, the oldest offset within the window, and the window within the
store (R130, R131). -/
def Ring.consistent (r : Ring) : Bool :=
  r.occupancy ≤ r.length && (r.oldest < r.length || (r.length == 0 && r.oldest == 0)) && r.base ≤ 4095 &&
  r.base + r.length ≤ 4096

/-! ### The whole part -/

/-- Every bay is consistent on its own account. -/
def State.baysConsistent (s : State) : Prop :=
  ∀ b : BayNo, (s.bay b).supplyConsistent ∧ (s.bay b).askConsistent ∧ (s.bay b).queueConsistent

/-- While the start-up runs every bay is still VACANT and no debounce timer runs (R17, R160). -/
def State.startupConsistent (s : State) : Prop :=
  s.startup.isSome → ∀ b : BayNo, (s.bay b).state = .vacant ∧ (s.bay b).debounce = none

/-- Every ring is consistent, and no two non-zero windows share a cell (R131). -/
def State.ringsConsistent (s : State) : Prop :=
  (∀ b : BayNo, (s.bay b).ring.consistent) ∧
  ∀ b c : BayNo, b ≠ c →
    windowsMeet (s.bay b).ring.base (s.bay b).ring.length (s.bay c).ring.base (s.bay c).ring.length = false

/-- Each condition place follows its cause: RING_FULL is active exactly while losses are counted (R142), and
TUNNEL_IN exactly while the tunnel-in slot is full (R38). -/
def State.causesConsistent (s : State) : Prop :=
  ∀ b : BayNo,
    ((s.notices.ringFull.get b = .inactive) ↔ (s.bay b).ring.lossless) ∧
    ((s.notices.tunnelIn.get b = .inactive) ↔ (s.bay b).link.tunnelIn = none)

/-- Entries older than an IN_HAND entry are REPLYING and younger ones WAITING, with at most one IN_HAND
(R170). -/
def bufferOrdered : List Entry → Bool
  | [] => true
  | e :: es =>
    match e.phase with
    | .replying _ => bufferOrdered es
    | .inHand _ => es.all (fun x => x.phase == .waiting)
    | .waiting => es.all (fun x => x.phase == .waiting)

/-- The request buffer holds at most 4 entries in their order; the receiver is DISABLED exactly when the
function is detached; a frame is in assembly only while the pipe accepts data (R170, R174, R178). -/
def Port.consistent (p : Port) : Bool :=
  p.buffer.length ≤ 4 && bufferOrdered p.buffer && (p.receiver == .disabled) == !p.attached &&
  (!p.assembling || p.accepting)

/-- How many slots of a gather are in a stage. -/
def Gather.stageCount (g : Gather) (st : Stage) : Nat := countBays (fun b => (g.slot b).stage == st)

/-- How many slots of a gather have an ending. -/
def Gather.endingCount (g : Gather) (e : Ending) : Nat := countBays (fun b => (g.slot b).ending == some e)

/-- The four endings whose slots are evaluated and recorded (R62). -/
def Ending.evaluated : Ending → Bool
  | .answered => true | .timedOut => true | .lost => true | .unreached => true
  | .skipped => false | .cancelled => false

/-- An ending is present exactly in a FINAL slot, a verdict of PASS or FAIL exactly with an evaluated ending,
a slot without one carries no indicators, and only an ANSWERED slot has a scaled value (R60, R62, R99, R102). -/
def Slot.consistent (x : Slot) : Bool :=
  (x.stage == .final) == x.ending.isSome &&
  (x.verdict != .none) == x.ending.any Ending.evaluated &&
  (x.verdict != .none || x.indicators == 0) && (x.scaled.isNone || x.ending == some .answered)

/-- A FREE entry has no slot in use; an entry is OPEN exactly when it has a slot QUEUED or SENT; a slot is
NONE exactly for a bay outside the set; every slot is consistent (R58 to R60). -/
def Gather.consistent (g : Gather) : Bool :=
  ((g.state == .opened) == g.hasOpenSlot) &&
  allBays.all (fun b => ((g.slot b).stage == .outside) == !(inSet g.bays b) && (g.slot b).consistent) &&
  (g.state != .free || g.bays == 0)

/-- The counts of the summary are those of the slots, and the PASS and FAIL sets hold the bays of those
verdicts (R84, R85). -/
def Gather.summaryConsistent (g : Gather) : Bool :=
  g.summary.queued == g.stageCount .queued && g.summary.sent == g.stageCount .sent &&
  g.summary.endings.answered == g.endingCount .answered &&
  g.summary.endings.timedOut == g.endingCount .timedOut &&
  g.summary.endings.lost == g.endingCount .lost &&
  g.summary.endings.unreached == g.endingCount .unreached &&
  g.summary.endings.skipped == g.endingCount .skipped &&
  g.summary.endings.cancelled == g.endingCount .cancelled &&
  allBays.all (fun b => inSet g.summary.passSet b == ((g.slot b).verdict == .pass) &&
    inSet g.summary.failSet b == ((g.slot b).verdict == .fail)) &&
  g.summary.passCount == countBays (fun b => (g.slot b).verdict == .pass) &&
  g.summary.failCount == countBays (fun b => (g.slot b).verdict == .fail)

/-- An index is in a bay's queue exactly when the gather's slot for the bay is QUEUED, and no queue holds an
index twice (R63). -/
def State.queuesAgree (s : State) : Prop :=
  ∀ b : BayNo, (s.bay b).queue.Nodup ∧
    ∀ i : GatherNo, i ∈ (s.bay b).queue ↔ ((s.gather i).slot b).stage = .queued

/-- A bay is ASKING exactly when one slot in the whole gather table is SENT for it, and that slot's ask tag
is the outstanding tag (R19, R61). -/
def State.asksAgree (s : State) : Prop :=
  ∀ b : BayNo,
    ((s.bay b).state = .asking ↔ ∃ i, ((s.gather i).slot b).stage = .sent) ∧
    (∀ i j, ((s.gather i).slot b).stage = .sent → ((s.gather j).slot b).stage = .sent → i = j) ∧
    (∀ i, ((s.gather i).slot b).stage = .sent → ((s.gather i).slot b).tag = (s.bay b).link.outstanding)

/-- Every gather entry is consistent with its slots and summary (R58 to R60, R84, R85). -/
def State.gathersConsistent (s : State) : Prop :=
  ∀ i : GatherNo, (s.gather i).consistent ∧ (s.gather i).summaryConsistent

/-- A profile's in-use count is the number of OPEN gathers that name it (R92). -/
def State.inUseAgrees (s : State) : Prop :=
  ∀ p : ProfileNo,
    (s.profile p).inUse = allGathers.countP (fun i => (s.gather i).state == .opened && (s.gather i).profile == p)

/-- The definition of a profile (R90). -/
def Profile.definitionKept (after before : Profile) : Prop :=
  after.defined = before.defined ∧ after.mode = before.mode ∧ after.m = before.m ∧ after.d = before.d ∧
  after.b = before.b ∧ after.low = before.low ∧ after.high = before.high ∧ after.latencyMs = before.latencyMs ∧
  after.currentMa = before.currentMa

/-- The profile table: profile 0 is the built-in one and has evaluated nothing (R91); an extreme is present
exactly while the evaluated count is above 0, and then the minimum is not greater than the maximum (R109). -/
def State.profilesConsistent (s : State) : Prop :=
  (s.profile 0).definitionKept .builtIn ∧ (s.profile 0).evaluated = 0 ∧
  ∀ p : ProfileNo,
    ((s.profile p).minimum.isSome ↔ (s.profile p).evaluated ≠ 0) ∧
    ((s.profile p).maximum.isSome ↔ (s.profile p).evaluated ≠ 0) ∧
    (s.profile p).minimum.all (fun lo => (s.profile p).maximum.all (fun hi => lo.toInt ≤ hi.toInt))

/-- The bay whose window the conversion in progress is still tied to (R116, R117). -/
def Converter.tiedTo (c : Converter) : Option BayNo :=
  match c with
  | .idle => none
  | .converting b _ tied => if tied then some b else none

/-- A sampling window is OPEN only for an ASKING bay whose answer timer runs (R112), and a conversion is tied to an
OPEN window alone (R116, R117). -/
def State.windowsAgree (s : State) : Prop :=
  ∀ b : BayNo,
    ((s.bay b).window.isOpen → (s.bay b).state = .asking ∧ (s.bay b).link.answerTimer.isSome) ∧
    (s.converter.tiedTo = some b → (s.bay b).window.isOpen)

/-- The accumulators of an open window: n at most 65 535, the extremes set exactly while n is above 0, and
the sums between what the extremes allow (R121, R123). -/
def Accumulator.consistent (a : Accumulator) : Prop :=
  a.n ≤ 65535 ∧
  match a.minimum, a.maximum with
  | some lo, some hi =>
    0 < a.n ∧ lo ≤ hi ∧ hi ≤ 8191 ∧ a.n * lo ≤ a.sum ∧ a.sum ≤ a.n * hi ∧ a.sumSquares ≤ a.n * (hi * hi) ∧
      a.sum * a.sum ≤ a.n * a.sumSquares
  | none, none => a.n = 0 ∧ a.sum = 0 ∧ a.sumSquares = 0
  | _, _ => False

/-- The bays, the queues and the gathers agree with one another: what R2, R17, R19, R58 to R63 and R112 say holds
at every moment. -/
def State.tableAgrees (s : State) : Prop :=
  s.startupConsistent ∧ s.baysConsistent ∧ s.gathersConsistent ∧ s.queuesAgree ∧ s.asksAgree ∧ s.windowsAgree

/-- The accumulators of every open window are consistent (R121, R123). -/
def State.accumulatorsConsistent (s : State) : Prop :=
  ∀ (b : BayNo) (a : Accumulator), (s.bay b).window = .opened a → a.consistent

/-! ### Replies and notices, as claims speak of them -/

/-- The state after a request that left u behind: u itself, with the reply composed on it (R176). Only the
port, which hands the reply over and takes the next request, is left open here. -/
def State.repliedAs (t u : State) (status : Status) (body : List Byte) : Prop :=
  t = { u with port := t.port, lastReply := some { status := status, flags := u.replyFlags, body := body } }

/-- The latest reply has this status and body and the flags of this moment (R176). -/
def State.repliesWith (t : State) (status : Status) (body : List Byte) : Prop :=
  t.lastReply = some { status := status, flags := t.replyFlags, body := body }

/-- An event notice was raised once: its place waits when its class is enabled, and is as it was when not
(R162). -/
def State.raisedFrom (t s : State) (p : Place) : Prop :=
  t.notices.waiting p = (s.classEnabled p || s.notices.waiting p)

/-- So many bytes of a body from an offset (R183, R184). -/
def bytesAt (body : List Byte) (offset size : Nat) : List Byte := (body.drop offset).take size

/-- The number in a field of a body (R181). -/
def numberAt (body : List Byte) (offset size : Nat) : Nat := readLE (bytesAt body offset size)

/-! ### What an event at a bay does to the bay's slots -/

/-- The endings that an event gives: to the bay's SENT slot, and to its QUEUED slots; none leaves them. -/
structure Fate where
  sent : Option Ending
  queued : Option Ending
  deriving DecidableEq, Repr

/-- The slot as an evaluated ending leaves it: FINAL, with the fields of R74, the statistics of the bay's window
when it was SENT, and judged by its profile under its fail mask (R73, steps 1 to 3; R98). -/
def State.slotJudged (s : State) (b : BayNo) (i : GatherNo) (e : Ending) (answer : Option Answer) : Slot :=
  evaluate (s.profile (s.gather i).profile) (s.gather i).failMask (s.gather i).measure
    { (s.gather i).slot b with
      stage := .final
      ending := some e
      stats := if ((s.gather i).slot b).stage = .sent then (s.bay b).window.stats else none
      answerTime := answer.map (fun _ => s.clock)
      status := answer.map (·.status)
      raw := answer.bind (·.value)
      payload := (answer.map (·.payload)).getD [] }

/-- The slot as an ending without an answer leaves it: judged when the ending is an evaluated one, and otherwise
FINAL without a verdict or an indicator (R62, R73, R76). -/
def State.slotEnded (s : State) (b : BayNo) (i : GatherNo) (e : Ending) : Slot :=
  if e.evaluated then s.slotJudged b i e none
  else { (s.gather i).slot b with stage := .final, ending := some e, verdict := .none, indicators := 0 }

/-- The slot after an event that gives it this ending, or none. -/
def State.slotAfter (s : State) (b : BayNo) (i : GatherNo) (e : Option Ending) : Slot :=
  match e with
  | none => (s.gather i).slot b
  | some e => s.slotEnded b i e

/-- Every slot of the bay met the event: SENT and QUEUED slots as the fate says, every other as it was (the
table "Slot fates by bay event" of chapter 4). -/
def State.slotsMeet (s t : State) (b : BayNo) (f : Fate) : Prop :=
  ∀ i : GatherNo,
    (t.gather i).slot b =
      match ((s.gather i).slot b).stage with
      | .sent => s.slotAfter b i f.sent
      | .queued => s.slotAfter b i f.queued
      | .outside => (s.gather i).slot b
      | .final => (s.gather i).slot b

/-- One when the bay is ASKING: the outcome record of its outstanding ask. -/
def Bay.asks (x : Bay) : Nat := if x.state = .asking then 1 else 0

/-- The bay's record numbers moved on by so many (R133). -/
def Bay.wroteRecords (after before : Bay) (n : Nat) : Prop :=
  after.ring.nextSeq = before.ring.nextSeq + BitVec.ofNat 32 n

/-- The Result Store's bytes once a record has been handed over for a bay: put in the cell after the youngest
record, or over the oldest, when the ring keeps it, and as they were otherwise (R134, R135). -/
def State.cellsAfter (s : State) (b : BayNo) (kind : RecordKind) (own : List Byte) : List Host.Cell :=
  if (s.bay b).ring.keeps then
    writeCells s.cells (cellAddress ((s.bay b).ring.cellAt (s.bay b).ring.occupancy))
      (recordCell kind b (s.bay b).ring.nextSeq s.clock own)
  else s.cells

/-! ### The records of an event, in their order -/

/-- Records handed to the Result Store for a bay, one after the other (R132). -/
def State.handOver (s : State) (b : BayNo) (records : List (RecordKind × List Byte)) : State :=
  records.foldl (fun u r => u.writeRecord b r.1 r.2) s

/-- The event handed over exactly these records for the bay, in this order: the Result Store's bytes, the bay's ring
and its RING_FULL place are as those records leave them (R132 to R134, R142). -/
def State.recordsAre (s t : State) (b : BayNo) (records : List (RecordKind × List Byte)) : Prop :=
  t.cells = (s.handOver b records).cells ∧ (t.bay b).ring = ((s.handOver b records).bay b).ring ∧
  t.notices.ringFull.get b = (s.handOver b records).notices.ringFull.get b

/-- The OUTCOME record of a bay's slot in a gather, with the slot as the event left it (R75). -/
def State.outcomeRecord (s t : State) (b : BayNo) (i : GatherNo) : RecordKind × List Byte :=
  (.outcome, outcomeFields i (s.gather i) ((t.gather i).slot b) s.clock)

/-- The OUTCOME record of the outstanding ask of a bay that is ASKING, and none of another. -/
def State.askRecord (s t : State) (b : BayNo) : List (RecordKind × List Byte) :=
  if (s.bay b).state = .asking then (s.sentGather b).toList.map (s.outcomeRecord t b) else []

/-- The OUTCOME records of the slots QUEUED for the bay, in queue order (R64). -/
def State.queueRecords (s t : State) (b : BayNo) : List (RecordKind × List Byte) :=
  (s.bay b).queue.map (s.outcomeRecord t b)

/-! ### When a command finds the state as it stands -/

/-- The start-up is over and no request is in hand: a request commanded now is carried out at once, on the state as
it stands (R160, R175). -/
def State.portClear (s : State) : Bool := s.startup.isNone && s.requestInHand.isNone

/-- No request was taken before this command: none is in hand, or the command is the request in hand (R175). -/
def State.comesFirst (s : State) (c : Instr) : Prop := s.requestInHand = none ∨ s.requestInHand = some c

/-- The events before which the request in hand need not be carried out: what arrives at the port, is delivered or is
attached there changes nothing that a request reads; a loss of power leaves no request in hand (R170), and the end of
the start-up comes before any is taken (R160). -/
def passesRequests : Instr → Bool
  | .powerOn _ _ _ | .startupDebounceEnd | .requestFrameAccepted _ | .requestSyncReceived _ | .replyDelivered
  | .linkDetach | .linkAttach => true
  | _ => false

/-! ### What an event at a bay leaves alone in the bay's own record -/

/-- Presence, contact, debounce timer and calibration pair are kept. -/
def Bay.seatKept (after before : Bay) : Prop :=
  after.contact = before.contact ∧ after.present = before.present ∧ after.debounce = before.debounce ∧
  after.cal = before.cal

/-- Identity and sign-on count are kept. -/
def Bay.identityKept (after before : Bay) : Prop :=
  after.identity = before.identity ∧ after.signOns = before.signOns

/-- The ring's window and mode are kept. -/
def Bay.windowOfRingKept (after before : Bay) : Prop :=
  after.ring.base = before.ring.base ∧ after.ring.length = before.ring.length ∧ after.ring.mode = before.ring.mode

/-- The line rate and the three counts of the link are kept. -/
def Link.ratesAndCountsKept (after before : Link) : Prop :=
  after.lineRate = before.lineRate ∧ after.linkErrors = before.linkErrors ∧ after.stale = before.stale ∧
  after.tunnelDrops = before.tunnelDrops

/-- The conversion in progress runs on, and its tie ends when it is for this bay (R114, R117). -/
def Converter.tieEnded (after before : Converter) (b : BayNo) : Prop :=
  match before with
  | .idle => after = .idle
  | .converting granted ends tied => after = .converting granted ends (tied && granted ≠ b)

/-- The transmitter and the frame in transmission are as they were (R29). -/
def Link.sendingKept (after before : Link) : Prop :=
  after.transmitter = before.transmitter ∧ after.frameOut = before.frameOut

/-- The statistics of a profile, its in-use count apart, are the same (R109). -/
def Profile.statsKept (after before : Profile) : Prop :=
  after.evaluated = before.evaluated ∧ after.minimum = before.minimum ∧ after.maximum = before.maximum ∧
  after.fails = before.fails

/-- Both tunnel slots are kept. -/
def Link.tunnelsKept (after before : Link) : Prop :=
  after.tunnelOut = before.tunnelOut ∧ after.tunnelIn = before.tunnelIn

/-- No exchange is left on the link: no ask pending or outstanding and no answer timer (R34). -/
def Link.quiet (l : Link) : Prop := l.pendingAsk = none ∧ l.outstanding = none ∧ l.answerTimer = none

/-- The link as a supply that is off leaves it (R20). -/
def Link.switchedOff (l : Link) : Prop :=
  l.receiver = .disabled ∧ l.gap = none ∧ l.transmitter = .disabled ∧ l.frameOut = [] ∧ l.wakeTimer = none ∧ l.quiet

/-- The supply switch with the rail disconnected (R42). -/
def Supply.switchedOff (p : Supply) : Prop := p.mode = .off ∧ p.comparator = .idle ∧ p.detector = .idle

/-! ### What the commands reach -/

/-- The bay a command acts on, when it acts on one bay alone. -/
def columnOf : Instr → Option BayNo
  | .bayStatus bay | .setSupply bay _ | .cycleBay bay _ _ | .releaseBay bay | .resetBay bay | .setLineRate bay _
  | .putTunnel bay _ | .getTunnel bay | .peekTunnel bay | .setRing bay _ _ _ | .readResults bay _
  | .clearDrops bay _ _ | .ringStatus bay | .writeCal bay _ _ | .readCal bay => bayOf bay
  | .signOnAccepted bay _ | .answerAccepted bay _ | .tunnelInAccepted bay _ | .bayFrameRejected bay _
  | .bayFrameLengthDiscard bay _ _ _ | .bayFrameGapExpiry bay | .bayCharacterFault bay | .syncGapExpiry bay
  | .dispatch bay | .askSent bay | .tunnelOutSent bay | .answerTimerExpiry bay | .wakeTimerExpiry bay
  | .cycleTimerExpiry bay | .presenceContactChange bay _ | .debounceExpiry bay | .trip bay _ | .sag bay
  | .railRiseClear bay | .baySyncReceived bay _ => some bay
  | .powerOn _ _ _ | .startupDebounceEnd | .identify | .getParam _ | .setParam _ _ | .readClock | .hold | .resume
  | .stationReset | .armGather _ _ _ _ _ _ _ | .gatherStatus _ _ | .gatherSlot _ _ _ | .cancelGather _ _
  | .releaseGather _ _ | .defineProfile _ _ _ _ _ _ _ _ _ | .readProfile _ | .clearStats _ | .pollNotice
  | .clearNotices | .lockCal | .unlockCal | .requestFrameAccepted _ | .requestFrameCheckFail _
  | .requestLengthDiscard _ | .requestGapExpiry | .replyDelivered | .linkDetach | .linkAttach
  | .stopLineChange _ | .conversionEnd _ | .requestSyncReceived _ => none

/-- A command of the station link or of a request, the only ones that reach the port. -/
def reachesPort : Instr → Bool
  | .powerOn _ _ _ | .startupDebounceEnd | .requestFrameAccepted _ | .requestFrameCheckFail _
  | .requestLengthDiscard _ | .requestGapExpiry | .replyDelivered | .linkDetach | .linkAttach
  | .requestSyncReceived _ => true
  | c => (encodeRequest c).isSome

/-- A byte address lies in a cell of the bay's window (R130). -/
def State.inWindow (s : State) (b : BayNo) (address : Nat) : Bool :=
  (s.bay b).ring.base ≤ address / cellBytes && address / cellBytes < (s.bay b).ring.base + (s.bay b).ring.length

/-- Everything a bay has in the part is as it was: its record, link, supply, queue, window, calibration pair
and ring, its slots in the gather table, the bytes of its ring's window and its notice places. -/
def State.columnKept (s t : State) (d : BayNo) : Prop :=
  t.bay d = s.bay d ∧
  (∀ i : GatherNo, (t.gather i).slot d = (s.gather i).slot d) ∧
  (∀ address : Nat, s.inWindow d address → readCell t.cells address = readCell s.cells address) ∧
  t.notices.bayFault.get d = s.notices.bayFault.get d ∧ t.notices.bayDark.get d = s.notices.bayDark.get d ∧
  t.notices.presence.get d = s.notices.presence.get d ∧ t.notices.ringFull.get d = s.notices.ringFull.get d ∧
  t.notices.tunnelIn.get d = s.notices.tunnelIn.get d ∧ t.notices.signedOn.get d = s.notices.signedOn.get d

/-- What ARM_GATHER gave a gather and nothing changes until its release (R58). -/
def Gather.termsKept (after before : Gather) : Prop :=
  after.serial = before.serial ∧ after.bays = before.bays ∧ after.command = before.command ∧
  after.args = before.args ∧ after.profile = before.profile ∧ after.failMask = before.failMask ∧
  after.timeoutMs = before.timeoutMs ∧ after.measure = before.measure ∧ after.benchOnFail = before.benchOnFail ∧
  after.expectRestart = before.expectRestart ∧ after.armTime = before.armTime

end Sys2Proof.Machine
end

