-- ==== Sys2Proof/Certificates/Slice0/Obligations.lean ====
section
/-! DEFINITION. The statements for the provers: what the numbered rules of the manual say of the model. A
statement about one command gives its result as a next state; the frames common to many commands stand at the
end, over every command at once. -/

open Sys2Proof Sys2Proof.Machine

/-! ### The queue of commands -/

/-- A step carries out the command at the front of the queue with the queue's rest waiting. -/
def Obligations.StepCarriesOutTheFrontCommand : Prop :=
  ∀ (s : State) (c : Instr) (rest : List Instr), s.pending = c :: rest →
    step s = exec c { s with pending := rest }

/-- The model's choice (assumptions 1, 14): with no command waiting, an event that is due joins the queue; else the end
of a conversion that has run its 10 us joins it, with a code of the rail's own; and else the clock goes up by one
microsecond, in every state of the part (R154). While the pipe is stopped the station link's gap timer is suspended:
its expiry time moves on with the clock (R173, R174). -/
def Obligations.AnEmptyQueueLetsTheBlockAct : Prop :=
  ∀ s : State, s.pending = [] →
    (∀ c, s.dueCommand = some c → step s = .next { s with pending := [c] }) ∧
    (s.dueCommand = none → s.awaitsSample = true →
      step s = .next { s with
        pending := [.conversionEnd (Config.railCode s.railReads)], railReads := s.railReads + 1 }) ∧
    (s.dueCommand = none → s.awaitsSample = false →
      step s = .next { s with
        clock := s.clock + 1,
        port := if s.port.attached ∧ s.port.buffer.length < 4 then s.port
                else { s.port with gap := s.port.gap.map (· + 1) } })

/-- Every invariant stated below holds of the part right after reset. -/
def Obligations.InvariantsHoldAtReset : Prop :=
  State.reset.tableAgrees ∧ State.reset.ringsConsistent ∧ State.reset.causesConsistent ∧
  Memory.wf State.reset.cells ∧ State.reset.port.consistent ∧ State.reset.inUseAgrees ∧
  State.reset.profilesConsistent ∧ State.reset.accumulatorsConsistent

/-! ### The station link (chapter 10) -/

/-- R175, R176, R178, R182: when a request that is IN_HAND is carried out, its effect and its reply are those it has
with an empty buffer; its entry becomes REPLYING with the reply frame, or leaves the buffer when a detach has marked
it, and the port takes the WAITING entries that follow. Every other command but those of the port that touch nothing a
request reads finds the request in hand carried out, so that it read the state at which it was taken. The last clause
lays out the reply frame and the status codes. That a request commanded by its own row is the one in hand when it equals it is
the model's choice (assumption 3). -/
def Obligations.AReplyGoesToTheRequestInHand : Prop :=
  (∀ (c : Instr) (s : State) (replied waiting : List Entry) (e : Entry) (discard : Bool),
    (encodeRequest c).isSome → s.startup = none →
    s.port.buffer = replied ++ e :: waiting →
    (∀ x ∈ replied, ∃ frame, x.phase = .replying frame) → e.phase = .inHand discard →
    (∀ x ∈ waiting, x.phase = .waiting) → decodeRequest e.code e.body = .request c →
    ∃ t u r, exec c s = .next t ∧ exec c { s with port := { s.port with buffer := [] } } = .next u ∧
      u.lastReply = some r ∧ r.flags = u.replyFlags ∧
      t = { u with port := { s.port with buffer := replied ++
        (if discard then takeWaiting u.replyFlags waiting
         else { e with phase := .replying (replyFrame e.code e.seq r) } :: takeWaiting u.replyFlags waiting) } }) ∧
  (∀ (c d : Instr) (s t : State),
    s.startup = none → passesRequests c = false → s.requestInHand = some d → d ≠ c →
    exec d s = .next t → exec c s = exec c t) ∧
  (∀ (code seq : Byte) (r : Reply), r.body.length ≤ 1024 →
    let f := replyFrame code seq r
    let n := r.body.length
    f.length = 9 + n ∧ f[0]? = some 0x3C ∧ numberAt f 1 2 = n ∧ f[3]? = some code ∧ f[4]? = some seq ∧
    f[5]? = some r.status.code ∧
    numberAt f 6 1 = (if r.flags.noticeWaiting then 1 else 0) + (if r.flags.stationHeld then 2 else 0) +
      (if r.flags.stopAsserted then 4 else 0) ∧
    bytesAt f 7 n = r.body ∧ numberAt f (7 + n) 2 = (crc (bytesAt f 1 (6 + n))).toNat) ∧
  [Status.ok, .unknownRequest, .badLength, .badParam, .busy, .full, .notFound, .wrongState, .stopAsserted,
    .locked].map Status.code = [0, 1, 2, 3, 4, 5, 6, 7, 8, 9]

/-- R174, R175, R160: an intact request frame becomes the youngest entry of the buffer. When every entry before it
is REPLYING it is taken at once: refused with UNKNOWN_REQUEST or BAD_LENGTH, or IN_HAND. While another is IN_HAND,
and while the start-up runs, it waits. Nothing else of the part changes. A request commanded by its own row during the
start-up waits in the same way; that its entry has 0 as its sequence byte, and that one which a stopped or detached
pipe, a frame in assembly or its own length keeps at the host leaves no trace, are the model's choice (assumption
3). -/
def Obligations.AnIntactRequestJoinsTheBuffer : Prop :=
  (∀ (f : RequestFrame) (s : State) (got : List Byte),
    s.port.attached = true → s.port.buffer.length < 4 → s.port.receiver = .inFrame got → got <+: f.bytes →
    f.wellFormed → requestIntact f →
    ∃ t, exec (.requestFrameAccepted f) s = .next t ∧
      t = { s with port := { s.port with receiver := .hunting, gap := none, buffer := t.port.buffer } } ∧
      (s.startup = none → (∀ x ∈ s.port.buffer, ∃ frame, x.phase = .replying frame) →
        t.port.buffer = s.port.buffer ++ [
          { code := f.code, seq := f.seq, body := f.body,
            phase := match decodeRequest f.code f.body with
              | .unknown => .replying (replyFrame f.code f.seq ⟨.unknownRequest, s.replyFlags, []⟩)
              | .badLength => .replying (replyFrame f.code f.seq ⟨.badLength, s.replyFlags, []⟩)
              | .request _ => .inHand false }]) ∧
      (s.startup = none → bufferOrdered s.port.buffer → (∃ x ∈ s.port.buffer, ∃ discard, x.phase = .inHand discard) →
        t.port.buffer = s.port.buffer ++ [{ code := f.code, seq := f.seq, body := f.body, phase := .waiting }]) ∧
      (s.startup ≠ none →
        t.port.buffer = s.port.buffer ++ [{ code := f.code, seq := f.seq, body := f.body, phase := .waiting }])) ∧
  (∀ (c : Instr) (s : State) (code : Byte) (body : List Byte), encodeRequest c = some (code, body) → s.startup ≠ none →
    (s.port.attached = true → s.port.buffer.length < 4 → s.port.receiver = .hunting → c.wellFormed →
      exec c s = .next { s with port := { s.port with buffer :=
        s.port.buffer ++ [{ code := code, seq := 0, body := body, phase := .waiting }] } }) ∧
    (s.port.attached = false ∨ 4 ≤ s.port.buffer.length ∨ s.port.receiver ≠ .hunting ∨ c.wellFormed = false →
      exec c s = .next s))

/-- R172, R173, R174, R179: how the request receiver assembles a frame and what makes it discard one, each discard
counted once; while the pipe is stopped no byte arrives and the suspended gap timer does not expire. The byte at which
the receiver judges belongs to the frame's own command (assumption 6); that the 50 ms have run out at exactly the limit
rests on assumption 5, and that an expiry before it, or a byte to a stopped pipe, is no event on assumption 2. -/
def Obligations.TheRequestReceiverAssemblesAndDiscards : Prop :=
  (∀ s : State, s.requestInHand = none → (s.port.attached = false ∨ 4 ≤ s.port.buffer.length) →
    exec .requestGapExpiry s = .next s ∧ ∀ byte, exec (.requestSyncReceived byte) s = .next s) ∧
  ∀ (s : State) (got : List Byte), s.requestInHand = none → s.port.attached = true → s.port.buffer.length < 4 →
    let discarded := { s with port := { s.port with receiver := .hunting, gap := none, errors := satInc s.port.errors } }
    (∀ f, s.port.receiver = .inFrame got → got <+: f.bytes → f.wellFormed → requestIntact f = false →
      exec (.requestFrameCheckFail f) s = .next discarded) ∧
    (∀ length : BitVec 16, s.port.receiver = .inFrame got → got <+: leBytes 2 length.toNat → 1024 < length.toNat →
      exec (.requestLengthDiscard length) s = .next discarded) ∧
    (∀ expiry, s.port.receiver = .inFrame got → s.port.gap = some expiry →
      exec .requestGapExpiry s = .next (if reached expiry s.clock then discarded else s)) ∧
    (∀ byte, s.port.receiver = .hunting →
      exec (.requestSyncReceived byte) s =
        .next (if byte = 0xC3 then
          { s with port := { s.port with receiver := .inFrame [], gap := some (expiryAfter s.clock 50000) } } else s)) ∧
    (∀ byte, s.port.receiver = .inFrame got →
      (got.length = 0 ∨ (∃ l0, got = [l0] ∧ (field 16 [l0, byte]).toNat ≤ 1024) ∨
        (∃ l0 l1 rest, got = l0 :: l1 :: rest ∧ rest.length + 1 < 2 + (field 16 [l0, l1]).toNat + 2)) →
      exec (.requestSyncReceived byte) s =
        .next { s with port :=
          { s.port with receiver := .inFrame (got ++ [byte]), gap := some (expiryAfter s.clock 50000) } })

/-- R177, R178: the delivery of the oldest reply, a detach and an attach. -/
def Obligations.DeliveryDetachAndAttach : Prop :=
  (∀ (s : State) (e : Entry) (rest : List Entry) (frame : List Byte), s.port.attached = true →
    s.port.buffer = e :: rest → e.phase = .replying frame →
    exec .replyDelivered s = .next { s with port := { s.port with buffer := rest } }) ∧
  (∀ (s : State) (replied waiting : List Entry), s.port.attached = true →
    (∀ x ∈ replied, ∃ frame, x.phase = .replying frame) → (∀ x ∈ waiting, x.phase = .waiting) →
    (s.port.buffer = replied ++ waiting →
      exec .linkDetach s = .next { s with port :=
        { s.port with attached := false, receiver := .disabled, gap := none, buffer := [] } }) ∧
    (∀ e discard, e.phase = .inHand discard → s.port.buffer = replied ++ e :: waiting →
      exec .linkDetach s = .next { s with port :=
        { s.port with attached := false, receiver := .disabled, gap := none,
                      buffer := [{ e with phase := .inHand true }] } })) ∧
  (∀ s : State, s.port.attached = false →
    exec .linkAttach s = .next { s with port := { s.port with attached := true, receiver := .hunting, gap := none } })

/-! ### Requests that only read -/

/-- R157, at every moment after the start-up (R160): a request taken before it has been carried out (R175), and
IDENTIFY changes nothing of what that one left. -/
def Obligations.IdentifyReturnsParametersZeroToThree : Prop :=
  ∀ s : State, s.startup = none → ∃ t, exec .identify s = .next t ∧
    t.repliedAs (s.before .identify) .ok
      (put 4 (s.param 0) ++ put 4 (s.param 1) ++ put 4 (s.param 2) ++ put 4 (s.param 3)) ∧
    s.param 0 = 0x0F24 ∧ s.param 1 = 1 ∧ s.param 2 = 24 ∧
    ∀ number : Byte, number.toNat ≤ 3 →
      ∃ u, exec (.getParam number) s = .next u ∧
        u.repliedAs (s.before (.getParam number)) .ok (number :: put 4 (s.param number))

/-- R154 to R156: what GET_PARAM, SET_PARAM and READ_CLOCK answer, and what SET_PARAM stores: the clamped value
of parameters 4, 5 and 6, and nothing for any other number. -/
def Obligations.ParametersAndClock : Prop :=
  ∀ (s : State) (number : Byte) (value : BitVec 32), s.portClear →
    (∃ t, exec (.getParam number) s = .next t ∧ t.repliedAs s .ok (number :: put 4 (s.param number))) ∧
    (∃ t, exec .readClock s = .next t ∧ t.repliedAs s .ok (put 6 s.clock)) ∧
    (∃ t u, exec (.setParam number value) s = .next t ∧ t.repliedAs u .ok (number :: put 4 (u.param number)) ∧
      (number = 4 → u = { s with stopFunction := if value = 0 then .hold else .abort }) ∧
      (number = 5 → u = { s with wakeTimeout :=
        if value.toNat < 1000 then 1000 else if 120000 < value.toNat then 120000 else value }) ∧
      (number = 6 → u = { s with classMask := if 255 < value.toNat then 255 else value.setWidth 8 }) ∧
      (number ≠ 4 → number ≠ 5 → number ≠ 6 → u = s)) ∧
    s.param 0 = 0x0F24 ∧ s.param 1 = 1 ∧ s.param 2 = 24 ∧ s.param 3 = Config.stationSerial ∧
    s.param 4 = (if s.stopFunction = .hold then 0 else 1) ∧ s.param 5 = s.wakeTimeout ∧
    (s.param 6).toNat = s.classMask.toNat ∧ (s.param 7).toNat = s.gatherSerial.toNat ∧
    (s.param 8).toNat = s.port.errors.toNat ∧
    (∀ b : BayNo, (s.param 9).getLsbD b.val = (s.bay b).present) ∧ (s.param 9).toNat < 2 ^ 24 ∧
    (∀ b : BayNo, (s.param 10).getLsbD b.val = ((s.bay b).supply.mode != .off)) ∧ (s.param 10).toNat < 2 ^ 24 ∧
    (11 ≤ number.toNat → s.param number = 0)

/-- R16, R181, R183: the 56 bytes of BAY_STATUS, field by field, with the codes of a bay's state and modes; the record
is not changed. -/
def Obligations.BayStatusReportsTheBayRecord : Prop :=
  ∀ (s : State) (bay : Byte), s.portClear →
    (∀ b, bayOf bay = some b → (s.bay b).queueConsistent → (s.bay b).ring.consistent →
      (∀ i, (s.bay b).identity = some i → i.serial.length ≤ 24) →
      ∃ t body, exec (.bayStatus bay) s = .next t ∧ t.repliedAs s .ok body ∧ body.length = 56 ∧
        body[0]? = some bay ∧ body[1]? = some (s.bay b).state.code ∧
        body[2]? = some (flagByte (s.bay b).present) ∧ body[3]? = some (s.bay b).supply.mode.code ∧
        body[4]? = some (s.bay b).supply.saved.code ∧
        numberAt body 5 1 = (if (s.bay b).identity.isSome then 1 else 0) +
          (if (s.bay b).link.tunnelOut.isSome then 2 else 0) + (if (s.bay b).link.tunnelIn.isSome then 4 else 0) ∧
        (∀ i, (s.bay b).identity = some i →
          numberAt body 6 2 = i.version.toNat ∧ numberAt body 8 1 = i.serial.length ∧
          bytesAt body 9 24 = padTo 24 i.serial ∧ numberAt body 33 6 = i.time.toNat) ∧
        ((s.bay b).identity = none → bytesAt body 6 33 = List.replicate 33 0) ∧
        numberAt body 39 2 = (s.bay b).signOns.toNat ∧ numberAt body 41 1 = (s.bay b).link.lineRate.val ∧
        body[42]? = some (s.bay b).link.nextTag ∧ numberAt body 43 2 = (s.bay b).link.linkErrors.toNat ∧
        numberAt body 45 2 = (s.bay b).link.stale.toNat ∧ numberAt body 47 2 = (s.bay b).link.tunnelDrops.toNat ∧
        numberAt body 49 2 = (s.bay b).supply.trips.toNat ∧ numberAt body 51 2 = (s.bay b).supply.sags.toNat ∧
        numberAt body 53 1 = (s.bay b).queue.length ∧ numberAt body 54 2 = (s.bay b).ring.occupancy) ∧
    (23 < bay.toNat → ∃ t, exec (.bayStatus bay) s = .next t ∧ t.repliedAs s .badParam []) ∧
    [BayState.vacant, .unpowered, .cycling, .waking, .ready, .asking, .benched, .dark, .faulted].map BayState.code =
      [0, 1, 2, 3, 4, 5, 6, 7, 8] ∧
    [SupplyMode.off, .on .limited, .on .full].map SupplyMode.code = [0, 1, 2] ∧
    [OnMode.limited, .full].map OnMode.code = [1, 2]

/-- R82, R86, R87, R181, R183: GATHER_STATUS and GATHER_SLOT find a gather by index and serial; they answer with the
summary of 60 bytes and with the slot detail of 42 bytes and the payload, every field, and change nothing. An absent
field is carried as 0 and its presence bit is clear; the codes and the presence byte of a slot are laid out. -/
def Obligations.GatherReadsReportTheGather : Prop :=
  ∀ (s : State) (index bay : Byte) (serial : BitVec 16), s.portClear →
    (15 < index.toNat → ∃ t, exec (.gatherStatus index serial) s = .next t ∧ t.repliedAs s .badParam []) ∧
    (15 < index.toNat ∨ 23 < bay.toNat →
      ∃ t, exec (.gatherSlot index serial bay) s = .next t ∧ t.repliedAs s .badParam []) ∧
    (∀ i, gatherOf index = some i → ((s.gather i).state = .free ∨ (s.gather i).serial ≠ serial) →
      (∃ t, exec (.gatherStatus index serial) s = .next t ∧ t.repliedAs s .notFound []) ∧
      (bay.toNat ≤ 23 → ∃ t, exec (.gatherSlot index serial bay) s = .next t ∧ t.repliedAs s .notFound [])) ∧
    (∀ i, gatherOf index = some i → (s.gather i).state ≠ .free → (s.gather i).serial = serial →
      (s.gather i).summaryConsistent →
      ∃ t body, exec (.gatherStatus index serial) s = .next t ∧ t.repliedAs s .ok body ∧ body.length = 60 ∧
        body[0]? = some index ∧ numberAt body 1 2 = serial.toNat ∧ body[3]? = some (s.gather i).state.code ∧
        numberAt body 4 1 = (if (s.gather i).cancelled then 1 else 0) + (if (s.gather i).aborted then 2 else 0) ∧
        numberAt body 5 3 = (s.gather i).bays.toNat ∧
        numberAt body 8 2 = (s.gather i).command.toNat ∧ numberAt body 10 1 = (s.gather i).profile.val ∧
        body[11]? = some (s.gather i).failMask ∧ numberAt body 12 2 = (s.gather i).timeoutMs.toNat ∧
        numberAt body 14 1 = (if (s.gather i).measure then 1 else 0) + (if (s.gather i).benchOnFail then 2 else 0) +
          (if (s.gather i).expectRestart then 4 else 0) ∧
        numberAt body 15 6 = (s.gather i).armTime.toNat ∧
        numberAt body 21 1 = (s.gather i).summary.endings.answered ∧
        numberAt body 22 1 = (s.gather i).summary.endings.timedOut ∧
        numberAt body 23 1 = (s.gather i).summary.endings.lost ∧
        numberAt body 24 1 = (s.gather i).summary.endings.unreached ∧
        numberAt body 25 1 = (s.gather i).summary.endings.skipped ∧
        numberAt body 26 1 = (s.gather i).summary.endings.cancelled ∧
        numberAt body 27 1 = (s.gather i).summary.queued ∧ numberAt body 28 1 = (s.gather i).summary.sent ∧
        numberAt body 29 3 = (s.gather i).summary.passSet.toNat ∧
        numberAt body 32 1 = (s.gather i).summary.passCount ∧
        numberAt body 33 3 = (s.gather i).summary.failSet.toNat ∧
        numberAt body 36 1 = (s.gather i).summary.failCount ∧
        numberAt body 37 1 = (if (s.gather i).summary.lowest.isSome then 1 else 0) +
          (if (s.gather i).summary.highest.isSome then 2 else 0) + (if (s.gather i).firstSend.isSome then 4 else 0) +
          (if (s.gather i).lastFinal.isSome then 8 else 0) ∧
        ((s.gather i).summary.lowest = none → bytesAt body 38 5 = [0, 0, 0, 0, 0]) ∧
        ((s.gather i).summary.highest = none → bytesAt body 43 5 = [0, 0, 0, 0, 0]) ∧
        ((s.gather i).firstSend = none → numberAt body 48 6 = 0) ∧
        ((s.gather i).lastFinal = none → numberAt body 54 6 = 0) ∧
        (∀ x, (s.gather i).summary.lowest = some x →
          numberAt body 38 4 = x.value.toNat ∧ numberAt body 42 1 = x.bay.val) ∧
        (∀ x, (s.gather i).summary.highest = some x →
          numberAt body 43 4 = x.value.toNat ∧ numberAt body 47 1 = x.bay.val) ∧
        (∀ x, (s.gather i).firstSend = some x → numberAt body 48 6 = x.toNat) ∧
        (∀ x, (s.gather i).lastFinal = some x → numberAt body 54 6 = x.toNat)) ∧
    (∀ i b, gatherOf index = some i → bayOf bay = some b → (s.gather i).state ≠ .free → (s.gather i).serial = serial →
      ((s.gather i).slot b).payload.length ≤ 48 →
      ∃ t body, exec (.gatherSlot index serial bay) s = .next t ∧ t.repliedAs s .ok body ∧
        body.length = 42 + ((s.gather i).slot b).payload.length ∧
        body[0]? = some index ∧ numberAt body 1 2 = serial.toNat ∧ body[3]? = some bay ∧
        body[4]? = some ((s.gather i).slot b).stage.code ∧ body[5]? = some (endingCode ((s.gather i).slot b).ending) ∧
        body[6]? = some ((s.gather i).slot b).verdict.code ∧ body[7]? = some ((s.gather i).slot b).indicators ∧
        body[8]? = some ((s.gather i).slot b).presence ∧ body[9]? = some (((s.gather i).slot b).tag.getD 0) ∧
        (∀ x, ((s.gather i).slot b).sendTime = some x → numberAt body 10 6 = x.toNat) ∧
        (((s.gather i).slot b).sendTime = none → numberAt body 10 6 = 0) ∧
        (∀ x, ((s.gather i).slot b).answerTime = some x → numberAt body 16 6 = x.toNat) ∧
        (((s.gather i).slot b).answerTime = none → numberAt body 16 6 = 0) ∧
        body[22]? = some (((s.gather i).slot b).status.getD 0) ∧
        (∀ x, ((s.gather i).slot b).raw = some x → numberAt body 23 4 = x.toNat) ∧
        (((s.gather i).slot b).raw = none → numberAt body 23 4 = 0) ∧
        (∀ x, ((s.gather i).slot b).scaled = some x → numberAt body 27 4 = x.toNat) ∧
        (((s.gather i).slot b).scaled = none → numberAt body 27 4 = 0) ∧
        (∀ x, ((s.gather i).slot b).stats = some x →
          numberAt body 31 2 = x.n % 65536 ∧ numberAt body 33 2 = x.mean % 65536 ∧ numberAt body 35 2 = x.rms % 65536 ∧
          numberAt body 37 2 = x.peak % 65536 ∧ numberAt body 39 2 = x.min % 65536) ∧
        (((s.gather i).slot b).stats = none → numberAt body 31 10 = 0) ∧
        numberAt body 41 1 = ((s.gather i).slot b).payload.length ∧
        bytesAt body 42 48 = ((s.gather i).slot b).payload) ∧
    (∀ x : Slot, x.presence.toNat =
      (if x.sendTime.isSome then 1 else 0) + (if x.answerTime.isSome then 2 else 0) +
      (if x.status.isSome then 4 else 0) + (if x.raw.isSome then 8 else 0) + (if x.scaled.isSome then 16 else 0) +
      (if x.stats.isSome then 32 else 0) +
      (if x.stats.any (·.sat) then 64 else 0) + (if x.stats.any (·.clamp) then 128 else 0)) ∧
    [GatherState.opened, .done].map GatherState.code = [1, 2] ∧
    [Stage.outside, .queued, .sent, .final].map Stage.code = [0, 1, 2, 3] ∧
    [none, some Ending.answered, some .timedOut, some .lost, some .unreached, some .skipped, some .cancelled].map
      endingCode = [0, 1, 2, 3, 4, 5, 6] ∧
    [Verdict.none, .pass, .fail].map Verdict.code = [0, 1, 2]

/-- R96, R139, R181, R183: READ_PROFILE and RING_STATUS report a profile and a ring, field by field, an absent field as
0, and change nothing. -/
def Obligations.ProfileAndRingReads : Prop :=
  ∀ (s : State) (profile bay : Byte), s.portClear →
    (31 < profile.toNat → ∃ t, exec (.readProfile profile) s = .next t ∧ t.repliedAs s .badParam []) ∧
    (∀ p, profileOf profile = some p → (s.profile p).defined = false →
      ∃ t, exec (.readProfile profile) s = .next t ∧ t.repliedAs s .notFound []) ∧
    (∀ p, profileOf profile = some p → (s.profile p).defined = true → (s.profile p).inUse ≤ 16 →
      ∃ t body, exec (.readProfile profile) s = .next t ∧ t.repliedAs s .ok body ∧ body.length = 40 ∧
        body[0]? = some profile ∧ body[1]? = some (s.profile p).mode.code ∧
        numberAt body 2 2 = (s.profile p).m.toNat ∧ numberAt body 4 2 = (s.profile p).d.toNat ∧
        numberAt body 6 4 = (s.profile p).b.toNat ∧ numberAt body 10 4 = (s.profile p).low.toNat ∧
        numberAt body 14 4 = (s.profile p).high.toNat ∧ numberAt body 18 2 = (s.profile p).latencyMs.toNat ∧
        numberAt body 20 2 = (s.profile p).currentMa.toNat ∧ numberAt body 22 1 = (s.profile p).inUse ∧
        numberAt body 23 4 = (s.profile p).evaluated.toNat ∧
        numberAt body 27 1 = (if (s.profile p).minimum.isSome then 1 else 0) +
          (if (s.profile p).maximum.isSome then 2 else 0) ∧
        (∀ x, (s.profile p).minimum = some x → numberAt body 28 4 = x.toNat) ∧
        ((s.profile p).minimum = none → numberAt body 28 4 = 0) ∧
        (∀ x, (s.profile p).maximum = some x → numberAt body 32 4 = x.toNat) ∧
        ((s.profile p).maximum = none → numberAt body 32 4 = 0) ∧
        numberAt body 36 4 = (s.profile p).fails.toNat) ∧
    (23 < bay.toNat → ∃ t, exec (.ringStatus bay) s = .next t ∧ t.repliedAs s .badParam []) ∧
    (∀ b, bayOf bay = some b → (s.bay b).ring.consistent →
      ∃ t body, exec (.ringStatus bay) s = .next t ∧ t.repliedAs s .ok body ∧ body.length = 23 ∧
        body[0]? = some bay ∧ numberAt body 1 2 = (s.bay b).ring.base ∧ numberAt body 3 2 = (s.bay b).ring.length ∧
        body[5]? = some (s.bay b).ring.mode.code ∧ numberAt body 6 2 = (s.bay b).ring.occupancy ∧
        numberAt body 8 2 = (s.bay b).ring.oldest ∧
        body[10]? = some (flagByte (0 < (s.bay b).ring.occupancy)) ∧
        (0 < (s.bay b).ring.occupancy → bytesAt body 11 4 = bytesAt (s.recordAt b 0) 1 4) ∧
        ((s.bay b).ring.occupancy = 0 → numberAt body 11 4 = 0) ∧
        numberAt body 15 2 = (s.bay b).ring.drops.toNat ∧ numberAt body 17 2 = (s.bay b).ring.overwrites.toNat ∧
        numberAt body 19 4 = (s.bay b).ring.nextSeq.toNat) ∧
    [ValueMode.statusOnly, .numeric].map ValueMode.code = [0, 1] ∧ [RingMode.stop, .wrap].map RingMode.code = [0, 1]

/-- R126: the bay, the gain and the offset (as 16-bit fields) and the lock flag, in every state of the part after the
start-up (R160), with the requests taken before it carried out (R175). -/
def Obligations.ReadCalReportsPairAndLock : Prop :=
  ∀ (s₀ : State) (bay : Byte), s₀.startup = none →
    let s := s₀.before (.readCal bay)
    (23 < bay.toNat → ∃ t, exec (.readCal bay) s₀ = .next t ∧ t.repliedAs s .badParam []) ∧
    (∀ b, bayOf bay = some b →
      ∃ t body, exec (.readCal bay) s₀ = .next t ∧ t.repliedAs s .ok body ∧ body.length = 6 ∧
        body[0]? = some bay ∧ numberAt body 1 2 = (s.bay b).cal.gain.toNat ∧
        (field 16 (bytesAt body 3 2)).toInt = (s.bay b).cal.offset.toInt ∧
        body[5]? = some (if s.calLock then 1 else 0))

/-! ### Station control (chapter 8) -/

/-- R147 to R150 in the HOLD function: HOLD and RESUME, and the two changes of the stop line. RESUME begins the
frame of each IDLE transmitter with a sender waiting, the tunnel frame first. -/
def Obligations.RunStateAndStopLine : Prop :=
  ∀ s : State, s.requestInHand = none →
    (s.startup = none → ∃ t, exec .hold s = .next t ∧ t.repliedAs { s with run := .held } .ok []) ∧
    (s.startup = none → s.stopLine = true → ∃ t, exec .resume s = .next t ∧ t.repliedAs s .stopAsserted []) ∧
    (s.startup = none → s.stopLine = false → s.run = .run → ∃ t, exec .resume s = .next t ∧ t.repliedAs s .ok []) ∧
    (s.startup = none → s.stopLine = false → s.run = .held →
      ∃ t, exec .resume s = .next t ∧ t.repliedAs { s with run := .run, bays := t.bays } .ok [] ∧
        ∀ b : BayNo,
          ((s.bay b).link.transmitter ≠ .idle → t.bay b = s.bay b) ∧
          (∀ block, (s.bay b).link.transmitter = .idle → (s.bay b).tunnelWaiting →
            (s.bay b).link.tunnelOut = some block →
            t.bay b = { s.bay b with link :=
              { (s.bay b).link with transmitter := .sendingTunnel, frameOut := tunnelFrame block } }) ∧
          (∀ ask, (s.bay b).link.transmitter = .idle → (s.bay b).tunnelWaiting = false →
            (s.bay b).link.pendingAsk = some ask →
            t.bay b = { s.bay b with link :=
              { (s.bay b).link with transmitter := .sendingAsk, frameOut := askFrame ask, pendingAsk := none } }) ∧
          ((s.bay b).link.transmitter = .idle → (s.bay b).tunnelWaiting = false → (s.bay b).link.pendingAsk = none →
            t.bay b = s.bay b)) ∧
    (s.stopLine = false → s.stopFunction = .hold →
      exec (.stopLineChange true) s = .next { s with
        stopLine := true, run := .held,
        notices := if s.classMask.getLsbD 0 then { s.notices with stopLine := true } else s.notices }) ∧
    (s.stopLine = true →
      exec (.stopLineChange false) s = .next { s with
        stopLine := false,
        notices := if s.classMask.getLsbD 0 then { s.notices with stopLine := true } else s.notices })

/-- R149, R151, R152, R81: an assertion of the stop line in the ABORT function raises STOP_LINE, takes every bay but a
FAULTED one out of service, ends SENT slots LOST and QUEUED slots CANCELLED, completes every OPEN gather with its
notice, and writes for each bay the LOST record alone. A conversion in progress runs on, tied to no window (R114,
R117). -/
def Obligations.AnAbortTakesEveryBayOutOfService : Prop :=
  ∀ s : State, s.requestInHand = none → s.tableAgrees → s.stopLine = false → s.stopFunction = .abort →
    ∃ t, exec (.stopLineChange true) s = .next t ∧ t.run = .held ∧ t.stopLine = true ∧ t.raisedFrom s .stopLine ∧
      (∀ b : BayNo, (s.bay b).state = .faulted → t.bay b = s.bay b) ∧
      (∀ b : BayNo, (s.bay b).state ≠ .faulted →
        (t.bay b).state = (if (s.bay b).present then .unpowered else .vacant) ∧
        (t.bay b).supply.switchedOff ∧ (t.bay b).supply.cycleTimer = none ∧
        (t.bay b).supply.saved = (if (s.bay b).state = .cycling then .full else (s.bay b).supply.saved) ∧
        (t.bay b).supply.trips = (s.bay b).supply.trips ∧ (t.bay b).supply.sags = (s.bay b).supply.sags ∧
        (t.bay b).link.switchedOff ∧ (t.bay b).link.tunnelOut = none ∧
        (t.bay b).link.tunnelIn = (s.bay b).link.tunnelIn ∧ (t.bay b).link.nextTag = (s.bay b).link.nextTag ∧
        (t.bay b).link.ratesAndCountsKept (s.bay b).link ∧ (t.bay b).queue = [] ∧ (t.bay b).window = .closed ∧
        (t.bay b).seatKept (s.bay b) ∧ (t.bay b).identityKept (s.bay b) ∧ (t.bay b).windowOfRingKept (s.bay b) ∧
        (t.bay b).wroteRecords (s.bay b) (s.bay b).asks ∧
        (t.bay b).ring = ((s.handOver b (s.askRecord t b)).bay b).ring ∧
        t.notices.ringFull.get b = (s.handOver b (s.askRecord t b)).notices.ringFull.get b ∧
        (s.ringsConsistent → Memory.wf s.cells → ∀ address : Nat, s.inWindow b address →
          readCell t.cells address = readCell (s.handOver b (s.askRecord t b)).cells address)) ∧
      (∀ b : BayNo, s.slotsMeet t b { sent := some .lost, queued := some .cancelled }) ∧
      (s.converter = .idle → t.converter = .idle) ∧
      (∀ granted ends tied, s.converter = .converting granted ends tied →
        t.converter = .converting granted ends false) ∧
      (∀ i : GatherNo, (s.gather i).state = .opened →
        (t.gather i).state = .done ∧ (t.gather i).aborted = true ∧ t.raisedFrom s (.gatherDone i)) ∧
      (∀ i : GatherNo, (s.gather i).state ≠ .opened → t.gather i = s.gather i)

/-- R158, R159 with R18, R40, R57, R89, R111, R129, R145, R169: everything STATION_RESET sets and everything it
keeps. That every byte of the Result Store then reads 0 is the model's choice (assumption 11), as is the count of rail
codes, which is the model's own (assumption 14). -/
def Obligations.StationResetSetsAndKeeps : Prop :=
  ∀ s : State, s.portClear → ∃ t, exec .stationReset s = .next t ∧ t.repliesWith .ok [] ∧
    t = { State.reset with
      stopLine := s.stopLine, clock := s.clock, startup := s.startup, calLock := s.calLock, pending := s.pending,
      railReads := s.railReads, port := t.port, bays := t.bays, lastReply := t.lastReply } ∧
    t.port.errors = s.port.errors ∧ t.port.attached = s.port.attached ∧
    ∀ b : BayNo, t.bay b = { Bay.reset b with
      state := if (s.bay b).state = .faulted then .faulted else if (s.bay b).present then .unpowered else .vacant,
      contact := (s.bay b).contact, present := (s.bay b).present, debounce := (s.bay b).debounce,
      cal := (s.bay b).cal }

/-- R160, R17, R124, R170: power-on, with the levels of the inputs as they stand and the calibration store as last
stored, and the end of the start-up 20 ms later. The model's choices in it: that POWER_ON carries the levels
(assumption 7), that a bay is VACANT until the start-up ends (assumption 9), that every byte of the Result Store then
reads 0 (assumption 11), that the waiting commands stay (assumption 20), and the count of rail codes (assumption 14). -/
def Obligations.PowerOnAndStartUp : Prop :=
  (∀ (s : State) (stop attached : Bool) (contacts : BaySet),
    ∃ t, exec (.powerOn stop contacts attached) s = .next t ∧
      t = { State.reset with
        stopLine := stop, calLock := s.calLock, pending := s.pending, railReads := s.railReads, bays := t.bays,
        port := { Port.reset with attached := attached, receiver := if attached then .hunting else .disabled } } ∧
      ∀ b : BayNo, t.bay b = { Bay.reset b with contact := contacts.getLsbD b.val, cal := (s.bay b).cal }) ∧
  (∀ (s : State) (expiry : Time), s.startup = some expiry → reached expiry s.clock →
    ∃ t, exec .startupDebounceEnd s = .next t ∧
      t = { s with startup := none, bays := t.bays, port := t.port } ∧
      t.port = { s.port with buffer := takeWaiting s.replyFlags s.port.buffer } ∧
      ∀ b : BayNo, t.bay b = { s.bay b with
        present := (s.bay b).contact, debounce := none,
        state := if (s.bay b).contact then .unpowered else .vacant })

/-! ### Bay supply (chapter 3) -/

/-- R43, R44, R46, R42: the refusals of SET_SUPPLY in their order, and its effect when it names LIMITED or FULL, or
OFF in UNPOWERED. -/
def Obligations.SetSupplyTurnsOnOrChangesMode : Prop :=
  ∀ (s : State) (bay mode : Byte), s.portClear →
    (23 < bay.toNat ∨ 2 < mode.toNat → ∃ t, exec (.setSupply bay mode) s = .next t ∧ t.repliedAs s .badParam []) ∧
    (∀ b m, bayOf bay = some b → supplyModeOf mode = some m →
      ((s.bay b).state = .vacant ∨ (s.bay b).state = .faulted) →
      ∃ t, exec (.setSupply bay mode) s = .next t ∧ t.repliedAs s .wrongState []) ∧
    (∀ b, bayOf bay = some b → mode = 0 → (s.bay b).state = .unpowered →
      ∃ t, exec (.setSupply bay mode) s = .next t ∧ t.repliedAs s .ok [1, (s.bay b).supply.mode.code]) ∧
    (∀ b m, bayOf bay = some b → supplyModeOf mode = some (.on m) → (s.bay b).state = .unpowered →
      ∃ t, exec (.setSupply bay mode) s = .next t ∧ t.repliedAs (s.setBay b { s.bay b with
        state := .waking
        supply := { (s.bay b).supply with
          mode := .on m, comparator := .watching (if m = .limited then 600 else 4000), detector := .low }
        link := { (s.bay b).link with
          receiver := .hunting, gap := none, transmitter := .idle, frameOut := [],
          wakeTimer := some (s.clock + BitVec.ofNat 48 (s.wakeTimeout.toNat * 1000)) } }) .ok [3, mode]) ∧
    (∀ b m, bayOf bay = some b → supplyModeOf mode = some (.on m) → (s.bay b).state = .cycling →
      ∃ t, exec (.setSupply bay mode) s = .next t ∧ t.repliedAs (s.setBay b { s.bay b with
        supply := { (s.bay b).supply with saved := m } }) .ok [2, (s.bay b).supply.mode.code]) ∧
    (∀ b m, bayOf bay = some b → supplyModeOf mode = some (.on m) → (s.bay b).state.supplyOff = false →
      ∃ t, exec (.setSupply bay mode) s = .next t ∧ t.repliedAs (s.setBay b { s.bay b with
        supply := { (s.bay b).supply with
          mode := .on m, comparator := .watching (if m = .limited then 600 else 4000) } })
        .ok [(s.bay b).state.code, mode])

/-- R45, R46, R64, R75: SET_SUPPLY OFF in a powered state and in CYCLING, with the LOST record before the UNREACHED
records in queue order. -/
def Obligations.SetSupplyOffTakesTheBayToUnpowered : Prop :=
  ∀ (s : State) (bay : Byte) (b : BayNo), s.portClear → s.tableAgrees → bayOf bay = some b →
    ((s.bay b).state.supplyOff = false →
      ∃ t, exec (.setSupply bay 0) s = .next t ∧ t.repliesWith .ok [1, 0] ∧
        (t.bay b).state = .unpowered ∧
        (t.bay b).supply = { (s.bay b).supply with mode := .off, comparator := .idle, detector := .idle } ∧
        (t.bay b).link.switchedOff ∧ (t.bay b).link.tunnelsKept (s.bay b).link ∧
        (t.bay b).link.nextTag = (s.bay b).link.nextTag ∧ (t.bay b).link.ratesAndCountsKept (s.bay b).link ∧
        (t.bay b).queue = [] ∧ (t.bay b).window = .closed ∧ (t.bay b).seatKept (s.bay b) ∧
        (t.bay b).identityKept (s.bay b) ∧ (t.bay b).windowOfRingKept (s.bay b) ∧
        (t.bay b).wroteRecords (s.bay b) ((s.bay b).asks + (s.bay b).queue.length) ∧
        s.recordsAre t b (s.askRecord t b ++ s.queueRecords t b) ∧ t.converter.tieEnded s.converter b ∧
        s.slotsMeet t b { sent := some .lost, queued := some .unreached }) ∧
    ((s.bay b).state = .cycling →
      ∃ t, exec (.setSupply bay 0) s = .next t ∧ t.repliesWith .ok [1, 0] ∧
        (t.bay b).state = .unpowered ∧
        (t.bay b).supply = { (s.bay b).supply with saved := .full, cycleTimer := none } ∧
        (t.bay b).link = (s.bay b).link ∧ (t.bay b).queue = [] ∧ (t.bay b).seatKept (s.bay b) ∧
        (t.bay b).identityKept (s.bay b) ∧ (t.bay b).windowOfRingKept (s.bay b) ∧
        (t.bay b).wroteRecords (s.bay b) (s.bay b).queue.length ∧ s.recordsAre t b (s.queueRecords t b) ∧
        t.converter = s.converter ∧ s.slotsMeet t b { sent := none, queued := some .unreached })

/-- R52, R53, R56, R132: the refusals of CYCLE_BAY in their order, and the cycle it begins: supply off, cycle timer
started, QUEUED slots kept, the CYCLE_OFF record before the LOST record. -/
def Obligations.CycleBayBeginsAPowerCycle : Prop :=
  ∀ (s : State) (bay : Byte) (offMs : BitVec 16) (restore : Option Byte), s.portClear →
    (23 < bay.toNat ∨ (∃ code, restore = some code ∧ code ≠ 1 ∧ code ≠ 2) →
      ∃ t, exec (.cycleBay bay offMs restore) s = .next t ∧ t.repliedAs s .badParam []) ∧
    (∀ b, bayOf bay = some b → restore ∈ [none, some 1, some 2] → (s.bay b).state = .cycling →
      ∃ t, exec (.cycleBay bay offMs restore) s = .next t ∧ t.repliedAs s .busy []) ∧
    (∀ b, bayOf bay = some b → restore ∈ [none, some 1, some 2] →
      (s.bay b).state ∈ [.vacant, .unpowered, .benched, .faulted] →
      ∃ t, exec (.cycleBay bay offMs restore) s = .next t ∧ t.repliedAs s .wrongState []) ∧
    (∀ b m, s.tableAgrees → bayOf bay = some b → restore ∈ [none, some 1, some 2] →
      (s.bay b).state ∈ [.waking, .ready, .asking, .dark] → (s.bay b).supply.mode = .on m →
      let off := if offMs.toNat < 100 then 100 else if 10000 < offMs.toNat then 10000 else offMs.toNat
      let saved := if restore = some 1 then .limited else if restore = some 2 then .full else m
      ∃ t, exec (.cycleBay bay offMs restore) s = .next t ∧
        t.repliesWith .ok (leBytes 2 off ++ [OnMode.code saved]) ∧ (t.bay b).state = .cycling ∧
        (t.bay b).supply = { (s.bay b).supply with
          mode := .off, saved := saved, comparator := .idle, detector := .idle,
          cycleTimer := some (s.clock + BitVec.ofNat 48 (off * 1000)) } ∧
        (t.bay b).link.switchedOff ∧ (t.bay b).link.tunnelsKept (s.bay b).link ∧
        (t.bay b).link.nextTag = (s.bay b).link.nextTag ∧ (t.bay b).link.ratesAndCountsKept (s.bay b).link ∧
        (t.bay b).queue = (s.bay b).queue ∧ (t.bay b).window = .closed ∧ (t.bay b).seatKept (s.bay b) ∧
        (t.bay b).identityKept (s.bay b) ∧ (t.bay b).windowOfRingKept (s.bay b) ∧
        (t.bay b).wroteRecords (s.bay b) (1 + (s.bay b).asks) ∧
        ((s.bay b).state ≠ .asking → t.cells = s.cellsAfter b .supply [3, m.code]) ∧
        s.recordsAre t b ((.supply, [3, m.code]) :: s.askRecord t b) ∧ t.converter.tieEnded s.converter b ∧
        s.slotsMeet t b { sent := some .lost, queued := none })

/-- R54, R56: at the end of the off-time the supply goes on in the saved mode, a CYCLE_ON record is written, and the bay
wakes; of everything else, only the bay's RING_FULL place can change, when the ring loses the record. -/
def Obligations.TheEndOfACycleWakesTheBay : Prop :=
  ∀ (s : State) (b : BayNo) (expiry : Time), s.requestInHand = none → (s.bay b).state = .cycling →
    (s.bay b).supply.cycleTimer = some expiry → reached expiry s.clock →
    ∃ t, exec (.cycleTimerExpiry b) s = .next t ∧
      t = { s with bays := t.bays, cells := t.cells, notices := t.notices } ∧
      t.bay b = { s.bay b with
        state := .waking
        supply := { (s.bay b).supply with
          mode := .on (s.bay b).supply.saved, cycleTimer := none, detector := .low,
          comparator := .watching (if (s.bay b).supply.saved = .limited then 600 else 4000) }
        link := { (s.bay b).link with
          receiver := .hunting, gap := none, transmitter := .idle, frameOut := [],
          wakeTimer := some (s.clock + BitVec.ofNat 48 (s.wakeTimeout.toNat * 1000)) }
        ring := (s.bay b).ring.afterWrite } ∧
      t.cells = s.cellsAfter b .supply [4, (s.bay b).supply.saved.code] ∧
      (∀ d, d ≠ b → t.bay d = s.bay d) ∧
      t.notices = { s.notices with ringFull := s.notices.ringFull.set b (t.notices.ringFull.get b) } ∧
      t.notices.ringFull.get b =
        (if (s.bay b).ring.loses && (s.bay b).ring.lossless then (s.notices.ringFull.get b).rise
         else s.notices.ringFull.get b)

/-- R47, R56, R132: a trip, in each of the five powered states and in both run states, with the TRIP record first, then
the LOST record, then the UNREACHED records in queue order. -/
def Obligations.ATripFaultsTheBay : Prop :=
  ∀ (s : State) (b : BayNo) (m : OnMode) (milliamps : Nat), s.requestInHand = none →
    s.tableAgrees → (s.bay b).supply.mode = .on m →
    (if m = .limited then 600 else 4000) < milliamps →
    ∃ t, exec (.trip b milliamps) s = .next t ∧ (t.bay b).state = .faulted ∧
      (t.bay b).supply = { (s.bay b).supply with
        mode := .off, comparator := .idle, detector := .idle, trips := satInc (s.bay b).supply.trips } ∧
      (t.bay b).link.switchedOff ∧ (t.bay b).link.tunnelsKept (s.bay b).link ∧
      (t.bay b).link.nextTag = (s.bay b).link.nextTag ∧ (t.bay b).link.ratesAndCountsKept (s.bay b).link ∧
      (t.bay b).queue = [] ∧ (t.bay b).window = .closed ∧ (t.bay b).seatKept (s.bay b) ∧
      (t.bay b).identityKept (s.bay b) ∧ (t.bay b).windowOfRingKept (s.bay b) ∧
      (t.bay b).wroteRecords (s.bay b) (1 + (s.bay b).asks + (s.bay b).queue.length) ∧
      ((s.bay b).state ≠ .asking → (s.bay b).queue = [] → t.cells = s.cellsAfter b .supply [1, m.code]) ∧
      s.recordsAre t b ((.supply, [1, m.code]) :: s.askRecord t b ++ s.queueRecords t b) ∧
      t.converter.tieEnded s.converter b ∧
      s.slotsMeet t b { sent := some .lost, queued := some .unreached } ∧ t.raisedFrom s (.bayFault b)

/-- R49, R50, R56, R132: a rise of the rail makes a LOW detector CLEAR; a fall under a CLEAR detector is a sag, with
the SAG record before the LOST record, and under any other detector is none. -/
def Obligations.ASagWakesTheBayAgain : Prop :=
  ∀ (s : State) (b : BayNo), s.requestInHand = none →
    ((s.bay b).supply.detector = .low →
      exec (.railRiseClear b) s =
        .next (s.setBay b { s.bay b with supply := { (s.bay b).supply with detector := .clear } })) ∧
    ((s.bay b).supply.detector ≠ .clear → exec (.sag b) s = .next s) ∧
    (∀ m, s.tableAgrees → (s.bay b).supply.mode = .on m → (s.bay b).supply.detector = .clear →
      ∃ t, exec (.sag b) s = .next t ∧ (t.bay b).state = .waking ∧
        (t.bay b).supply = { (s.bay b).supply with detector := .low, sags := satInc (s.bay b).supply.sags } ∧
        (t.bay b).link.receiver = .hunting ∧ (t.bay b).link.gap = none ∧ (t.bay b).link.transmitter = .idle ∧
        (t.bay b).link.frameOut = [] ∧ (t.bay b).link.quiet ∧
        (t.bay b).link.wakeTimer = some (s.clock + BitVec.ofNat 48 (s.wakeTimeout.toNat * 1000)) ∧
        (t.bay b).link.tunnelsKept (s.bay b).link ∧ (t.bay b).link.nextTag = (s.bay b).link.nextTag ∧
        (t.bay b).link.ratesAndCountsKept (s.bay b).link ∧
        (t.bay b).queue = (s.bay b).queue ∧ (t.bay b).window = .closed ∧ (t.bay b).seatKept (s.bay b) ∧
        (t.bay b).identityKept (s.bay b) ∧ (t.bay b).windowOfRingKept (s.bay b) ∧
        (t.bay b).wroteRecords (s.bay b) (1 + (s.bay b).asks) ∧
        ((s.bay b).state ≠ .asking → t.cells = s.cellsAfter b .supply [2, m.code]) ∧
        s.recordsAre t b ((.supply, [2, m.code]) :: s.askRecord t b) ∧ t.converter.tieEnded s.converter b ∧
        s.slotsMeet t b { sent := some .lost, queued := none })

/-! ### Bays (chapter 1) -/

/-- R13, R29: RELEASE_BAY in each of the nine states, and for a bay number above 23. A BENCHED bay released in RUN with
its transmitter IDLE begins the waiting tunnel frame, or else a pending ask. -/
def Obligations.ReleaseBayReturnsAWaitingBay : Prop :=
  ∀ (s : State) (bay : Byte), s.portClear →
    (23 < bay.toNat → ∃ t, exec (.releaseBay bay) s = .next t ∧ t.repliedAs s .badParam []) ∧
    (∀ b, bayOf bay = some b → (s.bay b).state ∉ [.benched, .dark, .faulted] →
      ∃ t, exec (.releaseBay bay) s = .next t ∧ t.repliedAs s .wrongState [(s.bay b).state.code]) ∧
    (∀ b, bayOf bay = some b → (s.bay b).state = .benched →
      let released := fun l : Link =>
        ∃ t, exec (.releaseBay bay) s = .next t ∧
          t.repliedAs (s.setBay b { s.bay b with state := .ready, link := l }) .ok [4]
      let begins := s.run = .run ∧ (s.bay b).link.transmitter = .idle
      (∀ block, begins → (s.bay b).link.tunnelOut = some block →
        released { (s.bay b).link with transmitter := .sendingTunnel, frameOut := tunnelFrame block }) ∧
      (∀ ask, begins → (s.bay b).link.tunnelOut = none → (s.bay b).link.pendingAsk = some ask →
        released { (s.bay b).link with
          transmitter := .sendingAsk, frameOut := askFrame ask, pendingAsk := none }) ∧
      (¬begins ∨ (s.bay b).link.tunnelOut = none ∧ (s.bay b).link.pendingAsk = none →
        released (s.bay b).link)) ∧
    (∀ b, bayOf bay = some b → (s.bay b).state = .dark →
      ∃ t, exec (.releaseBay bay) s = .next t ∧ t.repliedAs (s.setBay b { s.bay b with
        state := .waking
        link := { (s.bay b).link with
          wakeTimer := some (s.clock + BitVec.ofNat 48 (s.wakeTimeout.toNat * 1000)) } }) .ok [3]) ∧
    (∀ b, bayOf bay = some b → (s.bay b).state = .faulted →
      ∃ t, exec (.releaseBay bay) s = .next t ∧
        t.repliedAs (s.setBay b { s.bay b with state := .unpowered }) .ok [1])

/-- R14, R15, R168: RESET_BAY in every state: what it clears and what it keeps. -/
def Obligations.ResetBayClearsAndKeeps : Prop :=
  ∀ (s : State) (bay : Byte), s.portClear →
    (23 < bay.toNat → ∃ t, exec (.resetBay bay) s = .next t ∧ t.repliedAs s .badParam []) ∧
    (∀ b, s.tableAgrees → bayOf bay = some b →
      ∃ t, exec (.resetBay bay) s = .next t ∧ t.repliesWith .ok [(t.bay b).state.code] ∧
        (t.bay b).state = (if (s.bay b).present then .unpowered else .vacant) ∧
        (t.bay b).supply = Supply.reset ∧ (t.bay b).link = { Link.reset with lineRate := (s.bay b).link.lineRate } ∧
        (t.bay b).identity = none ∧ (t.bay b).signOns = 0 ∧ (t.bay b).queue = [] ∧ (t.bay b).window = .closed ∧
        (t.bay b).seatKept (s.bay b) ∧ (t.bay b).windowOfRingKept (s.bay b) ∧
        (t.bay b).wroteRecords (s.bay b) (s.bay b).asks ∧ s.recordsAre t b (s.askRecord t b) ∧
        t.converter.tieEnded s.converter b ∧ s.slotsMeet t b { sent := some .lost, queued := some .cancelled } ∧
        t.notices.bayFault.get b = false ∧ t.notices.bayDark.get b = false ∧ t.notices.presence.get b = false ∧
        t.notices.signedOn.get b = false ∧ t.notices.tunnelIn.get b = .inactive)

/-- R3, R4: a change of the contact level away from the debounced presence starts the 20 ms timer afresh and one
back to it stops the timer; when the timer has run out with the contact closed at a bay without a phone, an
arrival is taken. -/
def Obligations.PresenceIsDebounced : Prop :=
  ∀ (s : State) (b : BayNo) (closed : Bool), s.requestInHand = none →
    ((s.bay b).contact ≠ closed → s.startup = none →
      exec (.presenceContactChange b closed) s = .next (s.setBay b { s.bay b with
        contact := closed,
        debounce := if closed = (s.bay b).present then none else some (s.clock + 20000) })) ∧
    ((s.bay b).contact = closed → exec (.presenceContactChange b closed) s = .next s) ∧
    (∀ expiry, (s.bay b).debounce = some expiry → reached expiry s.clock = false →
      exec (.debounceExpiry b) s = .next s) ∧
    (∀ expiry, (s.bay b).debounce = some expiry → reached expiry s.clock → (s.bay b).contact = true →
      (s.bay b).present = false →
      ∃ t, exec (.debounceExpiry b) s = .next t ∧
        t = { s with bays := t.bays, notices := t.notices } ∧
        t.bay b = { s.bay b with debounce := none, present := true, state := .unpowered } ∧
        t.raisedFrom s (.presence b))

/-- R5, R64, R75: a removal, in any state but VACANT, with the LOST record before the UNREACHED records in queue
order. -/
def Obligations.ARemovalClearsTheBay : Prop :=
  ∀ (s : State) (b : BayNo) (expiry : Time), s.requestInHand = none → s.tableAgrees → (s.bay b).debounce = some expiry →
    reached expiry s.clock → (s.bay b).contact = false → (s.bay b).present = true →
    ∃ t, exec (.debounceExpiry b) s = .next t ∧ (t.bay b).state = .vacant ∧ (t.bay b).present = false ∧
      (t.bay b).debounce = none ∧ (t.bay b).contact = false ∧ (t.bay b).cal = (s.bay b).cal ∧
      (t.bay b).identity = none ∧ (t.bay b).signOns = (s.bay b).signOns ∧
      (t.bay b).supply = { (s.bay b).supply with
        mode := .off, comparator := .idle, detector := .idle, cycleTimer := none,
        saved := if (s.bay b).state = .cycling then .full else (s.bay b).supply.saved } ∧
      (t.bay b).link.switchedOff ∧ (t.bay b).link.tunnelOut = none ∧ (t.bay b).link.tunnelIn = none ∧
      (t.bay b).link.nextTag = (s.bay b).link.nextTag ∧ (t.bay b).link.ratesAndCountsKept (s.bay b).link ∧
      (t.bay b).queue = [] ∧ (t.bay b).window = .closed ∧ (t.bay b).windowOfRingKept (s.bay b) ∧
      (t.bay b).wroteRecords (s.bay b) ((s.bay b).asks + (s.bay b).queue.length) ∧
      s.recordsAre t b (s.askRecord t b ++ s.queueRecords t b) ∧ t.converter.tieEnded s.converter b ∧
      s.slotsMeet t b { sent := some .lost, queued := some .unreached } ∧ t.raisedFrom s (.presence b) ∧
      t.notices.tunnelIn.get b = .inactive

/-- R6, R7, R27, R29, R34, R37, R132, R137: an accepted sign-on, by the state of the bay, with the LOST record of an ask
it ends before the SIGN_ON record. A frame in transmission runs to its end; an IDLE transmitter begins the waiting
tunnel frame in RUN. -/
def Obligations.ASignOnReplacesTheIdentity : Prop :=
  ∀ (s : State) (b : BayNo) (f : BayFrame) (a : SignOn), s.requestInHand = none → s.tableAgrees →
    (s.bay b).link.accepts kindSignOn f → readSignOn f.body = some a →
    ∃ t, exec (.signOnAccepted b f) s = .next t ∧
      (t.bay b).state = (if (s.bay b).state = .benched then .benched else .ready) ∧
      (t.bay b).identity = some { serial := a.serial, version := a.version, time := s.clock } ∧
      (t.bay b).signOns = satInc (s.bay b).signOns ∧ (t.bay b).link.nextTag = 1 ∧
      (t.bay b).link.receiver = .hunting ∧ (t.bay b).link.gap = none ∧ (t.bay b).link.wakeTimer = none ∧
      (t.bay b).link.quiet ∧
      (∀ block, s.run = .run → (s.bay b).link.transmitter = .idle → (s.bay b).link.tunnelOut = some block →
        (t.bay b).link.transmitter = .sendingTunnel ∧ (t.bay b).link.frameOut = tunnelFrame block) ∧
      (s.run = .held ∨ (s.bay b).link.transmitter ≠ .idle ∨ (s.bay b).link.tunnelOut = none →
        (t.bay b).link.sendingKept (s.bay b).link) ∧ t.converter.tieEnded s.converter b ∧
      (t.bay b).link.tunnelsKept (s.bay b).link ∧ (t.bay b).link.ratesAndCountsKept (s.bay b).link ∧
      (t.bay b).supply = (s.bay b).supply ∧ (t.bay b).queue = (s.bay b).queue ∧ (t.bay b).window = .closed ∧
      (t.bay b).seatKept (s.bay b) ∧ (t.bay b).windowOfRingKept (s.bay b) ∧
      (t.bay b).wroteRecords (s.bay b) ((s.bay b).asks + 1) ∧
      ((s.bay b).state ≠ .asking → t.cells = s.cellsAfter b .signOn
        (put 2 a.version ++ [BitVec.ofNat 8 a.serial.length] ++ padTo 24 a.serial ++
          [flagByte ((s.bay b).identity.any (fun i => i.serial != a.serial))])) ∧
      s.recordsAre t b (s.askRecord t b ++ [(.signOn,
        put 2 a.version ++ [BitVec.ofNat 8 a.serial.length] ++ padTo 24 a.serial ++
          [flagByte ((s.bay b).identity.any (fun i => i.serial != a.serial))])]) ∧
      s.slotsMeet t b { sent := some .lost, queued := none } ∧ t.raisedFrom s (.signedOn b)

/-- R9, R64, R75: the wake timer of a WAKING bay runs out, with the UNREACHED records in queue order. -/
def Obligations.TheWakeTimerEndsInDark : Prop :=
  ∀ (s : State) (b : BayNo) (expiry : Time), s.requestInHand = none → s.tableAgrees → (s.bay b).state = .waking →
    (s.bay b).link.wakeTimer = some expiry → reached expiry s.clock →
    ∃ t, exec (.wakeTimerExpiry b) s = .next t ∧ (t.bay b).state = .dark ∧
      (t.bay b).link = { (s.bay b).link with wakeTimer := none } ∧ (t.bay b).supply = (s.bay b).supply ∧
      (t.bay b).queue = [] ∧ (t.bay b).window = (s.bay b).window ∧ (t.bay b).seatKept (s.bay b) ∧
      (t.bay b).identityKept (s.bay b) ∧ (t.bay b).windowOfRingKept (s.bay b) ∧
      (t.bay b).wroteRecords (s.bay b) (s.bay b).queue.length ∧ s.recordsAre t b (s.queueRecords t b) ∧
      t.converter = s.converter ∧ s.slotsMeet t b { sent := none, queued := some .unreached } ∧ t.raisedFrom s (.bayDark b)

/-! ### The bay link (chapter 2) -/

/-- R35. -/
def Obligations.SetLineRateOnlyWhileUnpowered : Prop :=
  ∀ (s : State) (bay rate : Byte), s.portClear →
    (23 < bay.toNat ∨ 3 < rate.toNat → ∃ t, exec (.setLineRate bay rate) s = .next t ∧ t.repliedAs s .badParam []) ∧
    (∀ b, bayOf bay = some b → rate.toNat ≤ 3 → (s.bay b).state ∉ [.vacant, .unpowered] →
      ∃ t, exec (.setLineRate bay rate) s = .next t ∧ t.repliedAs s .wrongState []) ∧
    (∀ b (r : Fin 4), bayOf bay = some b → rate.toNat = r.val → (s.bay b).state ∈ [.vacant, .unpowered] →
      ∃ t, exec (.setLineRate bay rate) s = .next t ∧
        t.repliedAs (s.setBay b { s.bay b with link := { (s.bay b).link with lineRate := r } }) .ok [rate])

/-- R36, R37, R29, R22, R182: PUT_TUNNEL's refusals in their order; a block taken fills the slot, and begins at once
when the station is RUN, the transmitter IDLE and the bay READY, ASKING or BENCHED. When a tunnel frame has left, its
slot is empty and a pending ask begins if the station is RUN. The last clause lays out the TUNNEL_OUT frame. -/
def Obligations.TunnelBlocksGoOut : Prop :=
  (∀ (s : State) (bay : Byte) (block : List Byte), s.portClear →
    (23 < bay.toNat → ∃ t, exec (.putTunnel bay block) s = .next t ∧ t.repliedAs s .badParam []) ∧
    (∀ b, bayOf bay = some b → 64 < block.length →
      ∃ t, exec (.putTunnel bay block) s = .next t ∧ t.repliedAs s .badLength []) ∧
    (∀ b, bayOf bay = some b → block.length ≤ 64 → (s.bay b).link.tunnelOut ≠ none →
      ∃ t, exec (.putTunnel bay block) s = .next t ∧ t.repliedAs s .full []) ∧
    (∀ b, bayOf bay = some b → block.length ≤ 64 → (s.bay b).link.tunnelOut = none → (s.bay b).state.supplyOff →
      ∃ t, exec (.putTunnel bay block) s = .next t ∧ t.repliedAs s .wrongState []) ∧
    (∀ b, bayOf bay = some b → block.length ≤ 64 → (s.bay b).link.tunnelOut = none →
      (s.bay b).state ∈ [.ready, .asking, .benched] → s.run = .run → (s.bay b).link.transmitter = .idle →
      ∃ t, exec (.putTunnel bay block) s = .next t ∧
        t.repliedAs (s.setBay b { s.bay b with link := { (s.bay b).link with
          tunnelOut := some block, transmitter := .sendingTunnel, frameOut := tunnelFrame block } }) .ok []) ∧
    (∀ b, bayOf bay = some b → block.length ≤ 64 → (s.bay b).link.tunnelOut = none →
      ((s.bay b).state ∈ [.waking, .dark] ∧ (s.bay b).link.pendingAsk = none ∨
        (s.bay b).state.supplyOff = false ∧ (s.run = .held ∨ (s.bay b).link.transmitter ≠ .idle)) →
      ∃ t, exec (.putTunnel bay block) s = .next t ∧
        t.repliedAs (s.setBay b { s.bay b with link := { (s.bay b).link with tunnelOut := some block } }) .ok [])) ∧
  (∀ (s : State) (b : BayNo), s.requestInHand = none → (s.bay b).link.transmitter = .sendingTunnel →
    ((s.bay b).link.pendingAsk = none ∨ s.run = .held →
      exec (.tunnelOutSent b) s = .next (s.setBay b { s.bay b with link := { (s.bay b).link with
        tunnelOut := none, transmitter := .idle, frameOut := [] } })) ∧
    (∀ ask, (s.bay b).link.pendingAsk = some ask → s.run = .run →
      exec (.tunnelOutSent b) s = .next (s.setBay b { s.bay b with link := { (s.bay b).link with
        tunnelOut := none, transmitter := .sendingAsk, pendingAsk := none, frameOut := askFrame ask } }))) ∧
  (∀ block : List Byte, block.length ≤ 64 →
    let f := tunnelFrame block
    let n := block.length
    f.length = 7 + n ∧ bytesAt f 0 4 = [0xA5, 0x5A, 0x02, 0] ∧ numberAt f 4 1 = n ∧ bytesAt f 5 n = block ∧
    numberAt f (5 + n) 2 = (crc (bytesAt f 2 (3 + n))).toNat)

/-- R38, R39, R163: a TUNNEL_IN block fills an empty slot and makes the cause ACTIVE, or is dropped and counted;
GET_TUNNEL and PEEK_TUNNEL return the slot, and GET_TUNNEL empties it, which ends the cause. -/
def Obligations.TunnelBlocksComeIn : Prop :=
  ∀ (s : State) (b : BayNo), s.requestInHand = none →
    (∀ f, (s.bay b).link.accepts kindTunnelIn f → (s.bay b).link.tunnelIn = none →
      ∃ t, exec (.tunnelInAccepted b f) s = .next t ∧ t = { s with bays := t.bays, notices := t.notices } ∧
        t.bay b = { s.bay b with link := { (s.bay b).link with
          receiver := .hunting, gap := none, tunnelIn := some f.body } } ∧
        t.notices.tunnelIn.get b = (s.notices.tunnelIn.get b).rise) ∧
    (∀ f block, (s.bay b).link.accepts kindTunnelIn f → (s.bay b).link.tunnelIn = some block →
      exec (.tunnelInAccepted b f) s = .next (s.setBay b { s.bay b with link := { (s.bay b).link with
        receiver := .hunting, gap := none, tunnelDrops := satInc (s.bay b).link.tunnelDrops } })) ∧
    (∀ bay : Byte, s.startup = none → 23 < bay.toNat →
      (∃ t, exec (.getTunnel bay) s = .next t ∧ t.repliedAs s .badParam []) ∧
      (∃ t, exec (.peekTunnel bay) s = .next t ∧ t.repliedAs s .badParam [])) ∧
    (∀ bay : Byte, s.startup = none → bayOf bay = some b →
      let body := match (s.bay b).link.tunnelIn with
        | none => [0, 0]
        | some block => 1 :: BitVec.ofNat 8 block.length :: block
      (∃ t, exec (.peekTunnel bay) s = .next t ∧ t.repliedAs s .ok body) ∧
      (∃ t, exec (.getTunnel bay) s = .next t ∧ t.repliedAs { s with bays := t.bays, notices := t.notices } .ok body ∧
        (∀ d, d ≠ b → t.bay d = s.bay d) ∧
        t.bay b = { s.bay b with link := { (s.bay b).link with tunnelIn := none } } ∧
        t.notices.tunnelIn.get b = .inactive))

/-- R31: an answer that is not credited is counted stale and changes nothing else. -/
def Obligations.AStaleAnswerIsOnlyCounted : Prop :=
  ∀ (s : State) (b : BayNo) (f : BayFrame) (a : Answer), s.requestInHand = none →
    (s.bay b).link.accepts kindAnswer f → readAnswer f.body = some a →
    ((s.bay b).state ≠ .asking ∨ (s.bay b).link.outstanding ≠ some f.tag ∨ (s.bay b).link.answerTimer = none) →
    exec (.answerAccepted b f) s = .next (s.setBay b { s.bay b with link := { (s.bay b).link with
      receiver := .hunting, gap := none, stale := satInc (s.bay b).link.stale } })

/-- R32, R33, R73, R74, R75, R98, R11, R77 to R79: a credited answer and the expiry of the answer timer end the SENT
slot, ANSWERED with what the answer carried or TIMED_OUT without; the slot is judged by its gather's profile under the
fail mask, its OUTCOME record is written, and the bay becomes BENCHED, WAKING or READY. The gather and the statistics of
every profile are as the slot's completion leaves them, which ACompletionIsRecordedAndAccounted spells out (R109,
R110). -/
def Obligations.AnAskEndsAnsweredOrTimedOut : Prop :=
  ∀ (s : State) (b : BayNo) (i : GatherNo) (c : Instr) (ending : Ending) (answer : Option Answer),
    s.requestInHand = none → s.tableAgrees → (s.bay b).state = .asking → ((s.gather i).slot b).stage = .sent →
    ((∃ f a, c = .answerAccepted b f ∧ (s.bay b).link.accepts kindAnswer f ∧ readAnswer f.body = some a ∧
        (s.bay b).link.outstanding = some f.tag ∧ (s.bay b).link.answerTimer.isSome ∧
        ending = .answered ∧ answer = some a) ∨
      (∃ expiry, c = .answerTimerExpiry b ∧ (s.bay b).link.answerTimer = some expiry ∧ reached expiry s.clock ∧
        ending = .timedOut ∧ answer = none)) →
    ∃ t, exec c s = .next t ∧
      (t.gather i).slot b = s.slotJudged b i ending answer ∧ s.recordsAre t b [s.outcomeRecord t b i] ∧
      ((t.gather i).slot b).stage = .final ∧ ((t.gather i).slot b).ending = some ending ∧
      ((t.gather i).slot b).tag = ((s.gather i).slot b).tag ∧
      ((t.gather i).slot b).sendTime = ((s.gather i).slot b).sendTime ∧
      ((t.gather i).slot b).answerTime = answer.map (fun _ => s.clock) ∧
      ((t.gather i).slot b).status = answer.map (·.status) ∧ ((t.gather i).slot b).raw = answer.bind (·.value) ∧
      ((t.gather i).slot b).payload = (answer.map (·.payload)).getD [] ∧
      ((t.gather i).slot b).stats = (s.bay b).window.stats ∧
      ((t.gather i).slot b).verdict =
        (if ((t.gather i).slot b).indicators &&& (s.gather i).failMask = 0 then .pass else .fail) ∧
      (let u := s.completeEvaluated b i ending answer
       t.gather i = u.gather i ∧ ∀ p, (t.profile p).statsKept (u.profile p)) ∧
      (t.bay b).link.quiet ∧ (t.bay b).link.sendingKept (s.bay b).link ∧
      (if ending = .answered then (t.bay b).link.receiver = .hunting ∧ (t.bay b).link.gap = none
       else (t.bay b).link.receiver = (s.bay b).link.receiver ∧ (t.bay b).link.gap = (s.bay b).link.gap) ∧
      t.converter.tieEnded s.converter b ∧
      (t.bay b).window = .closed ∧ (t.bay b).supply = (s.bay b).supply ∧
      (t.bay b).link.tunnelsKept (s.bay b).link ∧ (t.bay b).link.nextTag = (s.bay b).link.nextTag ∧
      (t.bay b).link.ratesAndCountsKept (s.bay b).link ∧ (t.bay b).seatKept (s.bay b) ∧
      (t.bay b).identityKept (s.bay b) ∧ (t.bay b).windowOfRingKept (s.bay b) ∧
      (t.bay b).wroteRecords (s.bay b) 1 ∧
      (if ((t.gather i).slot b).verdict = .fail ∧ (s.gather i).benchOnFail then
        (t.bay b).state = .benched ∧ (t.bay b).queue = [] ∧
        (t.bay b).link.wakeTimer = (s.bay b).link.wakeTimer ∧
        (∀ j, ((s.gather j).slot b).stage = .queued →
          (t.gather j).slot b = s.slotAfter b j (some .skipped) ∧
          (t.gather j).summary.lowest = (s.gather j).summary.lowest ∧
          (t.gather j).summary.highest = (s.gather j).summary.highest) ∧
        ∀ j, j ≠ i → ((s.gather j).slot b).stage ≠ .queued → t.gather j = s.gather j
       else if (s.gather i).expectRestart then
        (t.bay b).state = .waking ∧ (t.bay b).queue = (s.bay b).queue ∧
        (t.bay b).link.wakeTimer = some (s.clock + BitVec.ofNat 48 (s.wakeTimeout.toNat * 1000)) ∧
        t.profiles = (s.completeEvaluated b i ending answer).profiles ∧ ∀ j, j ≠ i → t.gather j = s.gather j
       else
        (t.bay b).state = .ready ∧ (t.bay b).queue = (s.bay b).queue ∧
        (t.bay b).link.wakeTimer = (s.bay b).link.wakeTimer ∧
        t.profiles = (s.completeEvaluated b i ending answer).profiles ∧ ∀ j, j ≠ i → t.gather j = s.gather j)

/-- R23 to R26: what the bay receiver does with each byte, with a character fault and at its gaps, and the frames
it discards, each counted once. The byte at which the receiver judges belongs to the frame's own command (assumption
6); that the 2 ms have run out at exactly the limit rests on assumption 5, and that an expiry is no event before it
on assumption 2. -/
def Obligations.TheBayReceiverAssemblesAndDiscards : Prop :=
  ∀ (s : State) (b : BayNo), s.requestInHand = none →
    let link := (s.bay b).link
    let become := fun l : Link => Host.Outcome.next (φ := Fault) (ρ := Refusal) (s.setBay b { s.bay b with link := l })
    let discarded := { link with receiver := .hunting, gap := none, linkErrors := satInc link.linkErrors }
    let soon := some (s.clock + 2000)
    (∀ byte, link.receiver = .disabled → exec (.baySyncReceived b byte) s = .next s) ∧
    (∀ byte, link.receiver = .hunting → exec (.baySyncReceived b byte) s =
      become (if byte = 0xA5 then { link with receiver := .syncSeen, gap := soon } else link)) ∧
    (∀ byte, link.receiver = .syncSeen → exec (.baySyncReceived b byte) s =
      become (if byte = 0x5A then { link with receiver := .inFrame [], gap := soon }
        else if byte = 0xA5 then { link with gap := soon } else { link with receiver := .hunting, gap := none })) ∧
    (∀ byte got, link.receiver = .inFrame got →
      (got.length ≤ 1 ∨ (∃ kind tag, got = [kind, tag] ∧ bayHeaderTakes kind byte) ∨
        (∃ kind tag length rest, got = kind :: tag :: length :: rest ∧ rest.length + 1 < length.toNat + 2)) →
      exec (.baySyncReceived b byte) s = become { link with receiver := .inFrame (got ++ [byte]), gap := soon }) ∧
    (∀ expiry, link.receiver = .syncSeen → link.gap = some expiry →
      exec (.syncGapExpiry b) s =
        if reached expiry s.clock then become { link with receiver := .hunting, gap := none } else .next s) ∧
    (∀ got expiry, link.receiver = .inFrame got → link.gap = some expiry →
      exec (.bayFrameGapExpiry b) s = if reached expiry s.clock then become discarded else .next s) ∧
    (exec (.bayCharacterFault b) s = match link.receiver with
      | .inFrame _ => become discarded
      | .syncSeen => become { link with receiver := .hunting, gap := none }
      | .hunting => .next s
      | .disabled => .next s) ∧
    (∀ kind tag length got, link.receiver = .inFrame got → got <+: [kind, tag, length] →
      bayHeaderTakes kind length = false → exec (.bayFrameLengthDiscard b kind tag length) s = become discarded) ∧
    (∀ f got, link.receiver = .inFrame got → got <+: f.bytes → f.wellFormed → bayHeaderTakes f.kind f.length →
      (bayIntact f = false ∨ bodyAgrees f.kind f.body = false) →
      exec (.bayFrameRejected b f) s = become discarded)

/-- R69, R70, R28, R29, R61, R85, R22, R182: a dispatch takes the head of a READY bay's queue; its ask begins at once
when the transmitter is IDLE and no tunnel block waits, and is pending otherwise. The last clause lays out the ASK
frame. -/
def Obligations.ADispatchSendsTheHeadOfTheQueue : Prop :=
  (∀ (s : State) (b : BayNo) (i : GatherNo) (rest : List GatherNo), s.requestInHand = none →
    (s.bay b).state = .ready → s.run = .run →
    (s.bay b).queue = i :: rest → ((s.gather i).slot b).stage = .queued →
    let tag := (s.bay b).link.nextTag
    let ask : Ask := { tag := tag, command := (s.gather i).command, args := (s.gather i).args }
    let next := if tag = 255 then 1 else tag + 1
    ∃ t, exec (.dispatch b) s = .next t ∧ t = { s with bays := t.bays, gathers := t.gathers } ∧
      (∀ d, d ≠ b → t.bay d = s.bay d) ∧ (∀ j, j ≠ i → t.gather j = s.gather j) ∧
      (∀ d, d ≠ b → (t.gather i).slot d = (s.gather i).slot d) ∧
      t.gather i = { s.gather i with
        slots := (t.gather i).slots,
        summary := { (s.gather i).summary with
          queued := (s.gather i).summary.queued - 1, sent := (s.gather i).summary.sent + 1 } } ∧
      (t.gather i).slot b = { (s.gather i).slot b with stage := .sent, tag := some tag } ∧
      ((s.bay b).link.transmitter = .idle → (s.bay b).link.tunnelOut = none →
        t.bay b = { s.bay b with state := .asking, queue := rest, link := { (s.bay b).link with
          nextTag := next, outstanding := some tag, pendingAsk := none, transmitter := .sendingAsk,
          frameOut := askFrame ask } }) ∧
      (∀ block, (s.bay b).link.transmitter = .idle → (s.bay b).link.tunnelOut = some block →
        t.bay b = { s.bay b with state := .asking, queue := rest, link := { (s.bay b).link with
          nextTag := next, outstanding := some tag, pendingAsk := some ask, transmitter := .sendingTunnel,
          frameOut := tunnelFrame block } }) ∧
      ((s.bay b).link.transmitter ≠ .idle →
        t.bay b = { s.bay b with state := .asking, queue := rest, link := { (s.bay b).link with
          nextTag := next, outstanding := some tag, pendingAsk := some ask } })) ∧
  (∀ a : Ask, a.args.length ≤ 48 →
    let f := askFrame a
    let n := a.args.length
    f.length = 9 + n ∧ bytesAt f 0 4 = [0xA5, 0x5A, 0x01, a.tag] ∧ numberAt f 4 1 = 2 + n ∧
    numberAt f 5 2 = a.command.toNat ∧ bytesAt f 7 n = a.args ∧
    numberAt f (7 + n) 2 = (crc (bytesAt f 2 (5 + n))).toNat)

/-- R30, R71, R113, R115, R116, R34, R29: when the frame of the outstanding ask has left, the send time is taken, the
answer timer starts and, under MEASURE, the window opens and an IDLE converter makes its grant, to the first bay after
the last granted one whose window is OPEN; the frame of an ask that a sign-on ended takes no send time, also when a
new ask is pending meanwhile. In each case the transmitter begins the next frame, the tunnel frame first, or is IDLE. -/
def Obligations.AnAskFrameLeaves : Prop :=
  ∀ (s : State) (b : BayNo), s.requestInHand = none → (s.bay b).link.transmitter = .sendingAsk →
    (∀ i, s.asksAgree → ((s.gather i).slot b).stage = .sent → (s.bay b).link.pendingAsk = none →
      (s.bay b).link.answerTimer = none →
      ∃ t, exec (.askSent b) s = .next t ∧
        t = { s with bays := t.bays, gathers := t.gathers, converter := t.converter, lastGranted := t.lastGranted } ∧
        t.gather i = { s.gather i with
          slots := (t.gather i).slots, firstSend := some ((s.gather i).firstSend.getD s.clock) } ∧
        (t.gather i).slot b = { (s.gather i).slot b with sendTime := some s.clock } ∧
        (∀ d, d ≠ b → (t.gather i).slot d = (s.gather i).slot d) ∧ (∀ j, j ≠ i → t.gather j = s.gather j) ∧
        (∀ d, d ≠ b → t.bay d = s.bay d) ∧
        t.bay b = { s.bay b with
          window := if (s.gather i).measure then .opened Accumulator.cleared else (s.bay b).window
          link := { (s.bay b).link with
            answerTimer := some (s.clock + BitVec.ofNat 48 ((s.gather i).timeoutMs.toNat * 1000))
            transmitter := if s.run = .run ∧ (s.bay b).link.tunnelOut ≠ none then .sendingTunnel else .idle
            frameOut := if s.run = .run then (s.bay b).link.tunnelOut.elim [] tunnelFrame else [] } } ∧
        ((s.gather i).measure → s.converter = .idle →
          ∀ d : BayNo, (t.bay d).window ≠ .closed →
            (∀ e : BayNo, (t.bay e).window ≠ .closed →
              (d - s.lastGranted - 1 : BayNo).val ≤ (e - s.lastGranted - 1 : BayNo).val) →
            t.converter = .converting d (s.clock + 10) true ∧ t.lastGranted = d) ∧
        ((s.gather i).measure = false ∨ s.converter ≠ .idle →
          t.converter = s.converter ∧ t.lastGranted = s.lastGranted)) ∧
    ((s.bay b).state ≠ .asking ∨ (s.bay b).link.pendingAsk ≠ none ∨ (s.bay b).link.answerTimer ≠ none →
      let become := fun l : Link =>
        Host.Outcome.next (φ := Fault) (ρ := Refusal) (s.setBay b { s.bay b with link := l })
      (s.run = .held → exec (.askSent b) s = become { (s.bay b).link with transmitter := .idle, frameOut := [] }) ∧
      (s.run = .run → ∀ block, (s.bay b).tunnelWaiting → (s.bay b).link.tunnelOut = some block →
        exec (.askSent b) s =
          become { (s.bay b).link with transmitter := .sendingTunnel, frameOut := tunnelFrame block }) ∧
      (s.run = .run → ∀ ask, (s.bay b).tunnelWaiting = false → (s.bay b).link.pendingAsk = some ask →
        exec (.askSent b) s = become { (s.bay b).link with
          transmitter := .sendingAsk, pendingAsk := none, frameOut := askFrame ask }) ∧
      (s.run = .run → (s.bay b).tunnelWaiting = false → (s.bay b).link.pendingAsk = none →
        exec (.askSent b) s = become { (s.bay b).link with transmitter := .idle, frameOut := [] }))

/-! ### Gathers (chapter 4) -/

/-- R65, R67, R68: an ARM_GATHER that passes its checks takes the lowest FREE entry and the next serial; each bay of
the set that is READY, ASKING, WAKING or CYCLING is queued, every other is SKIPPED, and the gather is OPEN, or DONE at
once when no slot is queued. -/
def Obligations.ArmGatherQueuesItsBays : Prop :=
  ∀ (s : State) (bays : BaySet) (command : BitVec 16) (profile : Byte) (mask : Indicators) (timeout : BitVec 16)
    (options : Byte) (args : List Byte) (p : ProfileNo) (i : GatherNo),
    s.portClear → bays ≠ 0 → args.length ≤ 48 → profileOf profile = some p → (s.profile p).defined = true →
    (s.gather i).state = .free → (∀ j, j < i → (s.gather j).state ≠ .free) →
    (∀ b, bays.getLsbD b.val → (s.bay b).state.available → (s.bay b).queue.length < 8) →
    let serial := if s.gatherSerial = 65535 then 1 else s.gatherSerial + 1
    let effective : BitVec 16 := if timeout.toNat < 10 then 10 else if 60000 < timeout.toNat then 60000 else timeout
    ∃ t, exec (.armGather bays command profile mask timeout options args) s = .next t ∧
      t.repliesWith .ok ([BitVec.ofNat 8 i.val] ++ put 2 serial ++ put 2 effective) ∧
      t.gatherSerial = serial ∧ (∀ j, j ≠ i → t.gather j = s.gather j) ∧ t.cells = s.cells ∧
      (∀ b, t.bay b = if bays.getLsbD b.val ∧ (s.bay b).state.available then
        { s.bay b with queue := (s.bay b).queue ++ [i] } else s.bay b) ∧
      (∀ b, (t.gather i).slot b =
        if bays.getLsbD b.val then
          if (s.bay b).state.available then { Slot.outside with stage := .queued }
          else { Slot.outside with stage := .final, ending := some .skipped }
        else Slot.outside) ∧
      (t.gather i).serial = serial ∧ (t.gather i).bays = bays ∧ (t.gather i).command = command ∧
      (t.gather i).args = args ∧ (t.gather i).profile = p ∧ (t.gather i).failMask = mask ∧
      (t.gather i).timeoutMs = effective ∧ (t.gather i).measure = options.getLsbD 0 ∧
      (t.gather i).benchOnFail = options.getLsbD 1 ∧ (t.gather i).expectRestart = options.getLsbD 2 ∧
      (t.gather i).cancelled = false ∧ (t.gather i).aborted = false ∧ (t.gather i).armTime = s.clock ∧
      (t.gather i).firstSend = none ∧ (t.gather i).summaryConsistent ∧
      (t.gather i).summary.lowest = none ∧ (t.gather i).summary.highest = none ∧
      (if ∃ b : BayNo, bays.getLsbD b.val ∧ (s.bay b).state.available then
        (t.gather i).state = .opened ∧ (t.gather i).lastFinal = none ∧
        (t.profile p).inUse = (s.profile p).inUse + 1 ∧ t.notices = s.notices
       else
        (t.gather i).state = .done ∧ (t.gather i).lastFinal = some s.clock ∧ t.profiles = s.profiles ∧
        t.raisedFrom s (.gatherDone i))

/-- R66: the checks of ARM_GATHER, in their order; a refused request changes nothing. -/
def Obligations.ArmGatherIsCheckedInOrder : Prop :=
  ∀ (s : State) (bays : BaySet) (command : BitVec 16) (profile : Byte) (mask : Indicators) (timeout : BitVec 16)
    (options : Byte) (args : List Byte), s.portClear →
    let refused := fun status =>
      ∃ t, exec (.armGather bays command profile mask timeout options args) s = .next t ∧ t.repliedAs s status []
    (bays = 0 → refused .badParam) ∧
    (bays ≠ 0 → 48 < args.length → refused .badLength) ∧
    (bays ≠ 0 → args.length ≤ 48 → 31 < profile.toNat → refused .badParam) ∧
    (∀ p, bays ≠ 0 → args.length ≤ 48 → profileOf profile = some p → (s.profile p).defined = false →
      refused .notFound) ∧
    (∀ p, bays ≠ 0 → args.length ≤ 48 → profileOf profile = some p → (s.profile p).defined = true →
      (∀ i, (s.gather i).state ≠ .free) → refused .full) ∧
    (∀ p i b, bays ≠ 0 → args.length ≤ 48 → profileOf profile = some p → (s.profile p).defined = true →
      (s.gather i).state = .free → bays.getLsbD b.val → (s.bay b).state.available → 8 ≤ (s.bay b).queue.length →
      refused .full)

/-- R82, R64, R80: CANCEL_GATHER of an OPEN gather ends its QUEUED slots CANCELLED, takes its index out of every
queue and leaves its SENT slots; it completes exactly when no slot is SENT. In DONE nothing changes. -/
def Obligations.CancelGatherEndsItsQueuedSlots : Prop :=
  ∀ (s : State) (index : Byte) (serial : BitVec 16), s.portClear →
    (15 < index.toNat → ∃ t, exec (.cancelGather index serial) s = .next t ∧ t.repliedAs s .badParam []) ∧
    (∀ i, gatherOf index = some i → ((s.gather i).state = .free ∨ (s.gather i).serial ≠ serial) →
      ∃ t, exec (.cancelGather index serial) s = .next t ∧ t.repliedAs s .notFound []) ∧
    (∀ i, gatherOf index = some i → (s.gather i).state = .done → (s.gather i).serial = serial →
      ∃ t, exec (.cancelGather index serial) s = .next t ∧ t.repliedAs s .ok [2]) ∧
    (∀ i, s.tableAgrees → gatherOf index = some i → (s.gather i).state = .opened → (s.gather i).serial = serial →
      ∃ t, exec (.cancelGather index serial) s = .next t ∧ t.repliesWith .ok [(t.gather i).state.code] ∧
        (t.gather i).cancelled = true ∧ (t.gather i).aborted = (s.gather i).aborted ∧
        (∀ b, ((s.gather i).slot b).stage = .queued →
          ((t.gather i).slot b).stage = .final ∧ ((t.gather i).slot b).ending = some .cancelled ∧
          ((t.gather i).slot b).verdict = .none ∧ ((t.gather i).slot b).indicators = 0) ∧
        (∀ b, ((s.gather i).slot b).stage ≠ .queued → (t.gather i).slot b = (s.gather i).slot b) ∧
        (∀ b, t.bay b = { s.bay b with queue := (s.bay b).queue.filter (· ≠ i) }) ∧
        (∀ j, j ≠ i → t.gather j = s.gather j) ∧ t.cells = s.cells ∧
        (if ∃ b, ((s.gather i).slot b).stage = .sent then (t.gather i).state = .opened ∧ t.notices = s.notices
         else (t.gather i).state = .done ∧ (t.gather i).lastFinal = some s.clock ∧ t.raisedFrom s (.gatherDone i)))

/-- R88, R168: RELEASE_GATHER frees a DONE entry and clears its notice; every other request is refused. -/
def Obligations.ReleaseGatherFreesADoneEntry : Prop :=
  ∀ (s : State) (index : Byte) (serial : BitVec 16), s.portClear →
    (15 < index.toNat → ∃ t, exec (.releaseGather index serial) s = .next t ∧ t.repliedAs s .badParam []) ∧
    (∀ i, gatherOf index = some i → ((s.gather i).state = .free ∨ (s.gather i).serial ≠ serial) →
      ∃ t, exec (.releaseGather index serial) s = .next t ∧ t.repliedAs s .notFound []) ∧
    (∀ i, gatherOf index = some i → (s.gather i).state = .opened → (s.gather i).serial = serial →
      ∃ t, exec (.releaseGather index serial) s = .next t ∧ t.repliedAs s .wrongState []) ∧
    (∀ i, gatherOf index = some i → (s.gather i).state = .done → (s.gather i).serial = serial →
      ∃ t, exec (.releaseGather index serial) s = .next t ∧
        t.repliedAs { s with gathers := t.gathers, notices := t.notices } .ok [] ∧
        (t.gather i).state = .free ∧ (∀ j, j ≠ i → t.gather j = s.gather j) ∧
        t.notices.gatherDone.get i = false ∧
        ∀ q : Place, q ≠ .gatherDone i → t.notices.waiting q = s.notices.waiting q)

/-! ### Profiles (chapter 5) -/

/-- R93, R94, R97: the checks of DEFINE_PROFILE in their order, the definition it takes, and what CLEAR_STATS
clears. -/
def Obligations.ProfilesAreDefinedAndCleared : Prop :=
  ∀ (s : State) (profile mode : Byte) (m d : BitVec 16) (b low high : BitVec 32) (latency current : BitVec 16),
    s.portClear →
    let request := Instr.defineProfile profile mode m d b low high latency current
    let effective : BitVec 16 := if 60000 < latency.toNat then 60000 else latency
    (profile = 0 ∨ 31 < profile.toNat ∨ 1 < mode.toNat ∨ d.toNat = 0 ∨ 32767 < d.toNat ∨ high.toInt < low.toInt ∨
        8191 < current.toNat →
      ∃ t, exec request s = .next t ∧ t.repliedAs s .badParam []) ∧
    (∀ p v, profileOf profile = some p → profile ≠ 0 → valueModeOf mode = some v → 0 < d.toNat → d.toNat ≤ 32767 →
      low.toInt ≤ high.toInt → current.toNat ≤ 8191 →
      (0 < (s.profile p).inUse → ∃ t, exec request s = .next t ∧ t.repliedAs s .busy []) ∧
      ((s.profile p).inUse = 0 →
        ∃ t, exec request s = .next t ∧ t.repliedAs (s.setProfile p
          { defined := true, mode := v, m := m, d := d, b := b, low := low, high := high, latencyMs := effective,
            currentMa := current, inUse := 0, evaluated := 0, minimum := none, maximum := none, fails := 0 })
          .ok (profile :: put 2 effective))) ∧
    (31 < profile.toNat → ∃ t, exec (.clearStats profile) s = .next t ∧ t.repliedAs s .badParam []) ∧
    (∀ p, profileOf profile = some p → (s.profile p).defined = false →
      ∃ t, exec (.clearStats profile) s = .next t ∧ t.repliedAs s .notFound []) ∧
    (∀ p, profileOf profile = some p → (s.profile p).defined = true →
      ∃ t, exec (.clearStats profile) s = .next t ∧ t.repliedAs (s.setProfile p
        { s.profile p with evaluated := 0, minimum := none, maximum := none, fails := 0 }) .ok [])

/-! ### Result rings (chapter 7) -/

/-- R143, R144: the checks of SET_RING in their order, and the window or the mode it sets. -/
def Obligations.SetRingMovesAnEmptyWindow : Prop :=
  ∀ (s : State) (bay mode : Byte) (base length : BitVec 16), s.portClear →
    let refused := fun status => ∃ t, exec (.setRing bay base length mode) s = .next t ∧ t.repliedAs s status []
    (23 < bay.toNat ∨ 1 < mode.toNat ∨ 4095 < base.toNat ∨ 4096 < base.toNat + length.toNat → refused .badParam) ∧
    (∀ b m, bayOf bay = some b → ringModeOf mode = some m → base.toNat ≤ 4095 → base.toNat + length.toNat ≤ 4096 →
      (∀ c cell, c ≠ b → base.toNat ≤ cell → cell < base.toNat + length.toNat → (s.bay c).ring.base ≤ cell →
        cell < (s.bay c).ring.base + (s.bay c).ring.length → refused .badParam) ∧
      ((∀ c cell, c ≠ b → base.toNat ≤ cell → cell < base.toNat + length.toNat →
          ¬((s.bay c).ring.base ≤ cell ∧ cell < (s.bay c).ring.base + (s.bay c).ring.length)) →
        (((s.bay b).ring.base ≠ base.toNat ∨ (s.bay b).ring.length ≠ length.toNat) →
          (0 < (s.bay b).ring.occupancy ∨
            ∃ i, ((s.gather i).slot b).stage = .queued ∨ ((s.gather i).slot b).stage = .sent) → refused .busy) ∧
        (((s.bay b).ring.base ≠ base.toNat ∨ (s.bay b).ring.length ≠ length.toNat) →
          (s.bay b).ring.occupancy = 0 →
          (∀ i, ((s.gather i).slot b).stage ≠ .queued ∧ ((s.gather i).slot b).stage ≠ .sent) →
          ∃ t, exec (.setRing bay base length mode) s = .next t ∧ t.repliedAs (s.setBay b { s.bay b with ring :=
            { (s.bay b).ring with base := base.toNat, length := length.toNat, mode := m, oldest := 0 } })
            .ok (put 2 base ++ put 2 length ++ [mode])) ∧
        ((s.bay b).ring.base = base.toNat → (s.bay b).ring.length = length.toNat →
          ∃ t, exec (.setRing bay base length mode) s = .next t ∧ t.repliedAs (s.setBay b { s.bay b with ring :=
            { (s.bay b).ring with mode := m } }) .ok (put 2 base ++ put 2 length ++ [mode]))))

/-- R138, R131: READ_RESULTS returns the oldest records as their cells, at most 8, and removes them. -/
def Obligations.ReadResultsTakesTheOldestRecords : Prop :=
  ∀ (s : State) (bay max : Byte), s.portClear →
    (23 < bay.toNat → ∃ t, exec (.readResults bay max) s = .next t ∧ t.repliedAs s .badParam []) ∧
    (∀ b, bayOf bay = some b → (s.bay b).ring.consistent →
      let asked := if max = 0 then 1 else if 8 < max.toNat then 8 else max.toNat
      let n := if asked ≤ (s.bay b).ring.occupancy then asked else (s.bay b).ring.occupancy
      ∃ t body, exec (.readResults bay max) s = .next t ∧ body.length = 4 + 96 * n ∧
        t.repliedAs (s.setBay b { s.bay b with ring := { (s.bay b).ring with
          occupancy := (s.bay b).ring.occupancy - n,
          oldest := if (s.bay b).ring.length = 0 then 0
                    else ((s.bay b).ring.oldest + n) % (s.bay b).ring.length } }) .ok body ∧
        body[0]? = some bay ∧ numberAt body 1 1 = n ∧ numberAt body 2 2 = (s.bay b).ring.occupancy - n ∧
        ∀ k, k < n → bytesAt body (4 + 96 * k) 96 = readCells s.cells
          (96 * ((s.bay b).ring.base + ((s.bay b).ring.oldest + k) % (s.bay b).ring.length)) 96)

/-- R141, with R140: CLEAR_DROPS lowers each count by what was seen of it, never below 0; the RING_FULL cause ends when
both are 0 and stays otherwise; with both already 0 nothing changes. It holds after the start-up (R160), with the
requests taken before it carried out (R175). -/
def Obligations.ClearDropsEndsTheRingFullCause : Prop :=
  ∀ (s₀ : State) (bay : Byte) (seenDrops seenOverwrites : BitVec 16), s₀.startup = none →
    let s := s₀.before (.clearDrops bay seenDrops seenOverwrites)
    (23 < bay.toNat → ∃ t, exec (.clearDrops bay seenDrops seenOverwrites) s₀ = .next t ∧ t.repliedAs s .badParam []) ∧
    (∀ b, bayOf bay = some b → s.causesConsistent →
      ∃ t drops overwrites, exec (.clearDrops bay seenDrops seenOverwrites) s₀ = .next t ∧
        t.repliedAs { s with bays := t.bays, notices := t.notices } .ok (put 2 drops ++ put 2 overwrites) ∧
        (∀ d, d ≠ b → t.bay d = s.bay d) ∧
        t.bay b = { s.bay b with ring := { (s.bay b).ring with drops := drops, overwrites := overwrites } } ∧
        drops.toNat = (s.bay b).ring.drops.toNat - seenDrops.toNat ∧
        overwrites.toNat = (s.bay b).ring.overwrites.toNat - seenOverwrites.toNat ∧
        (drops = 0 → overwrites = 0 → t.notices.ringFull.get b = .inactive) ∧
        (drops ≠ 0 ∨ overwrites ≠ 0 →
          t.notices = s.notices ∧ t.notices.ringFull.get b ≠ .inactive) ∧
        ((s.bay b).ring.drops = 0 → (s.bay b).ring.overwrites = 0 →
          t.repliedAs s .ok (put 2 (0 : BitVec 16) ++ put 2 (0 : BitVec 16))))

/-- R133, R134, R131, R142, R135, R137, R184: a record handed over takes the next sequence number whatever becomes of
it; where it is put, what is lost, and when the RING_FULL cause rises. A cell holds the four common fields, then the
record's own bytes, then zeros; the own bytes of a SIGN_ON and of a SUPPLY record are laid out here and those of an
OUTCOME record in ACompletionIsRecordedAndAccounted. -/
def Obligations.ARecordIsPlacedByTheRing : Prop :=
  (∀ (s : State) (b : BayNo) (kind : RecordKind) (own : List Byte), Memory.wf s.cells → (s.bay b).ring.consistent →
    own.length ≤ 85 →
    let r := (s.bay b).ring
    let t := s.writeRecord b kind own
    let cell := fun k => 96 * (r.base + k % r.length)
    (t.bay b).ring.nextSeq = r.nextSeq + 1 ∧
    (r.length = 0 → t.bay b = { s.bay b with ring := { r with nextSeq := r.nextSeq + 1 } } ∧ t.cells = s.cells) ∧
    (r.occupancy < r.length →
      t.bay b = { s.bay b with ring := { r with nextSeq := r.nextSeq + 1, occupancy := r.occupancy + 1 } } ∧
      readCells t.cells (cell (r.oldest + r.occupancy)) 96 = recordCell kind b r.nextSeq s.clock own ∧
      ∀ a, ¬(cell (r.oldest + r.occupancy) ≤ a ∧ a < cell (r.oldest + r.occupancy) + 96) →
        readCell t.cells a = readCell s.cells a) ∧
    (0 < r.length → r.occupancy = r.length → r.mode = .stop →
      t.bay b = { s.bay b with ring := { r with nextSeq := r.nextSeq + 1, drops := satInc r.drops } } ∧
      t.cells = s.cells) ∧
    (0 < r.length → r.occupancy = r.length → r.mode = .wrap →
      t.bay b = { s.bay b with ring := { r with
        nextSeq := r.nextSeq + 1, oldest := (r.oldest + 1) % r.length, overwrites := satInc r.overwrites } } ∧
      readCells t.cells (cell r.oldest) 96 = recordCell kind b r.nextSeq s.clock own ∧
      ∀ a, ¬(cell r.oldest ≤ a ∧ a < cell r.oldest + 96) → readCell t.cells a = readCell s.cells a) ∧
    t.notices.ringFull.get b =
      (if 0 < r.length ∧ r.occupancy = r.length ∧ r.drops = 0 ∧ r.overwrites = 0 then
        (s.notices.ringFull.get b).rise else s.notices.ringFull.get b)) ∧
  (∀ (b : BayNo) (kind : RecordKind) (seq : BitVec 32) (time : Time) (own : List Byte), own.length ≤ 85 →
    let cell := recordCell kind b seq time own
    cell.length = 96 ∧
    numberAt cell 0 1 = b.val + 32 * (match kind with | .outcome => 1 | .signOn => 2 | .supply => 3) ∧
    numberAt cell 1 4 = seq.toNat ∧ numberAt cell 5 6 = time.toNat ∧ bytesAt cell 11 own.length = own ∧
    ∀ k, 11 + own.length ≤ k → k < 96 → cell[k]? = some 0) ∧
  (∀ (a : SignOn) (changed : Bool), a.serial.length ≤ 24 →
    let own := signOnFields a changed
    own.length = 28 ∧ numberAt own 0 2 = a.version.toNat ∧ numberAt own 2 1 = a.serial.length ∧
    bytesAt own 3 24 = a.serial ++ List.replicate (24 - a.serial.length) 0 ∧
    own[27]? = some (if changed then 1 else 0)) ∧
  (∀ (e : SupplyEvent) (m : OnMode), supplyFields e m =
    [match e with | .trip => 1 | .sag => 2 | .cycleOff => 3 | .cycleOn => 4, if m = .limited then 1 else 2])

/-! ### Notices (chapter 9) -/

/-- R165 to R167: POLL_NOTICE collects the reportable place of the lowest class and source, and CLEAR_NOTICES empties
the unit; afterwards no notice waits. -/
def Obligations.NoticesAreCollectedByUrgency : Prop :=
  ∀ s : State, s.portClear →
    ((∀ q, s.reportable q = false) → ∃ t, exec .pollNotice s = .next t ∧ t.repliedAs s .ok [0, 0, 0, 0]) ∧
    (∀ p, s.reportable p → (∀ q, s.reportable q →
        p.classNo < q.classNo ∨ p.classNo = q.classNo ∧ p.sourceNo ≤ q.sourceNo) →
      ∃ t remaining, exec .pollNotice s = .next t ∧
        t.repliedAs { s with notices := t.notices } .ok
          [1, BitVec.ofNat 8 p.classNo, BitVec.ofNat 8 p.sourceNo, remaining] ∧
        t.reportable p = false ∧ (∀ q, q ≠ p → t.notices.waiting q = s.notices.waiting q) ∧
        remaining.toNat = allPlaces.countP t.reportable ∧
        (∀ r, t.lastReply = some r → (r.flags.noticeWaiting = true ↔ 0 < remaining.toNat)) ∧
        ∀ b : BayNo, (t.notices.ringFull.get b = .inactive ↔ s.notices.ringFull.get b = .inactive) ∧
          (t.notices.tunnelIn.get b = .inactive ↔ s.notices.tunnelIn.get b = .inactive)) ∧
    (∃ t, exec .clearNotices s = .next t ∧ t.repliedAs { s with notices := t.notices } .ok [] ∧
      (∀ q, t.notices.waiting q = false) ∧ t.replyFlags.noticeWaiting = false ∧
      ∀ b : BayNo, (t.notices.ringFull.get b = .inactive ↔ s.notices.ringFull.get b = .inactive) ∧
        (t.notices.tunnelIn.get b = .inactive ↔ s.notices.tunnelIn.get b = .inactive))

/-! ### Current measurement (chapter 6) -/

/-- R125, R127, R128: WRITE_CAL stores the clamped pair unless the lock is set, LOCK_CAL sets the lock, and
UNLOCK_CAL clears it only while no supply is on. -/
def Obligations.TheCalibrationStoreAndItsLock : Prop :=
  ∀ (s : State) (bay : Byte) (gain offset : BitVec 16), s.portClear →
    (23 < bay.toNat → ∃ t, exec (.writeCal bay gain offset) s = .next t ∧ t.repliedAs s .badParam []) ∧
    (∀ b, bayOf bay = some b → s.calLock = true →
      ∃ t, exec (.writeCal bay gain offset) s = .next t ∧ t.repliedAs s .locked []) ∧
    (∀ b, bayOf bay = some b → s.calLock = false →
      ∃ t cal, exec (.writeCal bay gain offset) s = .next t ∧
        t.repliedAs (s.setBay b { s.bay b with cal := cal }) .ok
          (bay :: put 2 cal.gain ++ leBytes 2 (BitVec.ofInt 16 cal.offset.toInt).toNat) ∧
        cal.gain.toNat = (if 8191 < gain.toNat then 8191 else gain.toNat) ∧
        cal.offset.toInt =
          (if offset.toInt < -512 then -512 else if 511 < offset.toInt then 511 else offset.toInt)) ∧
    (∃ t, exec .lockCal s = .next t ∧ t.repliedAs { s with calLock := true } .ok [1]) ∧
    ((∀ b : BayNo, (s.bay b).supply.mode = .off) →
      ∃ t, exec .unlockCal s = .next t ∧ t.repliedAs { s with calLock := false } .ok [0]) ∧
    ((∃ b : BayNo, (s.bay b).supply.mode ≠ .off) →
      ∃ t, exec .unlockCal s = .next t ∧ t.repliedAs s .wrongState [])

/-- R115 to R117, R119 to R122: when the 10 us of a conversion have run, its code is calibrated, clamped and
accumulated in the window it was tied to, or discarded, and the next bay with an OPEN window is granted. -/
def Obligations.AConversionCreditsItsWindow : Prop :=
  ∀ (s : State) (b : BayNo) (ends : Time) (tied : Bool) (code : BitVec 12),
    s.requestInHand = none → s.converter = .converting b ends tied → reached ends s.clock →
    ∃ t, exec (.conversionEnd code) s = .next t ∧
      t = { s with bays := t.bays, converter := t.converter, lastGranted := t.lastGranted } ∧
      (∀ d, d ≠ b → t.bay d = s.bay d) ∧
      (tied = false ∨ (s.bay b).window = .closed → t.bay b = s.bay b) ∧
      (∀ a, tied = true → (s.bay b).window = .opened a →
        let c := (((code.toNat * (s.bay b).cal.gain.toNat + 2048) / 4096 : Nat) : Int) + (s.bay b).cal.offset.toInt
        let mA : Nat := if c < 0 then 0 else if 8191 < c then 8191 else c.toNat
        t.bay b = { s.bay b with window := .opened (
          if a.n < 65535 then
            { n := a.n + 1, sum := a.sum + mA, sumSquares := a.sumSquares + mA * mA,
              minimum := some (min (a.minimum.getD mA) mA), maximum := some (max (a.maximum.getD mA) mA),
              sat := a.sat, clamp := a.clamp || (decide (c < 0) || decide (8191 < c)) }
          else { a with sat := true }) }) ∧
      ((∀ d : BayNo, (s.bay d).window = .closed) → t.converter = .idle ∧ t.lastGranted = s.lastGranted) ∧
      (∀ d : BayNo, (s.bay d).window ≠ .closed →
        (∀ e : BayNo, (s.bay e).window ≠ .closed →
          (d - s.lastGranted - 1 : BayNo).val ≤ (e - s.lastGranted - 1 : BayNo).val) →
        t.converter = .converting d (s.clock + 10) true ∧ t.lastGranted = d)

/-! ### Evaluation and statistics (chapters 5 and 6) -/

/-- R100, R101: the scaled value is P / d rounded to the nearest integer, a tie going away from zero, plus b, brought
into the signed 32-bit range; CLIPPED is set exactly when the exact result lay outside. -/
def Obligations.ScalingRoundsAndSaturates : Prop :=
  ∀ (v m d b : Int), 0 < d →
    let q := scaleExact v m d b - b
    2 * (v * m - q * d).natAbs ≤ d.natAbs ∧
    (2 * (v * m - q * d).natAbs = d.natAbs → (v * m).natAbs < (q * d).natAbs) ∧
    (saturate32 (scaleExact v m d b)).toInt =
      (if scaleExact v m d b < -2147483648 then -2147483648
       else if 2147483647 < scaleExact v m d b then 2147483647 else scaleExact v m d b) ∧
    (clipped (scaleExact v m d b) = true ↔ (saturate32 (scaleExact v m d b)).toInt ≠ scaleExact v m d b)

/-- R99, R102 to R108: the judgement of a slot: each indicator by its own rule, and FAIL exactly when the indicators
meet the fail mask. -/
def Obligations.ASlotIsJudgedByItsProfile : Prop :=
  ∀ (p : Profile) (mask : Indicators) (measure : Bool) (x : Slot),
    let y := evaluate p mask measure x
    let scaledWhen := x.ending = some .answered ∧ x.status = some 0 ∧ x.raw.isSome ∧ p.mode = .numeric
    (y.scaled.isSome ↔ scaledWhen) ∧
    (∀ v, scaledWhen → x.raw = some v →
      y.scaled = some (saturate32 (scaleExact v.toInt p.m.toInt p.d.toNat p.b.toInt)) ∧
      y.indicators.getLsbD 3 = clipped (scaleExact v.toInt p.m.toInt p.d.toNat p.b.toInt)) ∧
    (y.indicators.getLsbD 0 = true ↔ ∃ z, y.scaled = some z ∧ z.toInt < p.low.toInt) ∧
    (y.indicators.getLsbD 1 = true ↔ ∃ z, y.scaled = some z ∧ p.high.toInt < z.toInt) ∧
    (y.indicators.getLsbD 2 = true ↔ ∃ z, y.scaled = some z ∧ (z.toInt = p.low.toInt ∨ z.toInt = p.high.toInt)) ∧
    (y.indicators.getLsbD 3 = true → y.scaled.isSome) ∧
    (y.indicators.getLsbD 4 = true ↔ x.ending = some .answered ∧
      (x.status ≠ some 0 ∨ p.mode = .numeric ∧ x.raw = none)) ∧
    (y.indicators.getLsbD 5 = true ↔ x.ending = some .answered ∧ p.latencyMs ≠ 0 ∧
      p.latencyMs.toNat * 1000 < x.latency) ∧
    (y.indicators.getLsbD 6 = true ↔ p.currentMa ≠ 0 ∧ measure = true ∧
      ∃ st, x.stats = some st ∧ p.currentMa.toNat < st.rms) ∧
    (y.indicators.getLsbD 7 = true ↔ x.ending ∈ [some .timedOut, some .lost, some .unreached]) ∧
    (y.verdict = .fail ↔ ∃ k, k < 8 ∧ y.indicators.getLsbD k = true ∧ mask.getLsbD k = true) ∧
    (y.verdict = .pass ↔ y.verdict ≠ .fail) ∧
    y = { x with scaled := y.scaled, indicators := y.indicators, verdict := y.verdict }

/-- R73 to R75, R85, R92, R98, R109, R110, R136, R184: what completing a QUEUED or SENT slot with one of the four
evaluated endings makes of the slot, and what it accounts: the gather's summary, the statistics of its profile, the
extremes, and the OUTCOME record, whose cell is laid out field by field. -/
def Obligations.ACompletionIsRecordedAndAccounted : Prop :=
  (∀ (s : State) (b : BayNo) (i : GatherNo) (e : Ending) (answer : Option Answer),
    ((s.gather i).slot b).endable → e.evaluated →
    let g := s.gather i
    let t := s.completeEvaluated b i e answer
    let x := (t.gather i).slot b
    let was := s.profile g.profile
    let now := t.profile g.profile
    x = evaluate was g.failMask g.measure { g.slot b with
      stage := .final
      ending := some e
      stats := if (g.slot b).stage = .sent then (s.bay b).window.stats else none
      answerTime := answer.map (fun _ => s.clock)
      status := answer.map (·.status)
      raw := answer.bind (·.value)
      payload := (answer.map (·.payload)).getD [] } ∧
    x.stage = .final ∧ x.ending = some e ∧ x.verdict ≠ .none ∧ (t.gather i).termsKept g ∧
    (∀ q, q ≠ g.profile → t.profile q = s.profile q) ∧ (∀ j, j ≠ i → t.gather j = s.gather j) ∧
    now.definitionKept was ∧ now.inUse = (if (t.gather i).hasOpenSlot then was.inUse else was.inUse - 1) ∧
    now.fails = (if x.verdict = .fail then satInc was.fails else was.fails) ∧
    (x.scaled = none →
      now.evaluated = was.evaluated ∧ now.minimum = was.minimum ∧ now.maximum = was.maximum ∧
      (t.gather i).summary.lowest = g.summary.lowest ∧ (t.gather i).summary.highest = g.summary.highest) ∧
    (∀ v, x.scaled = some v →
      now.evaluated = satInc was.evaluated ∧
      now.minimum = some (match was.minimum with
        | none => v
        | some m => if v.toInt < m.toInt then v else m) ∧
      now.maximum = some (match was.maximum with
        | none => v
        | some m => if m.toInt < v.toInt then v else m) ∧
      (t.gather i).summary.lowest = some (match g.summary.lowest with
        | none => ⟨v, b⟩
        | some m => if v.toInt < m.value.toInt then ⟨v, b⟩ else m) ∧
      (t.gather i).summary.highest = some (match g.summary.highest with
        | none => ⟨v, b⟩
        | some m => if m.value.toInt < v.toInt then ⟨v, b⟩ else m)) ∧
    (t.gather i).summary.endings = g.summary.endings.count e ∧
    ((g.slot b).stage = .queued →
      (t.gather i).summary.queued = g.summary.queued - 1 ∧ (t.gather i).summary.sent = g.summary.sent) ∧
    ((g.slot b).stage = .sent →
      (t.gather i).summary.queued = g.summary.queued ∧ (t.gather i).summary.sent = g.summary.sent - 1) ∧
    (∀ d : BayNo, (t.gather i).summary.passSet.getLsbD d.val =
      (g.summary.passSet.getLsbD d.val || (d == b && x.verdict == .pass))) ∧
    (∀ d : BayNo, (t.gather i).summary.failSet.getLsbD d.val =
      (g.summary.failSet.getLsbD d.val || (d == b && x.verdict == .fail))) ∧
    t.cells = s.cellsAfter b .outcome (outcomeFields i g x s.clock) ∧
    s.recordsAre t b [(.outcome, outcomeFields i g x s.clock)]) ∧
  (∀ (b : BayNo) (seq : BitVec 32) (i : GatherNo) (g : Gather) (x : Slot) (time : Time), x.payload.length ≤ 48 →
    let cell := recordCell .outcome b seq time (outcomeFields i g x time)
    (outcomeFields i g x time).length = 85 ∧ numberAt cell 11 2 = g.serial.toNat ∧ numberAt cell 13 1 = i.val ∧
    cell[14]? = some (x.tag.getD 0) ∧ numberAt cell 15 2 = g.command.toNat ∧
    numberAt cell 17 1 = (endingCode x.ending).toNat + 16 * x.verdict.code.toNat ∧ cell[18]? = some x.indicators ∧
    cell[19]? = some x.presence ∧
    (∀ sent, x.sendTime = some sent → numberAt cell 20 4 = (time - sent).toNat % 2 ^ 32) ∧
    (x.sendTime = none → numberAt cell 20 4 = 0) ∧
    (∀ answered, x.answerTime = some answered → numberAt cell 24 4 = (time - answered).toNat % 2 ^ 32) ∧
    (x.answerTime = none → numberAt cell 24 4 = 0) ∧ cell[28]? = some (x.status.getD 0) ∧
    (∀ v, x.raw = some v → numberAt cell 29 4 = v.toNat) ∧ (x.raw = none → numberAt cell 29 4 = 0) ∧
    (∀ v, x.scaled = some v → numberAt cell 33 4 = v.toNat) ∧ (x.scaled = none → numberAt cell 33 4 = 0) ∧
    (∀ y, x.stats = some y →
      numberAt cell 37 2 = y.n % 65536 ∧ numberAt cell 39 2 = y.mean % 65536 ∧ numberAt cell 41 2 = y.rms % 65536 ∧
      numberAt cell 43 2 = y.peak % 65536 ∧ numberAt cell 45 2 = y.min % 65536) ∧
    (x.stats = none → numberAt cell 37 10 = 0) ∧ numberAt cell 47 1 = x.payload.length ∧
    bytesAt cell 48 48 = x.payload ++ List.replicate (48 - x.payload.length) 0)

/-- R123: min ≤ mean ≤ rms ≤ peak in every window's statistics with n above 0, and n at most 65 535. -/
def Obligations.StatisticsKeepTheirOrder : Prop :=
  ∀ (a : Accumulator) (x : Stats), a.consistent → a.stats = some x →
    x.n = a.n ∧ 1 ≤ x.n ∧ x.n ≤ 65535 ∧ x.min ≤ x.mean ∧ x.mean ≤ x.rms ∧ x.rms ≤ x.peak ∧ x.peak ≤ 8191 ∧
    x.mean = a.sum / a.n ∧ x.rms * x.rms ≤ a.sumSquares / a.n ∧ a.sumSquares / a.n < (x.rms + 1) * (x.rms + 1) ∧
    some x.min = a.minimum ∧ some x.peak = a.maximum ∧ x.sat = a.sat ∧ x.clamp = a.clamp

/-! ### Requests as bytes -/

/-- R175, R183: the port reads from the code and body of every well-formed request that request, with every operand
at every value. -/
def Obligations.DecodeOfEncodeIsTheRequest : Prop :=
  ∀ (c : Instr) (code : Byte) (body : List Byte), encodeRequest c = some (code, body) →
    decodeRequest code body = .request c ∧ (c.wellFormed → body.length ≤ 1024)

/-! ### Over every command -/

/-- R58 to R63, R2, R17, R19, R112, R116, R117: every step keeps the agreement of bays, queues and gathers. -/
def Obligations.EveryStepKeepsTheTablesInAgreement : Prop :=
  ∀ s t : State, s.tableAgrees → step s = .next t → t.tableAgrees

/-- R131, R38, R142, R130: every step keeps the rings within their windows and apart, the condition places with their
causes, and the Result Store's bytes in their canonical form. -/
def Obligations.EveryStepKeepsTheResultStore : Prop :=
  ∀ s t : State, step s = .next t →
    (s.ringsConsistent → t.ringsConsistent) ∧ (s.causesConsistent → t.causesConsistent) ∧
    (Memory.wf s.cells → Memory.wf t.cells)

/-- R92, R91, R109, R121, R123, R170, R174: every step keeps the in-use counts, the profile table, the accumulators of the
open windows and the order of the request buffer. -/
def Obligations.EveryStepKeepsCountsAndBuffer : Prop :=
  ∀ s t : State, step s = .next t →
    (s.gathersConsistent ∧ s.inUseAgrees → t.gathersConsistent ∧ t.inUseAgrees) ∧
    (s.profilesConsistent → t.profilesConsistent) ∧ (s.accumulatorsConsistent → t.accumulatorsConsistent) ∧
    (s.port.consistent → t.port.consistent)

/-- R146, R154 to R156, R124, R1, R3, R114, R132: which commands alone change the station's own items, the calibration
store, the presence and line rate of a bay, the port, the arbiter's position and the Result Store's bytes. A command
that finds another request in hand finds it carried out first (R175, AReplyGoesToTheRequestInHand). A request commanded
after the start-up with none in hand leaves the port as it was, which is the model's choice (assumption 3). -/
def Obligations.OnlyTheseCommandsChangeTheStation : Prop :=
  ∀ (c : Instr) (s t : State), s.comesFirst c → exec c s = .next t →
    t.pending = s.pending ∧ t.railReads = s.railReads ∧
    ((∀ x y z, c ≠ .powerOn x y z) →
      t.clock = s.clock ∧
      (c ≠ .startupDebounceEnd → t.startup = s.startup) ∧
      ((∀ x, c ≠ .stopLineChange x) → t.stopLine = s.stopLine ∧
        (c ≠ .hold → c ≠ .resume → c ≠ .stationReset → t.run = s.run)) ∧
      (c ≠ .stationReset →
        ((∀ n v, c ≠ .setParam n v) →
          t.stopFunction = s.stopFunction ∧ t.wakeTimeout = s.wakeTimeout ∧ t.classMask = s.classMask) ∧
        ((∀ a b d e f g h, c ≠ .armGather a b d e f g h) → t.gatherSerial = s.gatherSerial) ∧
        ((∀ a b, c ≠ .setLineRate a b) → ∀ b, (t.bay b).link.lineRate = (s.bay b).link.lineRate) ∧
        ((∀ b, c ≠ .askSent b) → (∀ code, c ≠ .conversionEnd code) → t.lastGranted = s.lastGranted)) ∧
      ((∀ a b, c ≠ .presenceContactChange a b) → ∀ b, (t.bay b).contact = (s.bay b).contact) ∧
      ((∀ a, c ≠ .debounceExpiry a) → c ≠ .startupDebounceEnd → ∀ b, (t.bay b).present = (s.bay b).present) ∧
      (c ≠ .linkDetach → c ≠ .linkAttach → t.port.attached = s.port.attached) ∧
      (reachesPort c = false → t.port = s.port ∧ t.lastReply = s.lastReply) ∧
      ((encodeRequest c).isSome → s.portClear → t.port = s.port)) ∧
    (c ≠ .lockCal → c ≠ .unlockCal → t.calLock = s.calLock) ∧
    ((∀ a b d, c ≠ .writeCal a b d) → ∀ b, (t.bay b).cal = (s.bay b).cal) ∧
    (s.calLock = true → ∀ b, (t.bay b).cal = (s.bay b).cal) ∧
    ((match c with
      | .powerOn _ _ _ | .stationReset | .signOnAccepted _ _ | .answerAccepted _ _ | .answerTimerExpiry _
      | .wakeTimerExpiry _ | .cycleTimerExpiry _ | .debounceExpiry _ | .trip _ _ | .sag _ | .setSupply _ _
      | .cycleBay _ _ _ | .resetBay _ | .stopLineChange _ => False
      | _ => True) → t.cells = s.cells ∧ ∀ b, (t.bay b).ring.nextSeq = (s.bay b).ring.nextSeq)

/-- R19, R41, R64, R132, R161: a command that acts on one bay leaves every other bay's column as it was: its record,
link, supply, queue, window, pair and ring, its slots in every gather, the bytes of its window and its notice
places. -/
def Obligations.ABayDoesNotTouchAnother : Prop :=
  ∀ (c : Instr) (s t : State) (b d : BayNo), columnOf c = some b → d ≠ b → s.comesFirst c → s.ringsConsistent →
    exec c s = .next t → s.columnKept t d

/-- R58, R59, R61, R62, R80, R90: a slot once FINAL and a gather once DONE change no more until the entry is freed; what
ARM_GATHER gave a gather and DEFINE_PROFILE a profile stays; a gather that completes takes its last final time and
raises its notice. Only an answer forms a value, and so moves the extremes of a gather or a profile (R99, R109,
R110). -/
def Obligations.GathersMoveOnlyForward : Prop :=
  ∀ (c : Instr) (s t : State), s.comesFirst c → s.gathersConsistent → exec c s = .next t →
    (∀ i, (s.gather i).state = .done → t.gather i = s.gather i ∨ t.gather i = Gather.free) ∧
    (∀ i b, (s.gather i).state = .opened → ((s.gather i).slot b).stage = .final →
      (t.gather i).slot b = (s.gather i).slot b ∨ t.gather i = Gather.free) ∧
    (∀ i, (s.gather i).state = .opened → (t.gather i).termsKept (s.gather i) ∨ t.gather i = Gather.free) ∧
    (∀ i, (s.gather i).state = .opened → (t.gather i).state = .done →
      (t.gather i).lastFinal = some s.clock ∧ t.raisedFrom s (.gatherDone i)) ∧
    ((∀ x y z, c ≠ .powerOn x y z) → c ≠ .stationReset →
      (∀ a1 a2 a3 a4 a5 a6 a7 a8 a9, c ≠ .defineProfile a1 a2 a3 a4 a5 a6 a7 a8 a9) →
      ∀ p, (t.profile p).definitionKept (s.profile p)) ∧
    ((∀ b f, c ≠ .answerAccepted b f) → (∀ x y z, c ≠ .powerOn x y z) → c ≠ .stationReset →
      (∀ i, (s.gather i).state = .opened →
        (t.gather i).summary.lowest = (s.gather i).summary.lowest ∧
        (t.gather i).summary.highest = (s.gather i).summary.highest) ∧
      ((∀ a1 a2 a3 a4 a5 a6 a7 a8 a9, c ≠ .defineProfile a1 a2 a3 a4 a5 a6 a7 a8 a9) → (∀ a, c ≠ .clearStats a) →
        ∀ p, (t.profile p).evaluated = (s.profile p).evaluated ∧ (t.profile p).minimum = (s.profile p).minimum ∧
          (t.profile p).maximum = (s.profile p).maximum))
end

