-- ==== Sys2Proof/Laws/Bytes.lean ====
section
/-! SUPPORT. Numbers as little-endian bytes and back, the fields of a body at their offsets, and the numbers
that name bays, gathers and profiles. -/

namespace Sys2Proof

@[simp] theorem leBytes_length : ∀ k n, (leBytes k n).length = k
  | 0, _ => rfl
  | k + 1, n => by simp [leBytes, leBytes_length k]

/-- Bytes written little-endian read back as the number, as far as they reach. -/
theorem readLE_leBytes : ∀ k n, readLE (leBytes k n) = n % 256 ^ k
  | 0, n => by simp [leBytes, readLE, Nat.mod_one]
  | k + 1, n => by
    rw [leBytes, readLE, readLE_leBytes k, BitVec.toNat_ofNat, show (2 : Nat) ^ 8 = 256 by rfl, Nat.pow_succ,
      Nat.mul_comm (256 ^ k) 256, Nat.mod_mul]

/-- A number that fits its field reads back whole. -/
theorem readLE_leBytes_of_lt {k n : Nat} (h : n < 256 ^ k) : readLE (leBytes k n) = n := by
  rw [readLE_leBytes, Nat.mod_eq_of_lt h]

/-- A field written from a bit vector reads back as the bit vector. -/
theorem field_leBytes {w : Nat} (k : Nat) (x : BitVec w) (h : w ≤ 8 * k) : field w (leBytes k x.toNat) = x := by
  have hx : x.toNat < 256 ^ k := by
    have : (256 : Nat) ^ k = 2 ^ (8 * k) := by rw [show (256 : Nat) = 2 ^ 8 by rfl, Nat.pow_mul]
    rw [this]
    exact Nat.lt_of_lt_of_le x.isLt (Nat.pow_le_pow_right (by omega) h)
  rw [field, readLE_leBytes_of_lt hx, BitVec.ofNat_toNat, BitVec.setWidth_eq]

/-- The bytes of a 16-bit field, one by one. -/
theorem field_two (x : BitVec 16) : field 16 [BitVec.ofNat 8 x.toNat, BitVec.ofNat 8 (x.toNat / 256)] = x :=
  field_leBytes 2 x (by omega)

/-- The bytes of a 24-bit field, one by one. -/
theorem field_three (x : BitVec 24) :
    field 24 [BitVec.ofNat 8 x.toNat, BitVec.ofNat 8 (x.toNat / 256), BitVec.ofNat 8 (x.toNat / 256 / 256)] = x :=
  field_leBytes 3 x (by omega)

/-- The bytes of a 32-bit field, one by one. -/
theorem field_four (x : BitVec 32) :
    field 32 [BitVec.ofNat 8 x.toNat, BitVec.ofNat 8 (x.toNat / 256), BitVec.ofNat 8 (x.toNat / 256 / 256),
      BitVec.ofNat 8 (x.toNat / 256 / 256 / 256)] = x :=
  field_leBytes 4 x (by omega)

namespace Machine

@[simp] theorem put_length {w : Nat} (k : Nat) (x : BitVec w) : (put k x).length = k := leBytes_length ..

@[simp] theorem putOption_length {w : Nat} (k : Nat) (x : Option (BitVec w)) : (putOption k x).length = k :=
  leBytes_length ..

@[simp] theorem padTo_length (n : Nat) (bs : List Byte) : (padTo n bs).length = max n bs.length := by
  simp [padTo]; omega

@[simp] theorem putStats_length (x : Option Stats) : (putStats x).length = 10 := by
  cases x <;> simp [putStats]

/-- A field that begins past the first part of a body lies in the rest of it. -/
theorem bytesAt_append_right {front rest : List Byte} {offset size : Nat} (h : front.length ≤ offset) :
    bytesAt (front ++ rest) offset size = bytesAt rest (offset - front.length) size := by
  simp [bytesAt, List.drop_append, List.drop_eq_nil_of_le h]

/-- The field that is the first part of a body. -/
theorem bytesAt_front (front rest : List Byte) : bytesAt (front ++ rest) 0 front.length = front := by
  simp [bytesAt]

theorem bayOf_of_lt {n : Byte} (h : n.toNat < 24) : bayOf n = some ⟨n.toNat, h⟩ := by simp [bayOf, h]

theorem bayOf_eq_none {n : Byte} : bayOf n = none ↔ 23 < n.toNat := by
  unfold bayOf; split <;> simp <;> omega

/-- The bay that a byte names is the bay of that number. -/
theorem bayOf_eq_some {n : Byte} {b : BayNo} : bayOf n = some b ↔ n.toNat = b.val := by
  unfold bayOf
  split
  · simp [Fin.ext_iff]
  · simp; omega

theorem gatherOf_eq_some {n : Byte} {i : GatherNo} : gatherOf n = some i ↔ n.toNat = i.val := by
  unfold gatherOf
  split
  · simp [Fin.ext_iff]
  · simp; omega

theorem profileOf_eq_some {n : Byte} {p : ProfileNo} : profileOf n = some p ↔ n.toNat = p.val := by
  unfold profileOf
  split
  · simp [Fin.ext_iff]
  · simp; omega

/-- A saturating counter goes up by one below its largest value and stays at it. -/
theorem satInc_toNat {w : Nat} (x : BitVec w) : (satInc x).toNat = min (x.toNat + 1) (2 ^ w - 1) := by
  unfold satInc
  split
  · rename_i h
    subst h
    simp [BitVec.toNat_allOnes]
  · rename_i h
    have hx : x.toNat ≠ 2 ^ w - 1 := fun e => h (BitVec.eq_of_toNat_eq (by simp [e, BitVec.toNat_allOnes]))
    have := x.isLt
    rcases Nat.eq_zero_or_pos w with rfl | hw
    · exact absurd (Subsingleton.elim _ _) h
    · have h1 : 1 < 2 ^ w := Nat.one_lt_two_pow (by omega)
      have one : (1 : BitVec w).toNat = 1 := by simpa using Nat.mod_eq_of_lt h1
      rw [BitVec.toNat_add, one, Nat.mod_eq_of_lt (by omega)]
      omega

end Machine

end Sys2Proof
end

