-- ==== Sys2Proof/Laws/Cells.lean ====
section
/-! SUPPORT. The bytes of the Result Store: every operation keeps the canonical form, a byte just written
reads back, and every other byte reads as before. -/

namespace Sys2Proof.Machine

theorem cellsWfFrom_weaken {m n : Nat} (h : m ≤ n) : ∀ mem, cellsWfFrom n mem → cellsWfFrom m mem
  | [], _ => rfl
  | (a, v) :: rest, hw => by
    simp only [cellsWfFrom, Bool.and_eq_true, decide_eq_true_eq] at hw ⊢
    exact ⟨⟨by omega, hw.1.2⟩, hw.2⟩

/-- Below the bound no byte is listed. -/
theorem readCell_below {n : Nat} : ∀ mem addr, cellsWfFrom n mem → addr < n → readCell mem addr = 0
  | [], _, _, _ => rfl
  | (a, v) :: rest, addr, hw, h => by
    simp only [cellsWfFrom, Bool.and_eq_true, decide_eq_true_eq] at hw
    simp only [readCell]
    rw [if_neg (by omega)]
    exact readCell_below rest addr hw.2 (by omega)

theorem writeCell_wfFrom : ∀ mem n addr v, cellsWfFrom n mem → n ≤ addr → cellsWfFrom n (writeCell mem addr v)
  | [], n, addr, v, _, h => by
    simp only [writeCell]
    split <;> simp_all [cellsWfFrom]
  | (a, w) :: rest, n, addr, v, hw, h => by
    simp only [cellsWfFrom, Bool.and_eq_true, decide_eq_true_eq] at hw
    simp only [writeCell]
    split
    · split <;> simp_all [cellsWfFrom]
    · split
      · split
        · exact cellsWfFrom_weaken (by omega) rest hw.2
        · simp_all [cellsWfFrom]
      · have := writeCell_wfFrom rest (a + 1) addr v hw.2 (by omega)
        simp_all [cellsWfFrom]

/-- A write keeps the canonical form. -/
theorem writeCell_wf (mem : List Host.Cell) (addr : Nat) (v : Byte) (h : Memory.wf mem) :
    Memory.wf (writeCell mem addr v) := writeCell_wfFrom mem 0 addr v h (Nat.zero_le _)

/-- A write of several bytes keeps the canonical form. -/
theorem writeCells_wf : ∀ (vs : List Byte) mem addr, Memory.wf mem → Memory.wf (writeCells mem addr vs)
  | [], _, _, h => h
  | v :: vs, mem, addr, h => writeCells_wf vs (writeCell mem addr v) (addr + 1) (writeCell_wf mem addr v h)

theorem readCell_writeCell_from : ∀ mem n addr v x, cellsWfFrom n mem →
    readCell (writeCell mem addr v) x = if x = addr then v else readCell mem x
  | [], n, addr, v, x, _ => by
    simp only [writeCell]
    split
    · rename_i h
      simp [readCell, h]
    · by_cases hx : addr = x <;> simp [readCell, hx, eq_comm]
  | (a, w) :: rest, n, addr, v, x, hw => by
    simp only [cellsWfFrom, Bool.and_eq_true, decide_eq_true_eq] at hw
    have below : x ≤ a → readCell rest x = 0 := fun h => readCell_below rest x hw.2 (by omega)
    simp only [writeCell]
    split
    · split
      · by_cases hx : x = addr
        · subst hx
          simp only [readCell]
          rw [if_neg (by omega), below (by omega)]
          simp_all
        · simp [hx]
      · simp only [readCell]
        by_cases hx : addr = x <;> simp [hx, eq_comm]
    · split
      · rename_i h1 h2
        subst h2
        split
        · by_cases hx : x = addr
          · subst hx; rw [below (Nat.le_refl _)]; simp_all
          · simp [readCell, hx, Ne.symm hx]
        · by_cases hx : addr = x
          · subst hx; simp [readCell]
          · simp [readCell, hx, Ne.symm hx]
      · have ih := readCell_writeCell_from rest (a + 1) addr v x hw.2
        simp only [readCell, ih]
        by_cases hx : a = x
        · subst hx; simp; intro; omega
        · simp [hx]

/-- What one byte reads after one write. -/
theorem readCell_writeCell (mem : List Host.Cell) (addr : Nat) (v : Byte) (x : Nat) (h : Memory.wf mem) :
    readCell (writeCell mem addr v) x = if x = addr then v else readCell mem x :=
  readCell_writeCell_from mem 0 addr v x h

/-- What one byte reads after a run of bytes was written: inside the run the byte written there, outside it
what it read before. -/
theorem readCell_writeCells : ∀ (vs : List Byte) mem addr x, Memory.wf mem →
    readCell (writeCells mem addr vs) x =
      if addr ≤ x ∧ x < addr + vs.length then vs.getD (x - addr) 0 else readCell mem x
  | [], mem, addr, x, _ => by
    simp only [writeCells, List.length_nil, Nat.add_zero]
    rw [if_neg (by omega)]
  | v :: vs, mem, addr, x, h => by
    rw [writeCells, readCell_writeCells vs _ _ _ (writeCell_wf mem addr v h), readCell_writeCell mem addr v x h]
    simp only [List.length_cons]
    by_cases hx : x = addr
    · subst hx
      rw [if_neg (by omega), if_pos rfl, if_pos (by omega)]
      simp
    · by_cases hr : addr + 1 ≤ x ∧ x < addr + 1 + vs.length
      · rw [if_pos hr, if_pos (by omega)]
        obtain ⟨k, rfl⟩ : ∃ k, x = addr + 1 + k := ⟨x - (addr + 1), by omega⟩
        rw [show addr + 1 + k - addr = k + 1 by omega, show addr + 1 + k - (addr + 1) = k by omega]
        rfl
      · rw [if_neg hr, if_neg hx, if_neg (by omega)]

theorem readCells_eq (mem : List Host.Cell) : ∀ n addr, readCells mem addr n = (List.range n).map (fun k => readCell mem (addr + k))
  | 0, _ => rfl
  | n + 1, addr => by
    rw [readCells, readCells_eq mem n (addr + 1), List.range_succ_eq_map, List.map_cons, List.map_map]
    simp [Function.comp_def, Nat.add_assoc, Nat.add_comm 1]

@[simp] theorem readCells_length (mem : List Host.Cell) (addr n : Nat) : (readCells mem addr n).length = n := by
  simp [readCells_eq]

/-- A run of bytes just written reads back whole. -/
theorem readCells_writeCells (mem : List Host.Cell) (addr : Nat) (vs : List Byte) (h : Memory.wf mem) :
    readCells (writeCells mem addr vs) addr vs.length = vs := by
  rw [readCells_eq]
  apply List.ext_getElem
  · simp
  · intro k h1 h2
    simp only [List.getElem_map, List.getElem_range, readCell_writeCells vs mem addr _ h]
    rw [if_pos (by omega), show addr + k - addr = k by omega, List.getD_eq_getElem _ _ h2]

/-- A run of bytes that a write does not touch reads as before. -/
theorem readCells_writeCells_apart (mem : List Host.Cell) (addr other n : Nat) (vs : List Byte) (h : Memory.wf mem)
    (apart : other + n ≤ addr ∨ addr + vs.length ≤ other) :
    readCells (writeCells mem addr vs) other n = readCells mem other n := by
  rw [readCells_eq, readCells_eq]
  refine List.map_congr_left fun k hk => ?_
  rw [List.mem_range] at hk
  rw [readCell_writeCells vs mem addr _ h, if_neg (by omega)]

/-- The Result Store lists no byte right after reset. -/
theorem wf_reset : Memory.wf State.reset.cells = true := rfl

end Sys2Proof.Machine
end

