-- ==== Sys2Proof/Laws/Exec.lean ====
section
/-! SUPPORT. No command of the block ends in a fault or a refusal. -/

namespace Sys2Proof.Machine

/-- Every command answers a next state. -/
theorem exec_next (c : Instr) (s : State) : ∃ t, exec c s = .next t := by
  cases c <;> exact ⟨_, rfl⟩

end Sys2Proof.Machine
end

