-- ==== Sys2Proof/Laws/State.lean ====
section
/-! SUPPORT. What each update of the state leaves alone, field by field, and what it sets; so that no later
proof unfolds a record update. -/

namespace Sys2Proof.Machine

variable (s : State)

/-! ### setBay -/

@[simp] theorem State.setBay_run (b : BayNo) (x : Bay) : (s.setBay b x).run = s.run := rfl
@[simp] theorem State.setBay_stopLine (b : BayNo) (x : Bay) : (s.setBay b x).stopLine = s.stopLine := rfl
@[simp] theorem State.setBay_stopFunction (b : BayNo) (x : Bay) : (s.setBay b x).stopFunction = s.stopFunction := rfl
@[simp] theorem State.setBay_clock (b : BayNo) (x : Bay) : (s.setBay b x).clock = s.clock := rfl
@[simp] theorem State.setBay_wakeTimeout (b : BayNo) (x : Bay) : (s.setBay b x).wakeTimeout = s.wakeTimeout := rfl
@[simp] theorem State.setBay_classMask (b : BayNo) (x : Bay) : (s.setBay b x).classMask = s.classMask := rfl
@[simp] theorem State.setBay_gatherSerial (b : BayNo) (x : Bay) : (s.setBay b x).gatherSerial = s.gatherSerial := rfl
@[simp] theorem State.setBay_startup (b : BayNo) (x : Bay) : (s.setBay b x).startup = s.startup := rfl
@[simp] theorem State.setBay_port (b : BayNo) (x : Bay) : (s.setBay b x).port = s.port := rfl
@[simp] theorem State.setBay_gathers (b : BayNo) (x : Bay) : (s.setBay b x).gathers = s.gathers := rfl
@[simp] theorem State.setBay_profiles (b : BayNo) (x : Bay) : (s.setBay b x).profiles = s.profiles := rfl
@[simp] theorem State.setBay_converter (b : BayNo) (x : Bay) : (s.setBay b x).converter = s.converter := rfl
@[simp] theorem State.setBay_lastGranted (b : BayNo) (x : Bay) : (s.setBay b x).lastGranted = s.lastGranted := rfl
@[simp] theorem State.setBay_calLock (b : BayNo) (x : Bay) : (s.setBay b x).calLock = s.calLock := rfl
@[simp] theorem State.setBay_railReads (b : BayNo) (x : Bay) : (s.setBay b x).railReads = s.railReads := rfl
@[simp] theorem State.setBay_cells (b : BayNo) (x : Bay) : (s.setBay b x).cells = s.cells := rfl
@[simp] theorem State.setBay_notices (b : BayNo) (x : Bay) : (s.setBay b x).notices = s.notices := rfl
@[simp] theorem State.setBay_lastReply (b : BayNo) (x : Bay) : (s.setBay b x).lastReply = s.lastReply := rfl
@[simp] theorem State.setBay_pending (b : BayNo) (x : Bay) : (s.setBay b x).pending = s.pending := rfl
@[simp] theorem State.setBay_gather (b : BayNo) (x : Bay) (j : GatherNo) : (s.setBay b x).gather j = s.gather j := rfl
@[simp] theorem State.setBay_profile (b : BayNo) (x : Bay) (q : ProfileNo) : (s.setBay b x).profile q = s.profile q := rfl

/-! ### modBay -/

@[simp] theorem State.modBay_run (b : BayNo) (f : Bay → Bay) : (s.modBay b f).run = s.run := rfl
@[simp] theorem State.modBay_stopLine (b : BayNo) (f : Bay → Bay) : (s.modBay b f).stopLine = s.stopLine := rfl
@[simp] theorem State.modBay_stopFunction (b : BayNo) (f : Bay → Bay) : (s.modBay b f).stopFunction = s.stopFunction := rfl
@[simp] theorem State.modBay_clock (b : BayNo) (f : Bay → Bay) : (s.modBay b f).clock = s.clock := rfl
@[simp] theorem State.modBay_wakeTimeout (b : BayNo) (f : Bay → Bay) : (s.modBay b f).wakeTimeout = s.wakeTimeout := rfl
@[simp] theorem State.modBay_classMask (b : BayNo) (f : Bay → Bay) : (s.modBay b f).classMask = s.classMask := rfl
@[simp] theorem State.modBay_gatherSerial (b : BayNo) (f : Bay → Bay) : (s.modBay b f).gatherSerial = s.gatherSerial := rfl
@[simp] theorem State.modBay_startup (b : BayNo) (f : Bay → Bay) : (s.modBay b f).startup = s.startup := rfl
@[simp] theorem State.modBay_port (b : BayNo) (f : Bay → Bay) : (s.modBay b f).port = s.port := rfl
@[simp] theorem State.modBay_gathers (b : BayNo) (f : Bay → Bay) : (s.modBay b f).gathers = s.gathers := rfl
@[simp] theorem State.modBay_profiles (b : BayNo) (f : Bay → Bay) : (s.modBay b f).profiles = s.profiles := rfl
@[simp] theorem State.modBay_converter (b : BayNo) (f : Bay → Bay) : (s.modBay b f).converter = s.converter := rfl
@[simp] theorem State.modBay_lastGranted (b : BayNo) (f : Bay → Bay) : (s.modBay b f).lastGranted = s.lastGranted := rfl
@[simp] theorem State.modBay_calLock (b : BayNo) (f : Bay → Bay) : (s.modBay b f).calLock = s.calLock := rfl
@[simp] theorem State.modBay_railReads (b : BayNo) (f : Bay → Bay) : (s.modBay b f).railReads = s.railReads := rfl
@[simp] theorem State.modBay_cells (b : BayNo) (f : Bay → Bay) : (s.modBay b f).cells = s.cells := rfl
@[simp] theorem State.modBay_notices (b : BayNo) (f : Bay → Bay) : (s.modBay b f).notices = s.notices := rfl
@[simp] theorem State.modBay_lastReply (b : BayNo) (f : Bay → Bay) : (s.modBay b f).lastReply = s.lastReply := rfl
@[simp] theorem State.modBay_pending (b : BayNo) (f : Bay → Bay) : (s.modBay b f).pending = s.pending := rfl
@[simp] theorem State.modBay_gather (b : BayNo) (f : Bay → Bay) (j : GatherNo) : (s.modBay b f).gather j = s.gather j := rfl
@[simp] theorem State.modBay_profile (b : BayNo) (f : Bay → Bay) (q : ProfileNo) : (s.modBay b f).profile q = s.profile q := rfl

/-! ### setGather -/

@[simp] theorem State.setGather_run (i : GatherNo) (g : Gather) : (s.setGather i g).run = s.run := rfl
@[simp] theorem State.setGather_stopLine (i : GatherNo) (g : Gather) : (s.setGather i g).stopLine = s.stopLine := rfl
@[simp] theorem State.setGather_stopFunction (i : GatherNo) (g : Gather) : (s.setGather i g).stopFunction = s.stopFunction := rfl
@[simp] theorem State.setGather_clock (i : GatherNo) (g : Gather) : (s.setGather i g).clock = s.clock := rfl
@[simp] theorem State.setGather_wakeTimeout (i : GatherNo) (g : Gather) : (s.setGather i g).wakeTimeout = s.wakeTimeout := rfl
@[simp] theorem State.setGather_classMask (i : GatherNo) (g : Gather) : (s.setGather i g).classMask = s.classMask := rfl
@[simp] theorem State.setGather_gatherSerial (i : GatherNo) (g : Gather) : (s.setGather i g).gatherSerial = s.gatherSerial := rfl
@[simp] theorem State.setGather_startup (i : GatherNo) (g : Gather) : (s.setGather i g).startup = s.startup := rfl
@[simp] theorem State.setGather_port (i : GatherNo) (g : Gather) : (s.setGather i g).port = s.port := rfl
@[simp] theorem State.setGather_bays (i : GatherNo) (g : Gather) : (s.setGather i g).bays = s.bays := rfl
@[simp] theorem State.setGather_profiles (i : GatherNo) (g : Gather) : (s.setGather i g).profiles = s.profiles := rfl
@[simp] theorem State.setGather_converter (i : GatherNo) (g : Gather) : (s.setGather i g).converter = s.converter := rfl
@[simp] theorem State.setGather_lastGranted (i : GatherNo) (g : Gather) : (s.setGather i g).lastGranted = s.lastGranted := rfl
@[simp] theorem State.setGather_calLock (i : GatherNo) (g : Gather) : (s.setGather i g).calLock = s.calLock := rfl
@[simp] theorem State.setGather_railReads (i : GatherNo) (g : Gather) : (s.setGather i g).railReads = s.railReads := rfl
@[simp] theorem State.setGather_cells (i : GatherNo) (g : Gather) : (s.setGather i g).cells = s.cells := rfl
@[simp] theorem State.setGather_notices (i : GatherNo) (g : Gather) : (s.setGather i g).notices = s.notices := rfl
@[simp] theorem State.setGather_lastReply (i : GatherNo) (g : Gather) : (s.setGather i g).lastReply = s.lastReply := rfl
@[simp] theorem State.setGather_pending (i : GatherNo) (g : Gather) : (s.setGather i g).pending = s.pending := rfl
@[simp] theorem State.setGather_bay (i : GatherNo) (g : Gather) (c : BayNo) : (s.setGather i g).bay c = s.bay c := rfl
@[simp] theorem State.setGather_profile (i : GatherNo) (g : Gather) (q : ProfileNo) : (s.setGather i g).profile q = s.profile q := rfl

/-! ### modGather -/

@[simp] theorem State.modGather_run (i : GatherNo) (f : Gather → Gather) : (s.modGather i f).run = s.run := rfl
@[simp] theorem State.modGather_stopLine (i : GatherNo) (f : Gather → Gather) : (s.modGather i f).stopLine = s.stopLine := rfl
@[simp] theorem State.modGather_stopFunction (i : GatherNo) (f : Gather → Gather) : (s.modGather i f).stopFunction = s.stopFunction := rfl
@[simp] theorem State.modGather_clock (i : GatherNo) (f : Gather → Gather) : (s.modGather i f).clock = s.clock := rfl
@[simp] theorem State.modGather_wakeTimeout (i : GatherNo) (f : Gather → Gather) : (s.modGather i f).wakeTimeout = s.wakeTimeout := rfl
@[simp] theorem State.modGather_classMask (i : GatherNo) (f : Gather → Gather) : (s.modGather i f).classMask = s.classMask := rfl
@[simp] theorem State.modGather_gatherSerial (i : GatherNo) (f : Gather → Gather) : (s.modGather i f).gatherSerial = s.gatherSerial := rfl
@[simp] theorem State.modGather_startup (i : GatherNo) (f : Gather → Gather) : (s.modGather i f).startup = s.startup := rfl
@[simp] theorem State.modGather_port (i : GatherNo) (f : Gather → Gather) : (s.modGather i f).port = s.port := rfl
@[simp] theorem State.modGather_bays (i : GatherNo) (f : Gather → Gather) : (s.modGather i f).bays = s.bays := rfl
@[simp] theorem State.modGather_profiles (i : GatherNo) (f : Gather → Gather) : (s.modGather i f).profiles = s.profiles := rfl
@[simp] theorem State.modGather_converter (i : GatherNo) (f : Gather → Gather) : (s.modGather i f).converter = s.converter := rfl
@[simp] theorem State.modGather_lastGranted (i : GatherNo) (f : Gather → Gather) : (s.modGather i f).lastGranted = s.lastGranted := rfl
@[simp] theorem State.modGather_calLock (i : GatherNo) (f : Gather → Gather) : (s.modGather i f).calLock = s.calLock := rfl
@[simp] theorem State.modGather_railReads (i : GatherNo) (f : Gather → Gather) : (s.modGather i f).railReads = s.railReads := rfl
@[simp] theorem State.modGather_cells (i : GatherNo) (f : Gather → Gather) : (s.modGather i f).cells = s.cells := rfl
@[simp] theorem State.modGather_notices (i : GatherNo) (f : Gather → Gather) : (s.modGather i f).notices = s.notices := rfl
@[simp] theorem State.modGather_lastReply (i : GatherNo) (f : Gather → Gather) : (s.modGather i f).lastReply = s.lastReply := rfl
@[simp] theorem State.modGather_pending (i : GatherNo) (f : Gather → Gather) : (s.modGather i f).pending = s.pending := rfl
@[simp] theorem State.modGather_bay (i : GatherNo) (f : Gather → Gather) (c : BayNo) : (s.modGather i f).bay c = s.bay c := rfl
@[simp] theorem State.modGather_profile (i : GatherNo) (f : Gather → Gather) (q : ProfileNo) : (s.modGather i f).profile q = s.profile q := rfl

/-! ### setProfile -/

@[simp] theorem State.setProfile_run (p : ProfileNo) (x : Profile) : (s.setProfile p x).run = s.run := rfl
@[simp] theorem State.setProfile_stopLine (p : ProfileNo) (x : Profile) : (s.setProfile p x).stopLine = s.stopLine := rfl
@[simp] theorem State.setProfile_stopFunction (p : ProfileNo) (x : Profile) : (s.setProfile p x).stopFunction = s.stopFunction := rfl
@[simp] theorem State.setProfile_clock (p : ProfileNo) (x : Profile) : (s.setProfile p x).clock = s.clock := rfl
@[simp] theorem State.setProfile_wakeTimeout (p : ProfileNo) (x : Profile) : (s.setProfile p x).wakeTimeout = s.wakeTimeout := rfl
@[simp] theorem State.setProfile_classMask (p : ProfileNo) (x : Profile) : (s.setProfile p x).classMask = s.classMask := rfl
@[simp] theorem State.setProfile_gatherSerial (p : ProfileNo) (x : Profile) : (s.setProfile p x).gatherSerial = s.gatherSerial := rfl
@[simp] theorem State.setProfile_startup (p : ProfileNo) (x : Profile) : (s.setProfile p x).startup = s.startup := rfl
@[simp] theorem State.setProfile_port (p : ProfileNo) (x : Profile) : (s.setProfile p x).port = s.port := rfl
@[simp] theorem State.setProfile_bays (p : ProfileNo) (x : Profile) : (s.setProfile p x).bays = s.bays := rfl
@[simp] theorem State.setProfile_gathers (p : ProfileNo) (x : Profile) : (s.setProfile p x).gathers = s.gathers := rfl
@[simp] theorem State.setProfile_converter (p : ProfileNo) (x : Profile) : (s.setProfile p x).converter = s.converter := rfl
@[simp] theorem State.setProfile_lastGranted (p : ProfileNo) (x : Profile) : (s.setProfile p x).lastGranted = s.lastGranted := rfl
@[simp] theorem State.setProfile_calLock (p : ProfileNo) (x : Profile) : (s.setProfile p x).calLock = s.calLock := rfl
@[simp] theorem State.setProfile_railReads (p : ProfileNo) (x : Profile) : (s.setProfile p x).railReads = s.railReads := rfl
@[simp] theorem State.setProfile_cells (p : ProfileNo) (x : Profile) : (s.setProfile p x).cells = s.cells := rfl
@[simp] theorem State.setProfile_notices (p : ProfileNo) (x : Profile) : (s.setProfile p x).notices = s.notices := rfl
@[simp] theorem State.setProfile_lastReply (p : ProfileNo) (x : Profile) : (s.setProfile p x).lastReply = s.lastReply := rfl
@[simp] theorem State.setProfile_pending (p : ProfileNo) (x : Profile) : (s.setProfile p x).pending = s.pending := rfl
@[simp] theorem State.setProfile_bay (p : ProfileNo) (x : Profile) (c : BayNo) : (s.setProfile p x).bay c = s.bay c := rfl
@[simp] theorem State.setProfile_gather (p : ProfileNo) (x : Profile) (j : GatherNo) : (s.setProfile p x).gather j = s.gather j := rfl

/-! ### modProfile -/

@[simp] theorem State.modProfile_run (p : ProfileNo) (f : Profile → Profile) : (s.modProfile p f).run = s.run := rfl
@[simp] theorem State.modProfile_stopLine (p : ProfileNo) (f : Profile → Profile) : (s.modProfile p f).stopLine = s.stopLine := rfl
@[simp] theorem State.modProfile_stopFunction (p : ProfileNo) (f : Profile → Profile) : (s.modProfile p f).stopFunction = s.stopFunction := rfl
@[simp] theorem State.modProfile_clock (p : ProfileNo) (f : Profile → Profile) : (s.modProfile p f).clock = s.clock := rfl
@[simp] theorem State.modProfile_wakeTimeout (p : ProfileNo) (f : Profile → Profile) : (s.modProfile p f).wakeTimeout = s.wakeTimeout := rfl
@[simp] theorem State.modProfile_classMask (p : ProfileNo) (f : Profile → Profile) : (s.modProfile p f).classMask = s.classMask := rfl
@[simp] theorem State.modProfile_gatherSerial (p : ProfileNo) (f : Profile → Profile) : (s.modProfile p f).gatherSerial = s.gatherSerial := rfl
@[simp] theorem State.modProfile_startup (p : ProfileNo) (f : Profile → Profile) : (s.modProfile p f).startup = s.startup := rfl
@[simp] theorem State.modProfile_port (p : ProfileNo) (f : Profile → Profile) : (s.modProfile p f).port = s.port := rfl
@[simp] theorem State.modProfile_bays (p : ProfileNo) (f : Profile → Profile) : (s.modProfile p f).bays = s.bays := rfl
@[simp] theorem State.modProfile_gathers (p : ProfileNo) (f : Profile → Profile) : (s.modProfile p f).gathers = s.gathers := rfl
@[simp] theorem State.modProfile_converter (p : ProfileNo) (f : Profile → Profile) : (s.modProfile p f).converter = s.converter := rfl
@[simp] theorem State.modProfile_lastGranted (p : ProfileNo) (f : Profile → Profile) : (s.modProfile p f).lastGranted = s.lastGranted := rfl
@[simp] theorem State.modProfile_calLock (p : ProfileNo) (f : Profile → Profile) : (s.modProfile p f).calLock = s.calLock := rfl
@[simp] theorem State.modProfile_railReads (p : ProfileNo) (f : Profile → Profile) : (s.modProfile p f).railReads = s.railReads := rfl
@[simp] theorem State.modProfile_cells (p : ProfileNo) (f : Profile → Profile) : (s.modProfile p f).cells = s.cells := rfl
@[simp] theorem State.modProfile_notices (p : ProfileNo) (f : Profile → Profile) : (s.modProfile p f).notices = s.notices := rfl
@[simp] theorem State.modProfile_lastReply (p : ProfileNo) (f : Profile → Profile) : (s.modProfile p f).lastReply = s.lastReply := rfl
@[simp] theorem State.modProfile_pending (p : ProfileNo) (f : Profile → Profile) : (s.modProfile p f).pending = s.pending := rfl
@[simp] theorem State.modProfile_bay (p : ProfileNo) (f : Profile → Profile) (c : BayNo) : (s.modProfile p f).bay c = s.bay c := rfl
@[simp] theorem State.modProfile_gather (p : ProfileNo) (f : Profile → Profile) (j : GatherNo) : (s.modProfile p f).gather j = s.gather j := rfl

/-! ### modPort -/

@[simp] theorem State.modPort_run (f : Port → Port) : (s.modPort f).run = s.run := rfl
@[simp] theorem State.modPort_stopLine (f : Port → Port) : (s.modPort f).stopLine = s.stopLine := rfl
@[simp] theorem State.modPort_stopFunction (f : Port → Port) : (s.modPort f).stopFunction = s.stopFunction := rfl
@[simp] theorem State.modPort_clock (f : Port → Port) : (s.modPort f).clock = s.clock := rfl
@[simp] theorem State.modPort_wakeTimeout (f : Port → Port) : (s.modPort f).wakeTimeout = s.wakeTimeout := rfl
@[simp] theorem State.modPort_classMask (f : Port → Port) : (s.modPort f).classMask = s.classMask := rfl
@[simp] theorem State.modPort_gatherSerial (f : Port → Port) : (s.modPort f).gatherSerial = s.gatherSerial := rfl
@[simp] theorem State.modPort_startup (f : Port → Port) : (s.modPort f).startup = s.startup := rfl
@[simp] theorem State.modPort_bays (f : Port → Port) : (s.modPort f).bays = s.bays := rfl
@[simp] theorem State.modPort_gathers (f : Port → Port) : (s.modPort f).gathers = s.gathers := rfl
@[simp] theorem State.modPort_profiles (f : Port → Port) : (s.modPort f).profiles = s.profiles := rfl
@[simp] theorem State.modPort_converter (f : Port → Port) : (s.modPort f).converter = s.converter := rfl
@[simp] theorem State.modPort_lastGranted (f : Port → Port) : (s.modPort f).lastGranted = s.lastGranted := rfl
@[simp] theorem State.modPort_calLock (f : Port → Port) : (s.modPort f).calLock = s.calLock := rfl
@[simp] theorem State.modPort_railReads (f : Port → Port) : (s.modPort f).railReads = s.railReads := rfl
@[simp] theorem State.modPort_cells (f : Port → Port) : (s.modPort f).cells = s.cells := rfl
@[simp] theorem State.modPort_notices (f : Port → Port) : (s.modPort f).notices = s.notices := rfl
@[simp] theorem State.modPort_lastReply (f : Port → Port) : (s.modPort f).lastReply = s.lastReply := rfl
@[simp] theorem State.modPort_pending (f : Port → Port) : (s.modPort f).pending = s.pending := rfl
@[simp] theorem State.modPort_bay (f : Port → Port) (c : BayNo) : (s.modPort f).bay c = s.bay c := rfl
@[simp] theorem State.modPort_gather (f : Port → Port) (j : GatherNo) : (s.modPort f).gather j = s.gather j := rfl
@[simp] theorem State.modPort_profile (f : Port → Port) (q : ProfileNo) : (s.modPort f).profile q = s.profile q := rfl

/-! ### clearNotice -/

@[simp] theorem State.clearNotice_run (p : Place) : (s.clearNotice p).run = s.run := rfl
@[simp] theorem State.clearNotice_stopLine (p : Place) : (s.clearNotice p).stopLine = s.stopLine := rfl
@[simp] theorem State.clearNotice_stopFunction (p : Place) : (s.clearNotice p).stopFunction = s.stopFunction := rfl
@[simp] theorem State.clearNotice_clock (p : Place) : (s.clearNotice p).clock = s.clock := rfl
@[simp] theorem State.clearNotice_wakeTimeout (p : Place) : (s.clearNotice p).wakeTimeout = s.wakeTimeout := rfl
@[simp] theorem State.clearNotice_classMask (p : Place) : (s.clearNotice p).classMask = s.classMask := rfl
@[simp] theorem State.clearNotice_gatherSerial (p : Place) : (s.clearNotice p).gatherSerial = s.gatherSerial := rfl
@[simp] theorem State.clearNotice_startup (p : Place) : (s.clearNotice p).startup = s.startup := rfl
@[simp] theorem State.clearNotice_port (p : Place) : (s.clearNotice p).port = s.port := rfl
@[simp] theorem State.clearNotice_bays (p : Place) : (s.clearNotice p).bays = s.bays := rfl
@[simp] theorem State.clearNotice_gathers (p : Place) : (s.clearNotice p).gathers = s.gathers := rfl
@[simp] theorem State.clearNotice_profiles (p : Place) : (s.clearNotice p).profiles = s.profiles := rfl
@[simp] theorem State.clearNotice_converter (p : Place) : (s.clearNotice p).converter = s.converter := rfl
@[simp] theorem State.clearNotice_lastGranted (p : Place) : (s.clearNotice p).lastGranted = s.lastGranted := rfl
@[simp] theorem State.clearNotice_calLock (p : Place) : (s.clearNotice p).calLock = s.calLock := rfl
@[simp] theorem State.clearNotice_railReads (p : Place) : (s.clearNotice p).railReads = s.railReads := rfl
@[simp] theorem State.clearNotice_cells (p : Place) : (s.clearNotice p).cells = s.cells := rfl
@[simp] theorem State.clearNotice_lastReply (p : Place) : (s.clearNotice p).lastReply = s.lastReply := rfl
@[simp] theorem State.clearNotice_pending (p : Place) : (s.clearNotice p).pending = s.pending := rfl
@[simp] theorem State.clearNotice_bay (p : Place) (c : BayNo) : (s.clearNotice p).bay c = s.bay c := rfl
@[simp] theorem State.clearNotice_gather (p : Place) (j : GatherNo) : (s.clearNotice p).gather j = s.gather j := rfl
@[simp] theorem State.clearNotice_profile (p : Place) (q : ProfileNo) : (s.clearNotice p).profile q = s.profile q := rfl

/-! ### ringFullRises -/

@[simp] theorem State.ringFullRises_run (b : BayNo) : (s.ringFullRises b).run = s.run := rfl
@[simp] theorem State.ringFullRises_stopLine (b : BayNo) : (s.ringFullRises b).stopLine = s.stopLine := rfl
@[simp] theorem State.ringFullRises_stopFunction (b : BayNo) : (s.ringFullRises b).stopFunction = s.stopFunction := rfl
@[simp] theorem State.ringFullRises_clock (b : BayNo) : (s.ringFullRises b).clock = s.clock := rfl
@[simp] theorem State.ringFullRises_wakeTimeout (b : BayNo) : (s.ringFullRises b).wakeTimeout = s.wakeTimeout := rfl
@[simp] theorem State.ringFullRises_classMask (b : BayNo) : (s.ringFullRises b).classMask = s.classMask := rfl
@[simp] theorem State.ringFullRises_gatherSerial (b : BayNo) : (s.ringFullRises b).gatherSerial = s.gatherSerial := rfl
@[simp] theorem State.ringFullRises_startup (b : BayNo) : (s.ringFullRises b).startup = s.startup := rfl
@[simp] theorem State.ringFullRises_port (b : BayNo) : (s.ringFullRises b).port = s.port := rfl
@[simp] theorem State.ringFullRises_bays (b : BayNo) : (s.ringFullRises b).bays = s.bays := rfl
@[simp] theorem State.ringFullRises_gathers (b : BayNo) : (s.ringFullRises b).gathers = s.gathers := rfl
@[simp] theorem State.ringFullRises_profiles (b : BayNo) : (s.ringFullRises b).profiles = s.profiles := rfl
@[simp] theorem State.ringFullRises_converter (b : BayNo) : (s.ringFullRises b).converter = s.converter := rfl
@[simp] theorem State.ringFullRises_lastGranted (b : BayNo) : (s.ringFullRises b).lastGranted = s.lastGranted := rfl
@[simp] theorem State.ringFullRises_calLock (b : BayNo) : (s.ringFullRises b).calLock = s.calLock := rfl
@[simp] theorem State.ringFullRises_railReads (b : BayNo) : (s.ringFullRises b).railReads = s.railReads := rfl
@[simp] theorem State.ringFullRises_cells (b : BayNo) : (s.ringFullRises b).cells = s.cells := rfl
@[simp] theorem State.ringFullRises_lastReply (b : BayNo) : (s.ringFullRises b).lastReply = s.lastReply := rfl
@[simp] theorem State.ringFullRises_pending (b : BayNo) : (s.ringFullRises b).pending = s.pending := rfl
@[simp] theorem State.ringFullRises_bay (b : BayNo) (c : BayNo) : (s.ringFullRises b).bay c = s.bay c := rfl
@[simp] theorem State.ringFullRises_gather (b : BayNo) (j : GatherNo) : (s.ringFullRises b).gather j = s.gather j := rfl
@[simp] theorem State.ringFullRises_profile (b : BayNo) (q : ProfileNo) : (s.ringFullRises b).profile q = s.profile q := rfl

/-! ### ringFullFalls -/

@[simp] theorem State.ringFullFalls_run (b : BayNo) : (s.ringFullFalls b).run = s.run := rfl
@[simp] theorem State.ringFullFalls_stopLine (b : BayNo) : (s.ringFullFalls b).stopLine = s.stopLine := rfl
@[simp] theorem State.ringFullFalls_stopFunction (b : BayNo) : (s.ringFullFalls b).stopFunction = s.stopFunction := rfl
@[simp] theorem State.ringFullFalls_clock (b : BayNo) : (s.ringFullFalls b).clock = s.clock := rfl
@[simp] theorem State.ringFullFalls_wakeTimeout (b : BayNo) : (s.ringFullFalls b).wakeTimeout = s.wakeTimeout := rfl
@[simp] theorem State.ringFullFalls_classMask (b : BayNo) : (s.ringFullFalls b).classMask = s.classMask := rfl
@[simp] theorem State.ringFullFalls_gatherSerial (b : BayNo) : (s.ringFullFalls b).gatherSerial = s.gatherSerial := rfl
@[simp] theorem State.ringFullFalls_startup (b : BayNo) : (s.ringFullFalls b).startup = s.startup := rfl
@[simp] theorem State.ringFullFalls_port (b : BayNo) : (s.ringFullFalls b).port = s.port := rfl
@[simp] theorem State.ringFullFalls_bays (b : BayNo) : (s.ringFullFalls b).bays = s.bays := rfl
@[simp] theorem State.ringFullFalls_gathers (b : BayNo) : (s.ringFullFalls b).gathers = s.gathers := rfl
@[simp] theorem State.ringFullFalls_profiles (b : BayNo) : (s.ringFullFalls b).profiles = s.profiles := rfl
@[simp] theorem State.ringFullFalls_converter (b : BayNo) : (s.ringFullFalls b).converter = s.converter := rfl
@[simp] theorem State.ringFullFalls_lastGranted (b : BayNo) : (s.ringFullFalls b).lastGranted = s.lastGranted := rfl
@[simp] theorem State.ringFullFalls_calLock (b : BayNo) : (s.ringFullFalls b).calLock = s.calLock := rfl
@[simp] theorem State.ringFullFalls_railReads (b : BayNo) : (s.ringFullFalls b).railReads = s.railReads := rfl
@[simp] theorem State.ringFullFalls_cells (b : BayNo) : (s.ringFullFalls b).cells = s.cells := rfl
@[simp] theorem State.ringFullFalls_lastReply (b : BayNo) : (s.ringFullFalls b).lastReply = s.lastReply := rfl
@[simp] theorem State.ringFullFalls_pending (b : BayNo) : (s.ringFullFalls b).pending = s.pending := rfl
@[simp] theorem State.ringFullFalls_bay (b : BayNo) (c : BayNo) : (s.ringFullFalls b).bay c = s.bay c := rfl
@[simp] theorem State.ringFullFalls_gather (b : BayNo) (j : GatherNo) : (s.ringFullFalls b).gather j = s.gather j := rfl
@[simp] theorem State.ringFullFalls_profile (b : BayNo) (q : ProfileNo) : (s.ringFullFalls b).profile q = s.profile q := rfl

/-! ### tunnelInRises -/

@[simp] theorem State.tunnelInRises_run (b : BayNo) : (s.tunnelInRises b).run = s.run := rfl
@[simp] theorem State.tunnelInRises_stopLine (b : BayNo) : (s.tunnelInRises b).stopLine = s.stopLine := rfl
@[simp] theorem State.tunnelInRises_stopFunction (b : BayNo) : (s.tunnelInRises b).stopFunction = s.stopFunction := rfl
@[simp] theorem State.tunnelInRises_clock (b : BayNo) : (s.tunnelInRises b).clock = s.clock := rfl
@[simp] theorem State.tunnelInRises_wakeTimeout (b : BayNo) : (s.tunnelInRises b).wakeTimeout = s.wakeTimeout := rfl
@[simp] theorem State.tunnelInRises_classMask (b : BayNo) : (s.tunnelInRises b).classMask = s.classMask := rfl
@[simp] theorem State.tunnelInRises_gatherSerial (b : BayNo) : (s.tunnelInRises b).gatherSerial = s.gatherSerial := rfl
@[simp] theorem State.tunnelInRises_startup (b : BayNo) : (s.tunnelInRises b).startup = s.startup := rfl
@[simp] theorem State.tunnelInRises_port (b : BayNo) : (s.tunnelInRises b).port = s.port := rfl
@[simp] theorem State.tunnelInRises_bays (b : BayNo) : (s.tunnelInRises b).bays = s.bays := rfl
@[simp] theorem State.tunnelInRises_gathers (b : BayNo) : (s.tunnelInRises b).gathers = s.gathers := rfl
@[simp] theorem State.tunnelInRises_profiles (b : BayNo) : (s.tunnelInRises b).profiles = s.profiles := rfl
@[simp] theorem State.tunnelInRises_converter (b : BayNo) : (s.tunnelInRises b).converter = s.converter := rfl
@[simp] theorem State.tunnelInRises_lastGranted (b : BayNo) : (s.tunnelInRises b).lastGranted = s.lastGranted := rfl
@[simp] theorem State.tunnelInRises_calLock (b : BayNo) : (s.tunnelInRises b).calLock = s.calLock := rfl
@[simp] theorem State.tunnelInRises_railReads (b : BayNo) : (s.tunnelInRises b).railReads = s.railReads := rfl
@[simp] theorem State.tunnelInRises_cells (b : BayNo) : (s.tunnelInRises b).cells = s.cells := rfl
@[simp] theorem State.tunnelInRises_lastReply (b : BayNo) : (s.tunnelInRises b).lastReply = s.lastReply := rfl
@[simp] theorem State.tunnelInRises_pending (b : BayNo) : (s.tunnelInRises b).pending = s.pending := rfl
@[simp] theorem State.tunnelInRises_bay (b : BayNo) (c : BayNo) : (s.tunnelInRises b).bay c = s.bay c := rfl
@[simp] theorem State.tunnelInRises_gather (b : BayNo) (j : GatherNo) : (s.tunnelInRises b).gather j = s.gather j := rfl
@[simp] theorem State.tunnelInRises_profile (b : BayNo) (q : ProfileNo) : (s.tunnelInRises b).profile q = s.profile q := rfl

/-! ### tunnelInFalls -/

@[simp] theorem State.tunnelInFalls_run (b : BayNo) : (s.tunnelInFalls b).run = s.run := rfl
@[simp] theorem State.tunnelInFalls_stopLine (b : BayNo) : (s.tunnelInFalls b).stopLine = s.stopLine := rfl
@[simp] theorem State.tunnelInFalls_stopFunction (b : BayNo) : (s.tunnelInFalls b).stopFunction = s.stopFunction := rfl
@[simp] theorem State.tunnelInFalls_clock (b : BayNo) : (s.tunnelInFalls b).clock = s.clock := rfl
@[simp] theorem State.tunnelInFalls_wakeTimeout (b : BayNo) : (s.tunnelInFalls b).wakeTimeout = s.wakeTimeout := rfl
@[simp] theorem State.tunnelInFalls_classMask (b : BayNo) : (s.tunnelInFalls b).classMask = s.classMask := rfl
@[simp] theorem State.tunnelInFalls_gatherSerial (b : BayNo) : (s.tunnelInFalls b).gatherSerial = s.gatherSerial := rfl
@[simp] theorem State.tunnelInFalls_startup (b : BayNo) : (s.tunnelInFalls b).startup = s.startup := rfl
@[simp] theorem State.tunnelInFalls_port (b : BayNo) : (s.tunnelInFalls b).port = s.port := rfl
@[simp] theorem State.tunnelInFalls_bays (b : BayNo) : (s.tunnelInFalls b).bays = s.bays := rfl
@[simp] theorem State.tunnelInFalls_gathers (b : BayNo) : (s.tunnelInFalls b).gathers = s.gathers := rfl
@[simp] theorem State.tunnelInFalls_profiles (b : BayNo) : (s.tunnelInFalls b).profiles = s.profiles := rfl
@[simp] theorem State.tunnelInFalls_converter (b : BayNo) : (s.tunnelInFalls b).converter = s.converter := rfl
@[simp] theorem State.tunnelInFalls_lastGranted (b : BayNo) : (s.tunnelInFalls b).lastGranted = s.lastGranted := rfl
@[simp] theorem State.tunnelInFalls_calLock (b : BayNo) : (s.tunnelInFalls b).calLock = s.calLock := rfl
@[simp] theorem State.tunnelInFalls_railReads (b : BayNo) : (s.tunnelInFalls b).railReads = s.railReads := rfl
@[simp] theorem State.tunnelInFalls_cells (b : BayNo) : (s.tunnelInFalls b).cells = s.cells := rfl
@[simp] theorem State.tunnelInFalls_lastReply (b : BayNo) : (s.tunnelInFalls b).lastReply = s.lastReply := rfl
@[simp] theorem State.tunnelInFalls_pending (b : BayNo) : (s.tunnelInFalls b).pending = s.pending := rfl
@[simp] theorem State.tunnelInFalls_bay (b : BayNo) (c : BayNo) : (s.tunnelInFalls b).bay c = s.bay c := rfl
@[simp] theorem State.tunnelInFalls_gather (b : BayNo) (j : GatherNo) : (s.tunnelInFalls b).gather j = s.gather j := rfl
@[simp] theorem State.tunnelInFalls_profile (b : BayNo) (q : ProfileNo) : (s.tunnelInFalls b).profile q = s.profile q := rfl

/-! ### raise -/

@[simp] theorem State.raise_run (p : Place) : (s.raise p).run = s.run := by unfold State.raise; split <;> rfl
@[simp] theorem State.raise_stopLine (p : Place) : (s.raise p).stopLine = s.stopLine := by unfold State.raise; split <;> rfl
@[simp] theorem State.raise_stopFunction (p : Place) : (s.raise p).stopFunction = s.stopFunction := by unfold State.raise; split <;> rfl
@[simp] theorem State.raise_clock (p : Place) : (s.raise p).clock = s.clock := by unfold State.raise; split <;> rfl
@[simp] theorem State.raise_wakeTimeout (p : Place) : (s.raise p).wakeTimeout = s.wakeTimeout := by unfold State.raise; split <;> rfl
@[simp] theorem State.raise_classMask (p : Place) : (s.raise p).classMask = s.classMask := by unfold State.raise; split <;> rfl
@[simp] theorem State.raise_gatherSerial (p : Place) : (s.raise p).gatherSerial = s.gatherSerial := by unfold State.raise; split <;> rfl
@[simp] theorem State.raise_startup (p : Place) : (s.raise p).startup = s.startup := by unfold State.raise; split <;> rfl
@[simp] theorem State.raise_port (p : Place) : (s.raise p).port = s.port := by unfold State.raise; split <;> rfl
@[simp] theorem State.raise_bays (p : Place) : (s.raise p).bays = s.bays := by unfold State.raise; split <;> rfl
@[simp] theorem State.raise_gathers (p : Place) : (s.raise p).gathers = s.gathers := by unfold State.raise; split <;> rfl
@[simp] theorem State.raise_profiles (p : Place) : (s.raise p).profiles = s.profiles := by unfold State.raise; split <;> rfl
@[simp] theorem State.raise_converter (p : Place) : (s.raise p).converter = s.converter := by unfold State.raise; split <;> rfl
@[simp] theorem State.raise_lastGranted (p : Place) : (s.raise p).lastGranted = s.lastGranted := by unfold State.raise; split <;> rfl
@[simp] theorem State.raise_calLock (p : Place) : (s.raise p).calLock = s.calLock := by unfold State.raise; split <;> rfl
@[simp] theorem State.raise_railReads (p : Place) : (s.raise p).railReads = s.railReads := by unfold State.raise; split <;> rfl
@[simp] theorem State.raise_cells (p : Place) : (s.raise p).cells = s.cells := by unfold State.raise; split <;> rfl
@[simp] theorem State.raise_lastReply (p : Place) : (s.raise p).lastReply = s.lastReply := by unfold State.raise; split <;> rfl
@[simp] theorem State.raise_pending (p : Place) : (s.raise p).pending = s.pending := by unfold State.raise; split <;> rfl
@[simp] theorem State.raise_bay (p : Place) (c : BayNo) : (s.raise p).bay c = s.bay c := by unfold State.raise; split <;> rfl
@[simp] theorem State.raise_gather (p : Place) (j : GatherNo) : (s.raise p).gather j = s.gather j := by unfold State.raise; split <;> rfl
@[simp] theorem State.raise_profile (p : Place) (q : ProfileNo) : (s.raise p).profile q = s.profile q := by unfold State.raise; split <;> rfl

/-! ### The tables read back -/

/-- Reading a vector at the place just set, and at any other place. -/
theorem vector_get_set {α : Type} {n : Nat} (v : Vector α n) (i j : Fin n) (x : α) :
    (v.set i x).get j = if i = j then x else v.get j := by
  simp only [Vector.get_eq_getElem, Vector.getElem_set, Fin.ext_iff]

@[simp] theorem State.bay_setBay (b c : BayNo) (x : Bay) :
    (s.setBay b x).bay c = if b = c then x else s.bay c := vector_get_set ..

@[simp] theorem State.bay_modBay (b c : BayNo) (f : Bay → Bay) :
    (s.modBay b f).bay c = if b = c then f (s.bay b) else s.bay c := vector_get_set ..

@[simp] theorem State.gather_setGather (i j : GatherNo) (g : Gather) :
    (s.setGather i g).gather j = if i = j then g else s.gather j := vector_get_set ..

@[simp] theorem State.gather_modGather (i j : GatherNo) (f : Gather → Gather) :
    (s.modGather i f).gather j = if i = j then f (s.gather i) else s.gather j := vector_get_set ..

@[simp] theorem State.profile_setProfile (p q : ProfileNo) (x : Profile) :
    (s.setProfile p x).profile q = if p = q then x else s.profile q := vector_get_set ..

@[simp] theorem State.profile_modProfile (p q : ProfileNo) (f : Profile → Profile) :
    (s.modProfile p f).profile q = if p = q then f (s.profile p) else s.profile q := vector_get_set ..

@[simp] theorem Gather.slot_setSlot (g : Gather) (b c : BayNo) (x : Slot) :
    (g.setSlot b x).slot c = if b = c then x else g.slot c := vector_get_set ..

theorem State.bay_eq_get (b : BayNo) : s.bay b = s.bays.get b := rfl

theorem State.gather_eq_get (i : GatherNo) : s.gather i = s.gathers.get i := rfl

theorem State.profile_eq_get (p : ProfileNo) : s.profile p = s.profiles.get p := rfl

theorem Gather.slot_eq_get (g : Gather) (b : BayNo) : g.slot b = g.slots.get b := rfl

/-- Two states with equal bays at every index have equal tables of bays; the same for gathers. -/
theorem State.bays_ext {s t : State} (h : ∀ b, s.bay b = t.bay b) : s.bays = t.bays :=
  Vector.ext fun i hi => by simpa [State.bay, Vector.get_eq_getElem] using h ⟨i, hi⟩

theorem State.gathers_ext {s t : State} (h : ∀ i, s.gather i = t.gather i) : s.gathers = t.gathers :=
  Vector.ext fun i hi => by simpa [State.gather, Vector.get_eq_getElem] using h ⟨i, hi⟩

theorem mem_allBays (b : BayNo) : b ∈ allBays := by revert b; decide

theorem mem_allGathers (i : GatherNo) : i ∈ allGathers := by revert i; decide

theorem allBays_nodup : allBays.Nodup := by decide

theorem allGathers_nodup : allGathers.Nodup := by decide

/-! ### Parts of a gather and of a bay -/

@[simp] theorem Gather.setSlot_state (g : Gather) (b : BayNo) (x : Slot) : (g.setSlot b x).state = g.state := rfl
@[simp] theorem Gather.setSlot_serial (g : Gather) (b : BayNo) (x : Slot) : (g.setSlot b x).serial = g.serial := rfl
@[simp] theorem Gather.setSlot_bays (g : Gather) (b : BayNo) (x : Slot) : (g.setSlot b x).bays = g.bays := rfl
@[simp] theorem Gather.setSlot_command (g : Gather) (b : BayNo) (x : Slot) : (g.setSlot b x).command = g.command := rfl
@[simp] theorem Gather.setSlot_args (g : Gather) (b : BayNo) (x : Slot) : (g.setSlot b x).args = g.args := rfl
@[simp] theorem Gather.setSlot_profile (g : Gather) (b : BayNo) (x : Slot) : (g.setSlot b x).profile = g.profile := rfl
@[simp] theorem Gather.setSlot_failMask (g : Gather) (b : BayNo) (x : Slot) : (g.setSlot b x).failMask = g.failMask := rfl
@[simp] theorem Gather.setSlot_timeoutMs (g : Gather) (b : BayNo) (x : Slot) : (g.setSlot b x).timeoutMs = g.timeoutMs := rfl
@[simp] theorem Gather.setSlot_measure (g : Gather) (b : BayNo) (x : Slot) : (g.setSlot b x).measure = g.measure := rfl
@[simp] theorem Gather.setSlot_benchOnFail (g : Gather) (b : BayNo) (x : Slot) : (g.setSlot b x).benchOnFail = g.benchOnFail := rfl
@[simp] theorem Gather.setSlot_expectRestart (g : Gather) (b : BayNo) (x : Slot) : (g.setSlot b x).expectRestart = g.expectRestart := rfl
@[simp] theorem Gather.setSlot_cancelled (g : Gather) (b : BayNo) (x : Slot) : (g.setSlot b x).cancelled = g.cancelled := rfl
@[simp] theorem Gather.setSlot_aborted (g : Gather) (b : BayNo) (x : Slot) : (g.setSlot b x).aborted = g.aborted := rfl
@[simp] theorem Gather.setSlot_armTime (g : Gather) (b : BayNo) (x : Slot) : (g.setSlot b x).armTime = g.armTime := rfl
@[simp] theorem Gather.setSlot_firstSend (g : Gather) (b : BayNo) (x : Slot) : (g.setSlot b x).firstSend = g.firstSend := rfl
@[simp] theorem Gather.setSlot_lastFinal (g : Gather) (b : BayNo) (x : Slot) : (g.setSlot b x).lastFinal = g.lastFinal := rfl
@[simp] theorem Gather.setSlot_summary (g : Gather) (b : BayNo) (x : Slot) : (g.setSlot b x).summary = g.summary := rfl

@[simp] theorem Bay.modLink_state (x : Bay) (f : Link → Link) : (x.modLink f).state = x.state := rfl
@[simp] theorem Bay.modLink_contact (x : Bay) (f : Link → Link) : (x.modLink f).contact = x.contact := rfl
@[simp] theorem Bay.modLink_present (x : Bay) (f : Link → Link) : (x.modLink f).present = x.present := rfl
@[simp] theorem Bay.modLink_debounce (x : Bay) (f : Link → Link) : (x.modLink f).debounce = x.debounce := rfl
@[simp] theorem Bay.modLink_identity (x : Bay) (f : Link → Link) : (x.modLink f).identity = x.identity := rfl
@[simp] theorem Bay.modLink_signOns (x : Bay) (f : Link → Link) : (x.modLink f).signOns = x.signOns := rfl
@[simp] theorem Bay.modLink_link (x : Bay) (f : Link → Link) : (x.modLink f).link = f x.link := rfl
@[simp] theorem Bay.modLink_supply (x : Bay) (f : Link → Link) : (x.modLink f).supply = x.supply := rfl
@[simp] theorem Bay.modLink_queue (x : Bay) (f : Link → Link) : (x.modLink f).queue = x.queue := rfl
@[simp] theorem Bay.modLink_window (x : Bay) (f : Link → Link) : (x.modLink f).window = x.window := rfl
@[simp] theorem Bay.modLink_cal (x : Bay) (f : Link → Link) : (x.modLink f).cal = x.cal := rfl
@[simp] theorem Bay.modLink_ring (x : Bay) (f : Link → Link) : (x.modLink f).ring = x.ring := rfl

@[simp] theorem Bay.modSupply_state (x : Bay) (f : Supply → Supply) : (x.modSupply f).state = x.state := rfl
@[simp] theorem Bay.modSupply_contact (x : Bay) (f : Supply → Supply) : (x.modSupply f).contact = x.contact := rfl
@[simp] theorem Bay.modSupply_present (x : Bay) (f : Supply → Supply) : (x.modSupply f).present = x.present := rfl
@[simp] theorem Bay.modSupply_debounce (x : Bay) (f : Supply → Supply) : (x.modSupply f).debounce = x.debounce := rfl
@[simp] theorem Bay.modSupply_identity (x : Bay) (f : Supply → Supply) : (x.modSupply f).identity = x.identity := rfl
@[simp] theorem Bay.modSupply_signOns (x : Bay) (f : Supply → Supply) : (x.modSupply f).signOns = x.signOns := rfl
@[simp] theorem Bay.modSupply_link (x : Bay) (f : Supply → Supply) : (x.modSupply f).link = x.link := rfl
@[simp] theorem Bay.modSupply_supply (x : Bay) (f : Supply → Supply) : (x.modSupply f).supply = f x.supply := rfl
@[simp] theorem Bay.modSupply_queue (x : Bay) (f : Supply → Supply) : (x.modSupply f).queue = x.queue := rfl
@[simp] theorem Bay.modSupply_window (x : Bay) (f : Supply → Supply) : (x.modSupply f).window = x.window := rfl
@[simp] theorem Bay.modSupply_cal (x : Bay) (f : Supply → Supply) : (x.modSupply f).cal = x.cal := rfl
@[simp] theorem Bay.modSupply_ring (x : Bay) (f : Supply → Supply) : (x.modSupply f).ring = x.ring := rfl

@[simp] theorem State.modPort_port (f : Port → Port) : (s.modPort f).port = f s.port := rfl

/-- Storing a bay as it was changes nothing. -/
@[simp] theorem State.setBay_self (b : BayNo) : s.setBay b (s.bay b) = s := by
  have h : s.bays.set b (s.bay b) = s.bays := by
    ext j hj
    simp only [Vector.getElem_set]
    split
    · subst_vars; rfl
    · rfl
  simp only [State.setBay, h]

end Sys2Proof.Machine
end

