-- ==== Sys2Proof/Laws/Ops.lean ====
section
/-! SUPPORT. What each shared operation can do, said once: the parts of the state it leaves alone, and what it
makes of the bay, the ring, the slot or the gather it is about. -/

namespace Sys2Proof.Machine

variable (s : State)

/-! ### answer -/

/-- Composing a reply changes the port and the latest reply, and nothing else (R176). -/
theorem State.answer_repliedAs (c : Instr) (status : Status) (body : List Byte) :
    (s.answer c status body).repliedAs s status body := by
  unfold State.repliedAs State.answer
  dsimp only
  split
  · unfold State.takeRequests
    split <;> rfl
  · rfl

theorem State.answer_eq (c : Instr) (status : Status) (body : List Byte) :
    s.answer c status body = { s with
      port := (s.answer c status body).port
      lastReply := some { status := status, flags := s.replyFlags, body := body } } :=
  s.answer_repliedAs c status body

@[simp] theorem State.answer_run (c : Instr) (st : Status) (body : List Byte) : (s.answer c st body).run = s.run :=
  (congrArg State.run (s.answer_eq c st body)).trans rfl
@[simp] theorem State.answer_stopLine (c : Instr) (st : Status) (body : List Byte) : (s.answer c st body).stopLine = s.stopLine :=
  (congrArg State.stopLine (s.answer_eq c st body)).trans rfl
@[simp] theorem State.answer_stopFunction (c : Instr) (st : Status) (body : List Byte) : (s.answer c st body).stopFunction = s.stopFunction :=
  (congrArg State.stopFunction (s.answer_eq c st body)).trans rfl
@[simp] theorem State.answer_clock (c : Instr) (st : Status) (body : List Byte) : (s.answer c st body).clock = s.clock :=
  (congrArg State.clock (s.answer_eq c st body)).trans rfl
@[simp] theorem State.answer_wakeTimeout (c : Instr) (st : Status) (body : List Byte) : (s.answer c st body).wakeTimeout = s.wakeTimeout :=
  (congrArg State.wakeTimeout (s.answer_eq c st body)).trans rfl
@[simp] theorem State.answer_classMask (c : Instr) (st : Status) (body : List Byte) : (s.answer c st body).classMask = s.classMask :=
  (congrArg State.classMask (s.answer_eq c st body)).trans rfl
@[simp] theorem State.answer_gatherSerial (c : Instr) (st : Status) (body : List Byte) : (s.answer c st body).gatherSerial = s.gatherSerial :=
  (congrArg State.gatherSerial (s.answer_eq c st body)).trans rfl
@[simp] theorem State.answer_startup (c : Instr) (st : Status) (body : List Byte) : (s.answer c st body).startup = s.startup :=
  (congrArg State.startup (s.answer_eq c st body)).trans rfl
@[simp] theorem State.answer_bays (c : Instr) (st : Status) (body : List Byte) : (s.answer c st body).bays = s.bays :=
  (congrArg State.bays (s.answer_eq c st body)).trans rfl
@[simp] theorem State.answer_gathers (c : Instr) (st : Status) (body : List Byte) : (s.answer c st body).gathers = s.gathers :=
  (congrArg State.gathers (s.answer_eq c st body)).trans rfl
@[simp] theorem State.answer_profiles (c : Instr) (st : Status) (body : List Byte) : (s.answer c st body).profiles = s.profiles :=
  (congrArg State.profiles (s.answer_eq c st body)).trans rfl
@[simp] theorem State.answer_converter (c : Instr) (st : Status) (body : List Byte) : (s.answer c st body).converter = s.converter :=
  (congrArg State.converter (s.answer_eq c st body)).trans rfl
@[simp] theorem State.answer_lastGranted (c : Instr) (st : Status) (body : List Byte) : (s.answer c st body).lastGranted = s.lastGranted :=
  (congrArg State.lastGranted (s.answer_eq c st body)).trans rfl
@[simp] theorem State.answer_calLock (c : Instr) (st : Status) (body : List Byte) : (s.answer c st body).calLock = s.calLock :=
  (congrArg State.calLock (s.answer_eq c st body)).trans rfl
@[simp] theorem State.answer_railReads (c : Instr) (st : Status) (body : List Byte) : (s.answer c st body).railReads = s.railReads :=
  (congrArg State.railReads (s.answer_eq c st body)).trans rfl
@[simp] theorem State.answer_cells (c : Instr) (st : Status) (body : List Byte) : (s.answer c st body).cells = s.cells :=
  (congrArg State.cells (s.answer_eq c st body)).trans rfl
@[simp] theorem State.answer_notices (c : Instr) (st : Status) (body : List Byte) : (s.answer c st body).notices = s.notices :=
  (congrArg State.notices (s.answer_eq c st body)).trans rfl
@[simp] theorem State.answer_pending (c : Instr) (st : Status) (body : List Byte) : (s.answer c st body).pending = s.pending :=
  (congrArg State.pending (s.answer_eq c st body)).trans rfl
@[simp] theorem State.answer_bay (c : Instr) (st : Status) (body : List Byte) (b : BayNo) :
    (s.answer c st body).bay b = s.bay b :=
  (congrArg (State.bay · b) (s.answer_eq c st body)).trans rfl
@[simp] theorem State.answer_gather (c : Instr) (st : Status) (body : List Byte) (i : GatherNo) :
    (s.answer c st body).gather i = s.gather i :=
  (congrArg (State.gather · i) (s.answer_eq c st body)).trans rfl
@[simp] theorem State.answer_profile (c : Instr) (st : Status) (body : List Byte) (p : ProfileNo) :
    (s.answer c st body).profile p = s.profile p :=
  (congrArg (State.profile · p) (s.answer_eq c st body)).trans rfl

@[simp] theorem State.answer_lastReply (c : Instr) (st : Status) (body : List Byte) :
    (s.answer c st body).lastReply = some { status := st, flags := s.replyFlags, body := body } :=
  (congrArg State.lastReply (s.answer_eq c st body)).trans rfl

/-- The flags of a reply are sampled from what composing it leaves alone. -/
@[simp] theorem State.answer_replyFlags (c : Instr) (st : Status) (body : List Byte) :
    (s.answer c st body).replyFlags = s.replyFlags := by
  rw [s.answer_eq c st body]
  rfl

theorem State.answer_repliesWith (c : Instr) (status : Status) (body : List Byte) :
    (s.answer c status body).repliesWith status body := by
  simp [State.repliesWith]

/-! ### Sampling windows -/

@[simp] theorem State.grant_bays : s.grant.bays = s.bays := by
  unfold State.grant
  split <;> rfl

@[simp] theorem State.grant_run  : (s.grant).run = s.run := by unfold State.grant; split <;> rfl
@[simp] theorem State.grant_stopLine  : (s.grant).stopLine = s.stopLine := by unfold State.grant; split <;> rfl
@[simp] theorem State.grant_stopFunction  : (s.grant).stopFunction = s.stopFunction := by unfold State.grant; split <;> rfl
@[simp] theorem State.grant_clock  : (s.grant).clock = s.clock := by unfold State.grant; split <;> rfl
@[simp] theorem State.grant_wakeTimeout  : (s.grant).wakeTimeout = s.wakeTimeout := by unfold State.grant; split <;> rfl
@[simp] theorem State.grant_classMask  : (s.grant).classMask = s.classMask := by unfold State.grant; split <;> rfl
@[simp] theorem State.grant_gatherSerial  : (s.grant).gatherSerial = s.gatherSerial := by unfold State.grant; split <;> rfl
@[simp] theorem State.grant_startup  : (s.grant).startup = s.startup := by unfold State.grant; split <;> rfl
@[simp] theorem State.grant_port  : (s.grant).port = s.port := by unfold State.grant; split <;> rfl
@[simp] theorem State.grant_calLock  : (s.grant).calLock = s.calLock := by unfold State.grant; split <;> rfl
@[simp] theorem State.grant_railReads  : (s.grant).railReads = s.railReads := by unfold State.grant; split <;> rfl
@[simp] theorem State.grant_lastReply  : (s.grant).lastReply = s.lastReply := by unfold State.grant; split <;> rfl
@[simp] theorem State.grant_pending  : (s.grant).pending = s.pending := by unfold State.grant; split <;> rfl
@[simp] theorem State.grant_gathers  : (s.grant).gathers = s.gathers := by unfold State.grant; split <;> rfl
@[simp] theorem State.grant_profiles  : (s.grant).profiles = s.profiles := by unfold State.grant; split <;> rfl
@[simp] theorem State.grant_cells  : (s.grant).cells = s.cells := by unfold State.grant; split <;> rfl
@[simp] theorem State.grant_notices  : (s.grant).notices = s.notices := by unfold State.grant; split <;> rfl

@[simp] theorem State.openWindow_run (b : BayNo) : (s.openWindow b).run = s.run := by simp [State.openWindow]
@[simp] theorem State.openWindow_stopLine (b : BayNo) : (s.openWindow b).stopLine = s.stopLine := by simp [State.openWindow]
@[simp] theorem State.openWindow_stopFunction (b : BayNo) : (s.openWindow b).stopFunction = s.stopFunction := by simp [State.openWindow]
@[simp] theorem State.openWindow_clock (b : BayNo) : (s.openWindow b).clock = s.clock := by simp [State.openWindow]
@[simp] theorem State.openWindow_wakeTimeout (b : BayNo) : (s.openWindow b).wakeTimeout = s.wakeTimeout := by simp [State.openWindow]
@[simp] theorem State.openWindow_classMask (b : BayNo) : (s.openWindow b).classMask = s.classMask := by simp [State.openWindow]
@[simp] theorem State.openWindow_gatherSerial (b : BayNo) : (s.openWindow b).gatherSerial = s.gatherSerial := by simp [State.openWindow]
@[simp] theorem State.openWindow_startup (b : BayNo) : (s.openWindow b).startup = s.startup := by simp [State.openWindow]
@[simp] theorem State.openWindow_port (b : BayNo) : (s.openWindow b).port = s.port := by simp [State.openWindow]
@[simp] theorem State.openWindow_calLock (b : BayNo) : (s.openWindow b).calLock = s.calLock := by simp [State.openWindow]
@[simp] theorem State.openWindow_railReads (b : BayNo) : (s.openWindow b).railReads = s.railReads := by simp [State.openWindow]
@[simp] theorem State.openWindow_lastReply (b : BayNo) : (s.openWindow b).lastReply = s.lastReply := by simp [State.openWindow]
@[simp] theorem State.openWindow_pending (b : BayNo) : (s.openWindow b).pending = s.pending := by simp [State.openWindow]
@[simp] theorem State.openWindow_gathers (b : BayNo) : (s.openWindow b).gathers = s.gathers := by simp [State.openWindow]
@[simp] theorem State.openWindow_profiles (b : BayNo) : (s.openWindow b).profiles = s.profiles := by simp [State.openWindow]
@[simp] theorem State.openWindow_cells (b : BayNo) : (s.openWindow b).cells = s.cells := by simp [State.openWindow]
@[simp] theorem State.openWindow_notices (b : BayNo) : (s.openWindow b).notices = s.notices := by simp [State.openWindow]

@[simp] theorem State.closeWindow_run (b : BayNo) : (s.closeWindow b).run = s.run := by rfl
@[simp] theorem State.closeWindow_stopLine (b : BayNo) : (s.closeWindow b).stopLine = s.stopLine := by rfl
@[simp] theorem State.closeWindow_stopFunction (b : BayNo) : (s.closeWindow b).stopFunction = s.stopFunction := by rfl
@[simp] theorem State.closeWindow_clock (b : BayNo) : (s.closeWindow b).clock = s.clock := by rfl
@[simp] theorem State.closeWindow_wakeTimeout (b : BayNo) : (s.closeWindow b).wakeTimeout = s.wakeTimeout := by rfl
@[simp] theorem State.closeWindow_classMask (b : BayNo) : (s.closeWindow b).classMask = s.classMask := by rfl
@[simp] theorem State.closeWindow_gatherSerial (b : BayNo) : (s.closeWindow b).gatherSerial = s.gatherSerial := by rfl
@[simp] theorem State.closeWindow_startup (b : BayNo) : (s.closeWindow b).startup = s.startup := by rfl
@[simp] theorem State.closeWindow_port (b : BayNo) : (s.closeWindow b).port = s.port := by rfl
@[simp] theorem State.closeWindow_calLock (b : BayNo) : (s.closeWindow b).calLock = s.calLock := by rfl
@[simp] theorem State.closeWindow_railReads (b : BayNo) : (s.closeWindow b).railReads = s.railReads := by rfl
@[simp] theorem State.closeWindow_lastReply (b : BayNo) : (s.closeWindow b).lastReply = s.lastReply := by rfl
@[simp] theorem State.closeWindow_pending (b : BayNo) : (s.closeWindow b).pending = s.pending := by rfl
@[simp] theorem State.closeWindow_gathers (b : BayNo) : (s.closeWindow b).gathers = s.gathers := by rfl
@[simp] theorem State.closeWindow_profiles (b : BayNo) : (s.closeWindow b).profiles = s.profiles := by rfl
@[simp] theorem State.closeWindow_cells (b : BayNo) : (s.closeWindow b).cells = s.cells := by rfl
@[simp] theorem State.closeWindow_notices (b : BayNo) : (s.closeWindow b).notices = s.notices := by rfl
@[simp] theorem State.closeWindow_lastGranted (b : BayNo) : (s.closeWindow b).lastGranted = s.lastGranted := by rfl

@[simp] theorem State.creditSample_run (b : BayNo) (tied : Bool) (code : BitVec 12) : (s.creditSample b tied code).run = s.run := by unfold State.creditSample; split <;> rfl
@[simp] theorem State.creditSample_stopLine (b : BayNo) (tied : Bool) (code : BitVec 12) : (s.creditSample b tied code).stopLine = s.stopLine := by unfold State.creditSample; split <;> rfl
@[simp] theorem State.creditSample_stopFunction (b : BayNo) (tied : Bool) (code : BitVec 12) : (s.creditSample b tied code).stopFunction = s.stopFunction := by unfold State.creditSample; split <;> rfl
@[simp] theorem State.creditSample_clock (b : BayNo) (tied : Bool) (code : BitVec 12) : (s.creditSample b tied code).clock = s.clock := by unfold State.creditSample; split <;> rfl
@[simp] theorem State.creditSample_wakeTimeout (b : BayNo) (tied : Bool) (code : BitVec 12) : (s.creditSample b tied code).wakeTimeout = s.wakeTimeout := by unfold State.creditSample; split <;> rfl
@[simp] theorem State.creditSample_classMask (b : BayNo) (tied : Bool) (code : BitVec 12) : (s.creditSample b tied code).classMask = s.classMask := by unfold State.creditSample; split <;> rfl
@[simp] theorem State.creditSample_gatherSerial (b : BayNo) (tied : Bool) (code : BitVec 12) : (s.creditSample b tied code).gatherSerial = s.gatherSerial := by unfold State.creditSample; split <;> rfl
@[simp] theorem State.creditSample_startup (b : BayNo) (tied : Bool) (code : BitVec 12) : (s.creditSample b tied code).startup = s.startup := by unfold State.creditSample; split <;> rfl
@[simp] theorem State.creditSample_port (b : BayNo) (tied : Bool) (code : BitVec 12) : (s.creditSample b tied code).port = s.port := by unfold State.creditSample; split <;> rfl
@[simp] theorem State.creditSample_calLock (b : BayNo) (tied : Bool) (code : BitVec 12) : (s.creditSample b tied code).calLock = s.calLock := by unfold State.creditSample; split <;> rfl
@[simp] theorem State.creditSample_railReads (b : BayNo) (tied : Bool) (code : BitVec 12) : (s.creditSample b tied code).railReads = s.railReads := by unfold State.creditSample; split <;> rfl
@[simp] theorem State.creditSample_lastReply (b : BayNo) (tied : Bool) (code : BitVec 12) : (s.creditSample b tied code).lastReply = s.lastReply := by unfold State.creditSample; split <;> rfl
@[simp] theorem State.creditSample_pending (b : BayNo) (tied : Bool) (code : BitVec 12) : (s.creditSample b tied code).pending = s.pending := by unfold State.creditSample; split <;> rfl
@[simp] theorem State.creditSample_gathers (b : BayNo) (tied : Bool) (code : BitVec 12) : (s.creditSample b tied code).gathers = s.gathers := by unfold State.creditSample; split <;> rfl
@[simp] theorem State.creditSample_profiles (b : BayNo) (tied : Bool) (code : BitVec 12) : (s.creditSample b tied code).profiles = s.profiles := by unfold State.creditSample; split <;> rfl
@[simp] theorem State.creditSample_cells (b : BayNo) (tied : Bool) (code : BitVec 12) : (s.creditSample b tied code).cells = s.cells := by unfold State.creditSample; split <;> rfl
@[simp] theorem State.creditSample_notices (b : BayNo) (tied : Bool) (code : BitVec 12) : (s.creditSample b tied code).notices = s.notices := by unfold State.creditSample; split <;> rfl
@[simp] theorem State.creditSample_lastGranted (b : BayNo) (tied : Bool) (code : BitVec 12) : (s.creditSample b tied code).lastGranted = s.lastGranted := by unfold State.creditSample; split <;> rfl
@[simp] theorem State.creditSample_converter (b : BayNo) (tied : Bool) (code : BitVec 12) : (s.creditSample b tied code).converter = s.converter := by unfold State.creditSample; split <;> rfl

@[simp] theorem State.grant_bay (c : BayNo) : s.grant.bay c = s.bay c := by
  simp [State.bay_eq_get]

@[simp] theorem State.openWindow_bay (b c : BayNo) :
    (s.openWindow b).bay c = if b = c then { s.bay b with window := .opened .cleared } else s.bay c := by
  simp [State.openWindow]

@[simp] theorem State.closeWindow_bay (b c : BayNo) :
    (s.closeWindow b).bay c = if b = c then { s.bay b with window := .closed } else s.bay c := by
  have h : (s.closeWindow b).bay c = (s.modBay b (fun x => { x with window := .closed })).bay c := rfl
  rw [h, State.bay_modBay]

/-! ### Writing a record (R133, R134) -/

@[simp] theorem State.writeRecord_run (b : BayNo) (kind : RecordKind) (own : List Byte) : (s.writeRecord b kind own).run = s.run := by simp only [State.writeRecord]; split <;> split <;> rfl
@[simp] theorem State.writeRecord_stopLine (b : BayNo) (kind : RecordKind) (own : List Byte) : (s.writeRecord b kind own).stopLine = s.stopLine := by simp only [State.writeRecord]; split <;> split <;> rfl
@[simp] theorem State.writeRecord_stopFunction (b : BayNo) (kind : RecordKind) (own : List Byte) : (s.writeRecord b kind own).stopFunction = s.stopFunction := by simp only [State.writeRecord]; split <;> split <;> rfl
@[simp] theorem State.writeRecord_clock (b : BayNo) (kind : RecordKind) (own : List Byte) : (s.writeRecord b kind own).clock = s.clock := by simp only [State.writeRecord]; split <;> split <;> rfl
@[simp] theorem State.writeRecord_wakeTimeout (b : BayNo) (kind : RecordKind) (own : List Byte) : (s.writeRecord b kind own).wakeTimeout = s.wakeTimeout := by simp only [State.writeRecord]; split <;> split <;> rfl
@[simp] theorem State.writeRecord_classMask (b : BayNo) (kind : RecordKind) (own : List Byte) : (s.writeRecord b kind own).classMask = s.classMask := by simp only [State.writeRecord]; split <;> split <;> rfl
@[simp] theorem State.writeRecord_gatherSerial (b : BayNo) (kind : RecordKind) (own : List Byte) : (s.writeRecord b kind own).gatherSerial = s.gatherSerial := by simp only [State.writeRecord]; split <;> split <;> rfl
@[simp] theorem State.writeRecord_startup (b : BayNo) (kind : RecordKind) (own : List Byte) : (s.writeRecord b kind own).startup = s.startup := by simp only [State.writeRecord]; split <;> split <;> rfl
@[simp] theorem State.writeRecord_port (b : BayNo) (kind : RecordKind) (own : List Byte) : (s.writeRecord b kind own).port = s.port := by simp only [State.writeRecord]; split <;> split <;> rfl
@[simp] theorem State.writeRecord_calLock (b : BayNo) (kind : RecordKind) (own : List Byte) : (s.writeRecord b kind own).calLock = s.calLock := by simp only [State.writeRecord]; split <;> split <;> rfl
@[simp] theorem State.writeRecord_railReads (b : BayNo) (kind : RecordKind) (own : List Byte) : (s.writeRecord b kind own).railReads = s.railReads := by simp only [State.writeRecord]; split <;> split <;> rfl
@[simp] theorem State.writeRecord_lastReply (b : BayNo) (kind : RecordKind) (own : List Byte) : (s.writeRecord b kind own).lastReply = s.lastReply := by simp only [State.writeRecord]; split <;> split <;> rfl
@[simp] theorem State.writeRecord_pending (b : BayNo) (kind : RecordKind) (own : List Byte) : (s.writeRecord b kind own).pending = s.pending := by simp only [State.writeRecord]; split <;> split <;> rfl
@[simp] theorem State.writeRecord_gathers (b : BayNo) (kind : RecordKind) (own : List Byte) : (s.writeRecord b kind own).gathers = s.gathers := by simp only [State.writeRecord]; split <;> split <;> rfl
@[simp] theorem State.writeRecord_profiles (b : BayNo) (kind : RecordKind) (own : List Byte) : (s.writeRecord b kind own).profiles = s.profiles := by simp only [State.writeRecord]; split <;> split <;> rfl
@[simp] theorem State.writeRecord_converter (b : BayNo) (kind : RecordKind) (own : List Byte) : (s.writeRecord b kind own).converter = s.converter := by simp only [State.writeRecord]; split <;> split <;> rfl
@[simp] theorem State.writeRecord_lastGranted (b : BayNo) (kind : RecordKind) (own : List Byte) : (s.writeRecord b kind own).lastGranted = s.lastGranted := by simp only [State.writeRecord]; split <;> split <;> rfl

/-- A record changes the ring of its bay and nothing else of any bay. -/
@[simp] theorem State.writeRecord_bay (b c : BayNo) (kind : RecordKind) (own : List Byte) :
    (s.writeRecord b kind own).bay c =
      if b = c then { s.bay b with ring := (s.bay b).ring.afterWrite } else s.bay c := by
  simp only [State.writeRecord]
  split <;> split <;> simp <;> rfl

@[simp] theorem State.writeRecord_gather (b : BayNo) (kind : RecordKind) (own : List Byte) (i : GatherNo) :
    (s.writeRecord b kind own).gather i = s.gather i := by
  simp [State.gather_eq_get]

@[simp] theorem State.writeRecord_profile (b : BayNo) (kind : RecordKind) (own : List Byte) (p : ProfileNo) :
    (s.writeRecord b kind own).profile p = s.profile p := by
  simp [State.profile_eq_get]

/-- Where the record goes, when it is kept. -/
theorem State.writeRecord_cells (b : BayNo) (kind : RecordKind) (own : List Byte) :
    (s.writeRecord b kind own).cells =
      if (s.bay b).ring.keeps then
        writeCells s.cells (cellAddress ((s.bay b).ring.cellAt (s.bay b).ring.occupancy))
          (recordCell kind b (s.bay b).ring.nextSeq s.clock own)
      else s.cells := by
  simp only [State.writeRecord]
  split <;> split <;> rfl

/-- A record touches no notice but the RING_FULL place of its bay. -/
theorem State.writeRecord_notices (b : BayNo) (kind : RecordKind) (own : List Byte) :
    (s.writeRecord b kind own).notices =
      if (s.bay b).ring.loses && (s.bay b).ring.lossless then (s.ringFullRises b).notices else s.notices := by
  simp only [State.writeRecord]
  split <;> split <;> rfl

/-! ### Beginning a frame, waking -/

@[simp] theorem State.beginFrame_run (b : BayNo) : (s.beginFrame b).run = s.run := by simp only [State.beginFrame]; (repeat' split) <;> simp
@[simp] theorem State.beginFrame_stopLine (b : BayNo) : (s.beginFrame b).stopLine = s.stopLine := by simp only [State.beginFrame]; (repeat' split) <;> simp
@[simp] theorem State.beginFrame_stopFunction (b : BayNo) : (s.beginFrame b).stopFunction = s.stopFunction := by simp only [State.beginFrame]; (repeat' split) <;> simp
@[simp] theorem State.beginFrame_clock (b : BayNo) : (s.beginFrame b).clock = s.clock := by simp only [State.beginFrame]; (repeat' split) <;> simp
@[simp] theorem State.beginFrame_wakeTimeout (b : BayNo) : (s.beginFrame b).wakeTimeout = s.wakeTimeout := by simp only [State.beginFrame]; (repeat' split) <;> simp
@[simp] theorem State.beginFrame_classMask (b : BayNo) : (s.beginFrame b).classMask = s.classMask := by simp only [State.beginFrame]; (repeat' split) <;> simp
@[simp] theorem State.beginFrame_gatherSerial (b : BayNo) : (s.beginFrame b).gatherSerial = s.gatherSerial := by simp only [State.beginFrame]; (repeat' split) <;> simp
@[simp] theorem State.beginFrame_startup (b : BayNo) : (s.beginFrame b).startup = s.startup := by simp only [State.beginFrame]; (repeat' split) <;> simp
@[simp] theorem State.beginFrame_port (b : BayNo) : (s.beginFrame b).port = s.port := by simp only [State.beginFrame]; (repeat' split) <;> simp
@[simp] theorem State.beginFrame_calLock (b : BayNo) : (s.beginFrame b).calLock = s.calLock := by simp only [State.beginFrame]; (repeat' split) <;> simp
@[simp] theorem State.beginFrame_railReads (b : BayNo) : (s.beginFrame b).railReads = s.railReads := by simp only [State.beginFrame]; (repeat' split) <;> simp
@[simp] theorem State.beginFrame_lastReply (b : BayNo) : (s.beginFrame b).lastReply = s.lastReply := by simp only [State.beginFrame]; (repeat' split) <;> simp
@[simp] theorem State.beginFrame_pending (b : BayNo) : (s.beginFrame b).pending = s.pending := by simp only [State.beginFrame]; (repeat' split) <;> simp
@[simp] theorem State.beginFrame_gathers (b : BayNo) : (s.beginFrame b).gathers = s.gathers := by simp only [State.beginFrame]; (repeat' split) <;> simp
@[simp] theorem State.beginFrame_profiles (b : BayNo) : (s.beginFrame b).profiles = s.profiles := by simp only [State.beginFrame]; (repeat' split) <;> simp
@[simp] theorem State.beginFrame_converter (b : BayNo) : (s.beginFrame b).converter = s.converter := by simp only [State.beginFrame]; (repeat' split) <;> simp
@[simp] theorem State.beginFrame_lastGranted (b : BayNo) : (s.beginFrame b).lastGranted = s.lastGranted := by simp only [State.beginFrame]; (repeat' split) <;> simp
@[simp] theorem State.beginFrame_cells (b : BayNo) : (s.beginFrame b).cells = s.cells := by simp only [State.beginFrame]; (repeat' split) <;> simp
@[simp] theorem State.beginFrame_notices (b : BayNo) : (s.beginFrame b).notices = s.notices := by simp only [State.beginFrame]; (repeat' split) <;> simp

@[simp] theorem State.startWake_run (b : BayNo) : (s.startWake b).run = s.run := by rfl
@[simp] theorem State.startWake_stopLine (b : BayNo) : (s.startWake b).stopLine = s.stopLine := by rfl
@[simp] theorem State.startWake_stopFunction (b : BayNo) : (s.startWake b).stopFunction = s.stopFunction := by rfl
@[simp] theorem State.startWake_clock (b : BayNo) : (s.startWake b).clock = s.clock := by rfl
@[simp] theorem State.startWake_wakeTimeout (b : BayNo) : (s.startWake b).wakeTimeout = s.wakeTimeout := by rfl
@[simp] theorem State.startWake_classMask (b : BayNo) : (s.startWake b).classMask = s.classMask := by rfl
@[simp] theorem State.startWake_gatherSerial (b : BayNo) : (s.startWake b).gatherSerial = s.gatherSerial := by rfl
@[simp] theorem State.startWake_startup (b : BayNo) : (s.startWake b).startup = s.startup := by rfl
@[simp] theorem State.startWake_port (b : BayNo) : (s.startWake b).port = s.port := by rfl
@[simp] theorem State.startWake_calLock (b : BayNo) : (s.startWake b).calLock = s.calLock := by rfl
@[simp] theorem State.startWake_railReads (b : BayNo) : (s.startWake b).railReads = s.railReads := by rfl
@[simp] theorem State.startWake_lastReply (b : BayNo) : (s.startWake b).lastReply = s.lastReply := by rfl
@[simp] theorem State.startWake_pending (b : BayNo) : (s.startWake b).pending = s.pending := by rfl
@[simp] theorem State.startWake_gathers (b : BayNo) : (s.startWake b).gathers = s.gathers := by rfl
@[simp] theorem State.startWake_profiles (b : BayNo) : (s.startWake b).profiles = s.profiles := by rfl
@[simp] theorem State.startWake_converter (b : BayNo) : (s.startWake b).converter = s.converter := by rfl
@[simp] theorem State.startWake_lastGranted (b : BayNo) : (s.startWake b).lastGranted = s.lastGranted := by rfl
@[simp] theorem State.startWake_cells (b : BayNo) : (s.startWake b).cells = s.cells := by rfl
@[simp] theorem State.startWake_notices (b : BayNo) : (s.startWake b).notices = s.notices := by rfl

/-- Beginning a frame changes no bay but its own, and of that one the transmitter, the frame in transmission and
the pending ask alone. -/
theorem State.beginFrame_bay (b c : BayNo) :
    ∃ tr fr pa, (s.beginFrame b).bay c =
      if b = c then { s.bay b with link :=
        { (s.bay b).link with transmitter := tr, frameOut := fr, pendingAsk := pa } } else s.bay c := by
  simp only [State.beginFrame]
  split
  · split
    · exact ⟨_, _, (s.bay b).link.pendingAsk, by simp; rfl⟩
    · split
      · exact ⟨(s.bay b).link.transmitter, (s.bay b).link.frameOut, (s.bay b).link.pendingAsk, by
          split
          · subst_vars; rfl
          · rfl⟩
      · exact ⟨_, _, _, by simp; rfl⟩
  · exact ⟨(s.bay b).link.transmitter, (s.bay b).link.frameOut, (s.bay b).link.pendingAsk, by
      split
      · subst_vars; rfl
      · rfl⟩

theorem State.beginFrame_bay_ne {b c : BayNo} (h : b ≠ c) : (s.beginFrame b).bay c = s.bay c := by
  obtain ⟨_, _, _, e⟩ := s.beginFrame_bay b c
  rw [e, if_neg h]

@[simp] theorem State.startWake_bay (b c : BayNo) :
    (s.startWake b).bay c = if b = c then { s.bay b with
      state := .waking,
      link := { (s.bay b).link with
        wakeTimer := some (expiryAfter s.clock (s.wakeTimeout.toNat * 1000)) } } else s.bay c := by
  simp [State.startWake]

/-! ### Completing slots and gathers (R73 to R80) -/

@[simp] theorem State.completeGather_run (i : GatherNo) : (s.completeGather i).run = s.run := by simp [State.completeGather]
@[simp] theorem State.completeGather_stopLine (i : GatherNo) : (s.completeGather i).stopLine = s.stopLine := by simp [State.completeGather]
@[simp] theorem State.completeGather_stopFunction (i : GatherNo) : (s.completeGather i).stopFunction = s.stopFunction := by simp [State.completeGather]
@[simp] theorem State.completeGather_clock (i : GatherNo) : (s.completeGather i).clock = s.clock := by simp [State.completeGather]
@[simp] theorem State.completeGather_wakeTimeout (i : GatherNo) : (s.completeGather i).wakeTimeout = s.wakeTimeout := by simp [State.completeGather]
@[simp] theorem State.completeGather_classMask (i : GatherNo) : (s.completeGather i).classMask = s.classMask := by simp [State.completeGather]
@[simp] theorem State.completeGather_gatherSerial (i : GatherNo) : (s.completeGather i).gatherSerial = s.gatherSerial := by simp [State.completeGather]
@[simp] theorem State.completeGather_startup (i : GatherNo) : (s.completeGather i).startup = s.startup := by simp [State.completeGather]
@[simp] theorem State.completeGather_port (i : GatherNo) : (s.completeGather i).port = s.port := by simp [State.completeGather]
@[simp] theorem State.completeGather_calLock (i : GatherNo) : (s.completeGather i).calLock = s.calLock := by simp [State.completeGather]
@[simp] theorem State.completeGather_railReads (i : GatherNo) : (s.completeGather i).railReads = s.railReads := by simp [State.completeGather]
@[simp] theorem State.completeGather_lastReply (i : GatherNo) : (s.completeGather i).lastReply = s.lastReply := by simp [State.completeGather]
@[simp] theorem State.completeGather_pending (i : GatherNo) : (s.completeGather i).pending = s.pending := by simp [State.completeGather]
@[simp] theorem State.completeGather_bays (i : GatherNo) : (s.completeGather i).bays = s.bays := by simp [State.completeGather]
@[simp] theorem State.completeGather_cells (i : GatherNo) : (s.completeGather i).cells = s.cells := by simp [State.completeGather]
@[simp] theorem State.completeGather_converter (i : GatherNo) : (s.completeGather i).converter = s.converter := by simp [State.completeGather]
@[simp] theorem State.completeGather_lastGranted (i : GatherNo) : (s.completeGather i).lastGranted = s.lastGranted := by simp [State.completeGather]

@[simp] theorem State.completeGatherIfFinal_run (i : GatherNo) : (s.completeGatherIfFinal i).run = s.run := by unfold State.completeGatherIfFinal; split <;> simp
@[simp] theorem State.completeGatherIfFinal_stopLine (i : GatherNo) : (s.completeGatherIfFinal i).stopLine = s.stopLine := by unfold State.completeGatherIfFinal; split <;> simp
@[simp] theorem State.completeGatherIfFinal_stopFunction (i : GatherNo) : (s.completeGatherIfFinal i).stopFunction = s.stopFunction := by unfold State.completeGatherIfFinal; split <;> simp
@[simp] theorem State.completeGatherIfFinal_clock (i : GatherNo) : (s.completeGatherIfFinal i).clock = s.clock := by unfold State.completeGatherIfFinal; split <;> simp
@[simp] theorem State.completeGatherIfFinal_wakeTimeout (i : GatherNo) : (s.completeGatherIfFinal i).wakeTimeout = s.wakeTimeout := by unfold State.completeGatherIfFinal; split <;> simp
@[simp] theorem State.completeGatherIfFinal_classMask (i : GatherNo) : (s.completeGatherIfFinal i).classMask = s.classMask := by unfold State.completeGatherIfFinal; split <;> simp
@[simp] theorem State.completeGatherIfFinal_gatherSerial (i : GatherNo) : (s.completeGatherIfFinal i).gatherSerial = s.gatherSerial := by unfold State.completeGatherIfFinal; split <;> simp
@[simp] theorem State.completeGatherIfFinal_startup (i : GatherNo) : (s.completeGatherIfFinal i).startup = s.startup := by unfold State.completeGatherIfFinal; split <;> simp
@[simp] theorem State.completeGatherIfFinal_port (i : GatherNo) : (s.completeGatherIfFinal i).port = s.port := by unfold State.completeGatherIfFinal; split <;> simp
@[simp] theorem State.completeGatherIfFinal_calLock (i : GatherNo) : (s.completeGatherIfFinal i).calLock = s.calLock := by unfold State.completeGatherIfFinal; split <;> simp
@[simp] theorem State.completeGatherIfFinal_railReads (i : GatherNo) : (s.completeGatherIfFinal i).railReads = s.railReads := by unfold State.completeGatherIfFinal; split <;> simp
@[simp] theorem State.completeGatherIfFinal_lastReply (i : GatherNo) : (s.completeGatherIfFinal i).lastReply = s.lastReply := by unfold State.completeGatherIfFinal; split <;> simp
@[simp] theorem State.completeGatherIfFinal_pending (i : GatherNo) : (s.completeGatherIfFinal i).pending = s.pending := by unfold State.completeGatherIfFinal; split <;> simp
@[simp] theorem State.completeGatherIfFinal_bays (i : GatherNo) : (s.completeGatherIfFinal i).bays = s.bays := by unfold State.completeGatherIfFinal; split <;> simp
@[simp] theorem State.completeGatherIfFinal_cells (i : GatherNo) : (s.completeGatherIfFinal i).cells = s.cells := by unfold State.completeGatherIfFinal; split <;> simp
@[simp] theorem State.completeGatherIfFinal_converter (i : GatherNo) : (s.completeGatherIfFinal i).converter = s.converter := by unfold State.completeGatherIfFinal; split <;> simp
@[simp] theorem State.completeGatherIfFinal_lastGranted (i : GatherNo) : (s.completeGatherIfFinal i).lastGranted = s.lastGranted := by unfold State.completeGatherIfFinal; split <;> simp

@[simp] theorem State.closeWindowFor_run (i : GatherNo) (b : BayNo) : (s.closeWindowFor i b).run = s.run := by unfold State.closeWindowFor; split <;> simp
@[simp] theorem State.closeWindowFor_stopLine (i : GatherNo) (b : BayNo) : (s.closeWindowFor i b).stopLine = s.stopLine := by unfold State.closeWindowFor; split <;> simp
@[simp] theorem State.closeWindowFor_stopFunction (i : GatherNo) (b : BayNo) : (s.closeWindowFor i b).stopFunction = s.stopFunction := by unfold State.closeWindowFor; split <;> simp
@[simp] theorem State.closeWindowFor_clock (i : GatherNo) (b : BayNo) : (s.closeWindowFor i b).clock = s.clock := by unfold State.closeWindowFor; split <;> simp
@[simp] theorem State.closeWindowFor_wakeTimeout (i : GatherNo) (b : BayNo) : (s.closeWindowFor i b).wakeTimeout = s.wakeTimeout := by unfold State.closeWindowFor; split <;> simp
@[simp] theorem State.closeWindowFor_classMask (i : GatherNo) (b : BayNo) : (s.closeWindowFor i b).classMask = s.classMask := by unfold State.closeWindowFor; split <;> simp
@[simp] theorem State.closeWindowFor_gatherSerial (i : GatherNo) (b : BayNo) : (s.closeWindowFor i b).gatherSerial = s.gatherSerial := by unfold State.closeWindowFor; split <;> simp
@[simp] theorem State.closeWindowFor_startup (i : GatherNo) (b : BayNo) : (s.closeWindowFor i b).startup = s.startup := by unfold State.closeWindowFor; split <;> simp
@[simp] theorem State.closeWindowFor_port (i : GatherNo) (b : BayNo) : (s.closeWindowFor i b).port = s.port := by unfold State.closeWindowFor; split <;> simp
@[simp] theorem State.closeWindowFor_calLock (i : GatherNo) (b : BayNo) : (s.closeWindowFor i b).calLock = s.calLock := by unfold State.closeWindowFor; split <;> simp
@[simp] theorem State.closeWindowFor_railReads (i : GatherNo) (b : BayNo) : (s.closeWindowFor i b).railReads = s.railReads := by unfold State.closeWindowFor; split <;> simp
@[simp] theorem State.closeWindowFor_lastReply (i : GatherNo) (b : BayNo) : (s.closeWindowFor i b).lastReply = s.lastReply := by unfold State.closeWindowFor; split <;> simp
@[simp] theorem State.closeWindowFor_pending (i : GatherNo) (b : BayNo) : (s.closeWindowFor i b).pending = s.pending := by unfold State.closeWindowFor; split <;> simp
@[simp] theorem State.closeWindowFor_gathers (i : GatherNo) (b : BayNo) : (s.closeWindowFor i b).gathers = s.gathers := by unfold State.closeWindowFor; split <;> simp
@[simp] theorem State.closeWindowFor_profiles (i : GatherNo) (b : BayNo) : (s.closeWindowFor i b).profiles = s.profiles := by unfold State.closeWindowFor; split <;> simp
@[simp] theorem State.closeWindowFor_cells (i : GatherNo) (b : BayNo) : (s.closeWindowFor i b).cells = s.cells := by unfold State.closeWindowFor; split <;> simp
@[simp] theorem State.closeWindowFor_notices (i : GatherNo) (b : BayNo) : (s.closeWindowFor i b).notices = s.notices := by unfold State.closeWindowFor; split <;> simp
@[simp] theorem State.closeWindowFor_lastGranted (i : GatherNo) (b : BayNo) : (s.closeWindowFor i b).lastGranted = s.lastGranted := by unfold State.closeWindowFor; split <;> simp

@[simp] theorem State.finishEvaluated_run (b : BayNo) (i : GatherNo) (e : Ending) (a : Option Answer) : (s.finishEvaluated b i e a).run = s.run := by simp [State.finishEvaluated]
@[simp] theorem State.finishEvaluated_stopLine (b : BayNo) (i : GatherNo) (e : Ending) (a : Option Answer) : (s.finishEvaluated b i e a).stopLine = s.stopLine := by simp [State.finishEvaluated]
@[simp] theorem State.finishEvaluated_stopFunction (b : BayNo) (i : GatherNo) (e : Ending) (a : Option Answer) : (s.finishEvaluated b i e a).stopFunction = s.stopFunction := by simp [State.finishEvaluated]
@[simp] theorem State.finishEvaluated_clock (b : BayNo) (i : GatherNo) (e : Ending) (a : Option Answer) : (s.finishEvaluated b i e a).clock = s.clock := by simp [State.finishEvaluated]
@[simp] theorem State.finishEvaluated_wakeTimeout (b : BayNo) (i : GatherNo) (e : Ending) (a : Option Answer) : (s.finishEvaluated b i e a).wakeTimeout = s.wakeTimeout := by simp [State.finishEvaluated]
@[simp] theorem State.finishEvaluated_classMask (b : BayNo) (i : GatherNo) (e : Ending) (a : Option Answer) : (s.finishEvaluated b i e a).classMask = s.classMask := by simp [State.finishEvaluated]
@[simp] theorem State.finishEvaluated_gatherSerial (b : BayNo) (i : GatherNo) (e : Ending) (a : Option Answer) : (s.finishEvaluated b i e a).gatherSerial = s.gatherSerial := by simp [State.finishEvaluated]
@[simp] theorem State.finishEvaluated_startup (b : BayNo) (i : GatherNo) (e : Ending) (a : Option Answer) : (s.finishEvaluated b i e a).startup = s.startup := by simp [State.finishEvaluated]
@[simp] theorem State.finishEvaluated_port (b : BayNo) (i : GatherNo) (e : Ending) (a : Option Answer) : (s.finishEvaluated b i e a).port = s.port := by simp [State.finishEvaluated]
@[simp] theorem State.finishEvaluated_calLock (b : BayNo) (i : GatherNo) (e : Ending) (a : Option Answer) : (s.finishEvaluated b i e a).calLock = s.calLock := by simp [State.finishEvaluated]
@[simp] theorem State.finishEvaluated_railReads (b : BayNo) (i : GatherNo) (e : Ending) (a : Option Answer) : (s.finishEvaluated b i e a).railReads = s.railReads := by simp [State.finishEvaluated]
@[simp] theorem State.finishEvaluated_lastReply (b : BayNo) (i : GatherNo) (e : Ending) (a : Option Answer) : (s.finishEvaluated b i e a).lastReply = s.lastReply := by simp [State.finishEvaluated]
@[simp] theorem State.finishEvaluated_pending (b : BayNo) (i : GatherNo) (e : Ending) (a : Option Answer) : (s.finishEvaluated b i e a).pending = s.pending := by simp [State.finishEvaluated]
@[simp] theorem State.finishEvaluated_lastGranted (b : BayNo) (i : GatherNo) (e : Ending) (a : Option Answer) : (s.finishEvaluated b i e a).lastGranted = s.lastGranted := by simp [State.finishEvaluated]

@[simp] theorem State.completeEvaluated_run (b : BayNo) (i : GatherNo) (e : Ending) (a : Option Answer) : (s.completeEvaluated b i e a).run = s.run := by unfold State.completeEvaluated; split <;> simp
@[simp] theorem State.completeEvaluated_stopLine (b : BayNo) (i : GatherNo) (e : Ending) (a : Option Answer) : (s.completeEvaluated b i e a).stopLine = s.stopLine := by unfold State.completeEvaluated; split <;> simp
@[simp] theorem State.completeEvaluated_stopFunction (b : BayNo) (i : GatherNo) (e : Ending) (a : Option Answer) : (s.completeEvaluated b i e a).stopFunction = s.stopFunction := by unfold State.completeEvaluated; split <;> simp
@[simp] theorem State.completeEvaluated_clock (b : BayNo) (i : GatherNo) (e : Ending) (a : Option Answer) : (s.completeEvaluated b i e a).clock = s.clock := by unfold State.completeEvaluated; split <;> simp
@[simp] theorem State.completeEvaluated_wakeTimeout (b : BayNo) (i : GatherNo) (e : Ending) (a : Option Answer) : (s.completeEvaluated b i e a).wakeTimeout = s.wakeTimeout := by unfold State.completeEvaluated; split <;> simp
@[simp] theorem State.completeEvaluated_classMask (b : BayNo) (i : GatherNo) (e : Ending) (a : Option Answer) : (s.completeEvaluated b i e a).classMask = s.classMask := by unfold State.completeEvaluated; split <;> simp
@[simp] theorem State.completeEvaluated_gatherSerial (b : BayNo) (i : GatherNo) (e : Ending) (a : Option Answer) : (s.completeEvaluated b i e a).gatherSerial = s.gatherSerial := by unfold State.completeEvaluated; split <;> simp
@[simp] theorem State.completeEvaluated_startup (b : BayNo) (i : GatherNo) (e : Ending) (a : Option Answer) : (s.completeEvaluated b i e a).startup = s.startup := by unfold State.completeEvaluated; split <;> simp
@[simp] theorem State.completeEvaluated_port (b : BayNo) (i : GatherNo) (e : Ending) (a : Option Answer) : (s.completeEvaluated b i e a).port = s.port := by unfold State.completeEvaluated; split <;> simp
@[simp] theorem State.completeEvaluated_calLock (b : BayNo) (i : GatherNo) (e : Ending) (a : Option Answer) : (s.completeEvaluated b i e a).calLock = s.calLock := by unfold State.completeEvaluated; split <;> simp
@[simp] theorem State.completeEvaluated_railReads (b : BayNo) (i : GatherNo) (e : Ending) (a : Option Answer) : (s.completeEvaluated b i e a).railReads = s.railReads := by unfold State.completeEvaluated; split <;> simp
@[simp] theorem State.completeEvaluated_lastReply (b : BayNo) (i : GatherNo) (e : Ending) (a : Option Answer) : (s.completeEvaluated b i e a).lastReply = s.lastReply := by unfold State.completeEvaluated; split <;> simp
@[simp] theorem State.completeEvaluated_pending (b : BayNo) (i : GatherNo) (e : Ending) (a : Option Answer) : (s.completeEvaluated b i e a).pending = s.pending := by unfold State.completeEvaluated; split <;> simp
@[simp] theorem State.completeEvaluated_lastGranted (b : BayNo) (i : GatherNo) (e : Ending) (a : Option Answer) : (s.completeEvaluated b i e a).lastGranted = s.lastGranted := by unfold State.completeEvaluated; split <;> simp

@[simp] theorem State.finishUnevaluated_run (b : BayNo) (i : GatherNo) (e : Ending) : (s.finishUnevaluated b i e).run = s.run := by simp [State.finishUnevaluated]
@[simp] theorem State.finishUnevaluated_stopLine (b : BayNo) (i : GatherNo) (e : Ending) : (s.finishUnevaluated b i e).stopLine = s.stopLine := by simp [State.finishUnevaluated]
@[simp] theorem State.finishUnevaluated_stopFunction (b : BayNo) (i : GatherNo) (e : Ending) : (s.finishUnevaluated b i e).stopFunction = s.stopFunction := by simp [State.finishUnevaluated]
@[simp] theorem State.finishUnevaluated_clock (b : BayNo) (i : GatherNo) (e : Ending) : (s.finishUnevaluated b i e).clock = s.clock := by simp [State.finishUnevaluated]
@[simp] theorem State.finishUnevaluated_wakeTimeout (b : BayNo) (i : GatherNo) (e : Ending) : (s.finishUnevaluated b i e).wakeTimeout = s.wakeTimeout := by simp [State.finishUnevaluated]
@[simp] theorem State.finishUnevaluated_classMask (b : BayNo) (i : GatherNo) (e : Ending) : (s.finishUnevaluated b i e).classMask = s.classMask := by simp [State.finishUnevaluated]
@[simp] theorem State.finishUnevaluated_gatherSerial (b : BayNo) (i : GatherNo) (e : Ending) : (s.finishUnevaluated b i e).gatherSerial = s.gatherSerial := by simp [State.finishUnevaluated]
@[simp] theorem State.finishUnevaluated_startup (b : BayNo) (i : GatherNo) (e : Ending) : (s.finishUnevaluated b i e).startup = s.startup := by simp [State.finishUnevaluated]
@[simp] theorem State.finishUnevaluated_port (b : BayNo) (i : GatherNo) (e : Ending) : (s.finishUnevaluated b i e).port = s.port := by simp [State.finishUnevaluated]
@[simp] theorem State.finishUnevaluated_calLock (b : BayNo) (i : GatherNo) (e : Ending) : (s.finishUnevaluated b i e).calLock = s.calLock := by simp [State.finishUnevaluated]
@[simp] theorem State.finishUnevaluated_railReads (b : BayNo) (i : GatherNo) (e : Ending) : (s.finishUnevaluated b i e).railReads = s.railReads := by simp [State.finishUnevaluated]
@[simp] theorem State.finishUnevaluated_lastReply (b : BayNo) (i : GatherNo) (e : Ending) : (s.finishUnevaluated b i e).lastReply = s.lastReply := by simp [State.finishUnevaluated]
@[simp] theorem State.finishUnevaluated_pending (b : BayNo) (i : GatherNo) (e : Ending) : (s.finishUnevaluated b i e).pending = s.pending := by simp [State.finishUnevaluated]
@[simp] theorem State.finishUnevaluated_bays (b : BayNo) (i : GatherNo) (e : Ending) : (s.finishUnevaluated b i e).bays = s.bays := by simp [State.finishUnevaluated]
@[simp] theorem State.finishUnevaluated_cells (b : BayNo) (i : GatherNo) (e : Ending) : (s.finishUnevaluated b i e).cells = s.cells := by simp [State.finishUnevaluated]
@[simp] theorem State.finishUnevaluated_converter (b : BayNo) (i : GatherNo) (e : Ending) : (s.finishUnevaluated b i e).converter = s.converter := by simp [State.finishUnevaluated]
@[simp] theorem State.finishUnevaluated_lastGranted (b : BayNo) (i : GatherNo) (e : Ending) : (s.finishUnevaluated b i e).lastGranted = s.lastGranted := by simp [State.finishUnevaluated]

@[simp] theorem State.completeUnevaluated_run (b : BayNo) (i : GatherNo) (e : Ending) : (s.completeUnevaluated b i e).run = s.run := by unfold State.completeUnevaluated; split <;> simp
@[simp] theorem State.completeUnevaluated_stopLine (b : BayNo) (i : GatherNo) (e : Ending) : (s.completeUnevaluated b i e).stopLine = s.stopLine := by unfold State.completeUnevaluated; split <;> simp
@[simp] theorem State.completeUnevaluated_stopFunction (b : BayNo) (i : GatherNo) (e : Ending) : (s.completeUnevaluated b i e).stopFunction = s.stopFunction := by unfold State.completeUnevaluated; split <;> simp
@[simp] theorem State.completeUnevaluated_clock (b : BayNo) (i : GatherNo) (e : Ending) : (s.completeUnevaluated b i e).clock = s.clock := by unfold State.completeUnevaluated; split <;> simp
@[simp] theorem State.completeUnevaluated_wakeTimeout (b : BayNo) (i : GatherNo) (e : Ending) : (s.completeUnevaluated b i e).wakeTimeout = s.wakeTimeout := by unfold State.completeUnevaluated; split <;> simp
@[simp] theorem State.completeUnevaluated_classMask (b : BayNo) (i : GatherNo) (e : Ending) : (s.completeUnevaluated b i e).classMask = s.classMask := by unfold State.completeUnevaluated; split <;> simp
@[simp] theorem State.completeUnevaluated_gatherSerial (b : BayNo) (i : GatherNo) (e : Ending) : (s.completeUnevaluated b i e).gatherSerial = s.gatherSerial := by unfold State.completeUnevaluated; split <;> simp
@[simp] theorem State.completeUnevaluated_startup (b : BayNo) (i : GatherNo) (e : Ending) : (s.completeUnevaluated b i e).startup = s.startup := by unfold State.completeUnevaluated; split <;> simp
@[simp] theorem State.completeUnevaluated_port (b : BayNo) (i : GatherNo) (e : Ending) : (s.completeUnevaluated b i e).port = s.port := by unfold State.completeUnevaluated; split <;> simp
@[simp] theorem State.completeUnevaluated_calLock (b : BayNo) (i : GatherNo) (e : Ending) : (s.completeUnevaluated b i e).calLock = s.calLock := by unfold State.completeUnevaluated; split <;> simp
@[simp] theorem State.completeUnevaluated_railReads (b : BayNo) (i : GatherNo) (e : Ending) : (s.completeUnevaluated b i e).railReads = s.railReads := by unfold State.completeUnevaluated; split <;> simp
@[simp] theorem State.completeUnevaluated_lastReply (b : BayNo) (i : GatherNo) (e : Ending) : (s.completeUnevaluated b i e).lastReply = s.lastReply := by unfold State.completeUnevaluated; split <;> simp
@[simp] theorem State.completeUnevaluated_pending (b : BayNo) (i : GatherNo) (e : Ending) : (s.completeUnevaluated b i e).pending = s.pending := by unfold State.completeUnevaluated; split <;> simp
@[simp] theorem State.completeUnevaluated_bays (b : BayNo) (i : GatherNo) (e : Ending) : (s.completeUnevaluated b i e).bays = s.bays := by unfold State.completeUnevaluated; split <;> simp
@[simp] theorem State.completeUnevaluated_cells (b : BayNo) (i : GatherNo) (e : Ending) : (s.completeUnevaluated b i e).cells = s.cells := by unfold State.completeUnevaluated; split <;> simp
@[simp] theorem State.completeUnevaluated_converter (b : BayNo) (i : GatherNo) (e : Ending) : (s.completeUnevaluated b i e).converter = s.converter := by unfold State.completeUnevaluated; split <;> simp
@[simp] theorem State.completeUnevaluated_lastGranted (b : BayNo) (i : GatherNo) (e : Ending) : (s.completeUnevaluated b i e).lastGranted = s.lastGranted := by unfold State.completeUnevaluated; split <;> simp

@[simp] theorem State.completeGather_bay (i : GatherNo) (c : BayNo) : (s.completeGather i).bay c = s.bay c := by
  simp [State.bay_eq_get]

@[simp] theorem State.completeGatherIfFinal_bay (i : GatherNo) (c : BayNo) :
    (s.completeGatherIfFinal i).bay c = s.bay c := by
  simp [State.bay_eq_get]

@[simp] theorem State.completeUnevaluated_bay (b : BayNo) (i : GatherNo) (e : Ending) (c : BayNo) :
    (s.completeUnevaluated b i e).bay c = s.bay c := by
  simp [State.bay_eq_get]

@[simp] theorem State.completeGather_gather (i j : GatherNo) :
    (s.completeGather i).gather j =
      if i = j then { s.gather i with state := .done, lastFinal := some s.clock } else s.gather j := by
  simp [State.completeGather]

/-- A gather that may be complete: DONE with its last final time when no slot is open, and as it was otherwise. -/
theorem State.completeGatherIfFinal_gather (i j : GatherNo) :
    (s.completeGatherIfFinal i).gather j =
      if i = j ∧ (s.gather i).hasOpenSlot = false then
        { s.gather i with state := .done, lastFinal := some s.clock }
      else s.gather j := by
  unfold State.completeGatherIfFinal
  cases h : (s.gather i).hasOpenSlot <;> simp

@[simp] theorem State.completeGatherIfFinal_slot (i j : GatherNo) (c : BayNo) :
    ((s.completeGatherIfFinal i).gather j).slot c = (s.gather j).slot c := by
  rw [State.completeGatherIfFinal_gather]
  split
  · rename_i h
    rw [h.1]
    rfl
  · rfl

/-- A completed slot: what its completion writes into it. -/
@[simp] theorem Gather.finalise_slot (g : Gather) (b c : BayNo) (x : Slot) (e : Ending) :
    (g.finalise b x e).slot c = if b = c then x else g.slot c := by
  show (g.setSlot b x).slot c = _
  simp

@[simp] theorem State.closeWindowFor_bay (i : GatherNo) (b c : BayNo) :
    (s.closeWindowFor i b).bay c =
      if b = c ∧ ((s.gather i).slot b).stage = .sent then { s.bay b with window := .closed } else s.bay c := by
  unfold State.closeWindowFor
  split <;> simp_all

@[simp] theorem State.closeWindowFor_gather (i : GatherNo) (b : BayNo) (j : GatherNo) :
    (s.closeWindowFor i b).gather j = s.gather j := by
  simp [State.gather_eq_get]

/-- An evaluated completion at a bay: its ring takes one record and the window of a SENT slot closes; every
other bay is as it was. -/
theorem State.finishEvaluated_bay (b c : BayNo) (i : GatherNo) (e : Ending) (a : Option Answer) :
    (s.finishEvaluated b i e a).bay c =
      if b = c then { s.bay b with
        ring := (s.bay b).ring.afterWrite,
        window := if ((s.gather i).slot b).stage = .sent then .closed else (s.bay b).window }
      else s.bay c := by
  simp only [State.finishEvaluated]
  by_cases h : b = c <;> by_cases hs : ((s.gather i).slot b).stage = .sent <;> simp [h, hs]
  · subst h; simp [hs]
  · subst h; simp [hs]

/-- An evaluated completion writes its own slot and no other. -/
theorem State.finishEvaluated_slot (b c : BayNo) (i j : GatherNo) (e : Ending) (a : Option Answer) :
    ((s.finishEvaluated b i e a).gather j).slot c =
      if i = j ∧ b = c then s.finalSlot i b e a else (s.gather j).slot c := by
  have h : (((s.finishEvaluated b i e a).gather j)).slot c =
      (((s.modGather i (fun g => g.finalise b (s.finalSlot i b e a) e)).gather j)).slot c := by
    simp only [State.finishEvaluated, State.completeGatherIfFinal_slot, State.writeRecord_gather,
      State.gather_modGather, State.modProfile_gather, State.closeWindowFor_gather]
  rw [h, State.gather_modGather]
  by_cases hi : i = j
  · subst hi; simp
  · simp [hi]

/-- An unevaluated completion writes its own slot and no other. -/
theorem State.finishUnevaluated_slot (b c : BayNo) (i j : GatherNo) (e : Ending) :
    ((s.finishUnevaluated b i e).gather j).slot c =
      if i = j ∧ b = c then
        { (s.gather i).slot b with stage := .final, ending := some e, verdict := .none, indicators := 0 }
      else (s.gather j).slot c := by
  simp only [State.finishUnevaluated, State.completeGatherIfFinal_slot, State.gather_modGather]
  by_cases hi : i = j
  · subst hi; simp
  · simp [hi]

/-- The slot an evaluated completion leaves is FINAL with its ending. -/
@[simp] theorem State.finalSlot_stage (i : GatherNo) (b : BayNo) (e : Ending) (a : Option Answer) :
    (s.finalSlot i b e a).stage = .final := rfl

@[simp] theorem State.finalSlot_ending (i : GatherNo) (b : BayNo) (e : Ending) (a : Option Answer) :
    (s.finalSlot i b e a).ending = some e := rfl

/-! ### Queues and asks -/

/-- What each step of a fold leaves alone, the fold leaves alone. -/
theorem foldl_keeps {α β : Type} (p : State → β) (f : State → α → State) (h : ∀ t a, p (f t a) = p t) :
    ∀ (l : List α) (t : State), p (l.foldl f t) = p t
  | [], _ => rfl
  | a :: l, t => (foldl_keeps p f h l (f t a)).trans (h t a)

@[simp] theorem State.unreachQueue_run (b : BayNo) : (s.unreachQueue b).run = s.run :=
  foldl_keeps State.run _ (fun t i => by simp) _ _
@[simp] theorem State.unreachQueue_stopLine (b : BayNo) : (s.unreachQueue b).stopLine = s.stopLine :=
  foldl_keeps State.stopLine _ (fun t i => by simp) _ _
@[simp] theorem State.unreachQueue_stopFunction (b : BayNo) : (s.unreachQueue b).stopFunction = s.stopFunction :=
  foldl_keeps State.stopFunction _ (fun t i => by simp) _ _
@[simp] theorem State.unreachQueue_clock (b : BayNo) : (s.unreachQueue b).clock = s.clock :=
  foldl_keeps State.clock _ (fun t i => by simp) _ _
@[simp] theorem State.unreachQueue_wakeTimeout (b : BayNo) : (s.unreachQueue b).wakeTimeout = s.wakeTimeout :=
  foldl_keeps State.wakeTimeout _ (fun t i => by simp) _ _
@[simp] theorem State.unreachQueue_classMask (b : BayNo) : (s.unreachQueue b).classMask = s.classMask :=
  foldl_keeps State.classMask _ (fun t i => by simp) _ _
@[simp] theorem State.unreachQueue_gatherSerial (b : BayNo) : (s.unreachQueue b).gatherSerial = s.gatherSerial :=
  foldl_keeps State.gatherSerial _ (fun t i => by simp) _ _
@[simp] theorem State.unreachQueue_startup (b : BayNo) : (s.unreachQueue b).startup = s.startup :=
  foldl_keeps State.startup _ (fun t i => by simp) _ _
@[simp] theorem State.unreachQueue_port (b : BayNo) : (s.unreachQueue b).port = s.port :=
  foldl_keeps State.port _ (fun t i => by simp) _ _
@[simp] theorem State.unreachQueue_calLock (b : BayNo) : (s.unreachQueue b).calLock = s.calLock :=
  foldl_keeps State.calLock _ (fun t i => by simp) _ _
@[simp] theorem State.unreachQueue_railReads (b : BayNo) : (s.unreachQueue b).railReads = s.railReads :=
  foldl_keeps State.railReads _ (fun t i => by simp) _ _
@[simp] theorem State.unreachQueue_lastReply (b : BayNo) : (s.unreachQueue b).lastReply = s.lastReply :=
  foldl_keeps State.lastReply _ (fun t i => by simp) _ _
@[simp] theorem State.unreachQueue_pending (b : BayNo) : (s.unreachQueue b).pending = s.pending :=
  foldl_keeps State.pending _ (fun t i => by simp) _ _
@[simp] theorem State.unreachQueue_lastGranted (b : BayNo) : (s.unreachQueue b).lastGranted = s.lastGranted :=
  foldl_keeps State.lastGranted _ (fun t i => by simp) _ _
@[simp] theorem State.dropQueue_run (b : BayNo) (e : Ending) : (s.dropQueue b e).run = s.run :=
  foldl_keeps State.run _ (fun t i => by simp) _ _
@[simp] theorem State.dropQueue_stopLine (b : BayNo) (e : Ending) : (s.dropQueue b e).stopLine = s.stopLine :=
  foldl_keeps State.stopLine _ (fun t i => by simp) _ _
@[simp] theorem State.dropQueue_stopFunction (b : BayNo) (e : Ending) : (s.dropQueue b e).stopFunction = s.stopFunction :=
  foldl_keeps State.stopFunction _ (fun t i => by simp) _ _
@[simp] theorem State.dropQueue_clock (b : BayNo) (e : Ending) : (s.dropQueue b e).clock = s.clock :=
  foldl_keeps State.clock _ (fun t i => by simp) _ _
@[simp] theorem State.dropQueue_wakeTimeout (b : BayNo) (e : Ending) : (s.dropQueue b e).wakeTimeout = s.wakeTimeout :=
  foldl_keeps State.wakeTimeout _ (fun t i => by simp) _ _
@[simp] theorem State.dropQueue_classMask (b : BayNo) (e : Ending) : (s.dropQueue b e).classMask = s.classMask :=
  foldl_keeps State.classMask _ (fun t i => by simp) _ _
@[simp] theorem State.dropQueue_gatherSerial (b : BayNo) (e : Ending) : (s.dropQueue b e).gatherSerial = s.gatherSerial :=
  foldl_keeps State.gatherSerial _ (fun t i => by simp) _ _
@[simp] theorem State.dropQueue_startup (b : BayNo) (e : Ending) : (s.dropQueue b e).startup = s.startup :=
  foldl_keeps State.startup _ (fun t i => by simp) _ _
@[simp] theorem State.dropQueue_port (b : BayNo) (e : Ending) : (s.dropQueue b e).port = s.port :=
  foldl_keeps State.port _ (fun t i => by simp) _ _
@[simp] theorem State.dropQueue_calLock (b : BayNo) (e : Ending) : (s.dropQueue b e).calLock = s.calLock :=
  foldl_keeps State.calLock _ (fun t i => by simp) _ _
@[simp] theorem State.dropQueue_railReads (b : BayNo) (e : Ending) : (s.dropQueue b e).railReads = s.railReads :=
  foldl_keeps State.railReads _ (fun t i => by simp) _ _
@[simp] theorem State.dropQueue_lastReply (b : BayNo) (e : Ending) : (s.dropQueue b e).lastReply = s.lastReply :=
  foldl_keeps State.lastReply _ (fun t i => by simp) _ _
@[simp] theorem State.dropQueue_pending (b : BayNo) (e : Ending) : (s.dropQueue b e).pending = s.pending :=
  foldl_keeps State.pending _ (fun t i => by simp) _ _
@[simp] theorem State.dropQueue_lastGranted (b : BayNo) (e : Ending) : (s.dropQueue b e).lastGranted = s.lastGranted :=
  foldl_keeps State.lastGranted _ (fun t i => by simp) _ _
@[simp] theorem State.dropQueue_cells (b : BayNo) (e : Ending) : (s.dropQueue b e).cells = s.cells :=
  foldl_keeps State.cells _ (fun t i => by simp) _ _
@[simp] theorem State.dropQueue_converter (b : BayNo) (e : Ending) : (s.dropQueue b e).converter = s.converter :=
  foldl_keeps State.converter _ (fun t i => by simp) _ _

/-- Dropping a bay's queue empties it and changes nothing else of any bay. -/
@[simp] theorem State.dropQueue_bay (b c : BayNo) (e : Ending) :
    (s.dropQueue b e).bay c = if b = c then { s.bay b with queue := [] } else s.bay c := by
  have h : ∀ (l : List GatherNo) (t : State), (l.foldl (fun t i => t.completeUnevaluated b i e) t).bay c = t.bay c := by
    intro l
    induction l with
    | nil => intro t; rfl
    | cons i l ih => intro t; rw [List.foldl_cons, ih]; simp
  rw [State.dropQueue, h]
  simp [Bay.emptyQueue]

theorem State.completeEvaluated_bay_ne {b c : BayNo} (h : b ≠ c) (i : GatherNo) (e : Ending) (a : Option Answer) :
    (s.completeEvaluated b i e a).bay c = s.bay c := by
  unfold State.completeEvaluated
  split
  · rw [State.finishEvaluated_bay, if_neg h]
  · rfl

/-- An evaluated completion changes its bay's ring and window and nothing else of that bay. -/
theorem State.completeEvaluated_bay (b : BayNo) (i : GatherNo) (e : Ending) (a : Option Answer) :
    (s.completeEvaluated b i e a).bay b = { s.bay b with
      ring := ((s.completeEvaluated b i e a).bay b).ring
      window := ((s.completeEvaluated b i e a).bay b).window } := by
  unfold State.completeEvaluated
  split
  · rw [State.finishEvaluated_bay, if_pos rfl]
  · rfl

/-- Ending a bay's queue UNREACHED empties it, adds to the bay's ring, may close its window, and changes nothing
else of any bay. -/
theorem State.unreachQueue_bay (b c : BayNo) :
    (s.unreachQueue b).bay c = if b = c then { s.bay b with
      queue := []
      ring := ((s.unreachQueue b).bay b).ring
      window := ((s.unreachQueue b).bay b).window } else s.bay c := by
  have h : ∀ (l : List GatherNo) (t : State), ∃ r w,
      (l.foldl (fun t i => t.completeEvaluated b i .unreached none) t).bay c =
        if b = c then { t.bay b with ring := r, window := w } else t.bay c := by
    intro l
    induction l with
    | nil =>
      intro t
      exact ⟨(t.bay b).ring, (t.bay b).window, by split <;> simp_all⟩
    | cons i l ih =>
      intro t
      obtain ⟨r, w, e⟩ := ih (t.completeEvaluated b i .unreached none)
      refine ⟨r, w, ?_⟩
      rw [List.foldl_cons, e]
      split
      · rw [State.completeEvaluated_bay]
      · rename_i hc
        rw [State.completeEvaluated_bay_ne t hc]
  obtain ⟨r, w, e⟩ := h (s.bay b).queue (s.modBay b Bay.emptyQueue)
  by_cases hc : b = c
  · subst hc
    rw [if_pos rfl] at e
    rw [if_pos rfl]
    have e' : (s.unreachQueue b).bay b = { s.bay b with queue := [], ring := r, window := w } := by
      rw [State.unreachQueue, e]; simp [Bay.emptyQueue]
    rw [e']
  · rw [if_neg hc] at e
    rw [if_neg hc, State.unreachQueue, e]
    simp [hc]

@[simp] theorem State.loseAsk_run (b : BayNo) : (s.loseAsk b).run = s.run := by unfold State.loseAsk; split; (· dsimp only; split <;> simp); rfl
@[simp] theorem State.loseAsk_stopLine (b : BayNo) : (s.loseAsk b).stopLine = s.stopLine := by unfold State.loseAsk; split; (· dsimp only; split <;> simp); rfl
@[simp] theorem State.loseAsk_stopFunction (b : BayNo) : (s.loseAsk b).stopFunction = s.stopFunction := by unfold State.loseAsk; split; (· dsimp only; split <;> simp); rfl
@[simp] theorem State.loseAsk_clock (b : BayNo) : (s.loseAsk b).clock = s.clock := by unfold State.loseAsk; split; (· dsimp only; split <;> simp); rfl
@[simp] theorem State.loseAsk_wakeTimeout (b : BayNo) : (s.loseAsk b).wakeTimeout = s.wakeTimeout := by unfold State.loseAsk; split; (· dsimp only; split <;> simp); rfl
@[simp] theorem State.loseAsk_classMask (b : BayNo) : (s.loseAsk b).classMask = s.classMask := by unfold State.loseAsk; split; (· dsimp only; split <;> simp); rfl
@[simp] theorem State.loseAsk_gatherSerial (b : BayNo) : (s.loseAsk b).gatherSerial = s.gatherSerial := by unfold State.loseAsk; split; (· dsimp only; split <;> simp); rfl
@[simp] theorem State.loseAsk_startup (b : BayNo) : (s.loseAsk b).startup = s.startup := by unfold State.loseAsk; split; (· dsimp only; split <;> simp); rfl
@[simp] theorem State.loseAsk_port (b : BayNo) : (s.loseAsk b).port = s.port := by unfold State.loseAsk; split; (· dsimp only; split <;> simp); rfl
@[simp] theorem State.loseAsk_calLock (b : BayNo) : (s.loseAsk b).calLock = s.calLock := by unfold State.loseAsk; split; (· dsimp only; split <;> simp); rfl
@[simp] theorem State.loseAsk_railReads (b : BayNo) : (s.loseAsk b).railReads = s.railReads := by unfold State.loseAsk; split; (· dsimp only; split <;> simp); rfl
@[simp] theorem State.loseAsk_lastReply (b : BayNo) : (s.loseAsk b).lastReply = s.lastReply := by unfold State.loseAsk; split; (· dsimp only; split <;> simp); rfl
@[simp] theorem State.loseAsk_pending (b : BayNo) : (s.loseAsk b).pending = s.pending := by unfold State.loseAsk; split; (· dsimp only; split <;> simp); rfl
@[simp] theorem State.loseAsk_lastGranted (b : BayNo) : (s.loseAsk b).lastGranted = s.lastGranted := by unfold State.loseAsk; split; (· dsimp only; split <;> simp); rfl

theorem State.loseAsk_bay_ne {b c : BayNo} (h : b ≠ c) : (s.loseAsk b).bay c = s.bay c := by
  unfold State.loseAsk
  split
  · dsimp only
    split
    · simp [h]
    · rw [State.completeEvaluated_bay_ne _ h]; simp [h]
  · rfl

/-- Losing the ask of a bay quiets its link when it is ASKING, and else changes at most its ring and window. -/
theorem State.loseAsk_bay (b : BayNo) :
    (s.loseAsk b).bay b = { s.bay b with
      link := if (s.bay b).state = .asking then (s.bay b).link.endAsk else (s.bay b).link
      ring := ((s.loseAsk b).bay b).ring
      window := ((s.loseAsk b).bay b).window } := by
  unfold State.loseAsk
  split
  · rename_i h
    dsimp only
    split
    · simp [Bay.modLink]
    · rw [State.completeEvaluated_bay]
      simp [Bay.modLink]
  · rfl

/-- The gather whose slot is SENT for a bay is found when there is one, and only then (R61). -/
theorem State.sentGather_some {b : BayNo} {i : GatherNo} (h : s.sentGather b = some i) :
    ((s.gather i).slot b).stage = .sent := by
  simpa using List.find?_some h

theorem State.sentGather_none {b : BayNo} (h : s.sentGather b = none) (i : GatherNo) :
    ((s.gather i).slot b).stage ≠ .sent := by
  simpa using List.find?_eq_none.1 h i (mem_allGathers i)

end Sys2Proof.Machine
end

