-- ==== Sys2Proof/Laws/Port.lean ====
section
/-! SUPPORT. The request buffer: what taking, finding and finishing an entry do past the entries that already
have their reply (R175, R176). -/

namespace Sys2Proof.Machine

/-- Entries that already have their reply are passed over when the port takes requests. -/
theorem takeWaiting_append (flags : ReplyFlags) : ∀ (front rest : List Entry),
    (∀ x ∈ front, ∃ frame, x.phase = .replying frame) →
    takeWaiting flags (front ++ rest) = front ++ takeWaiting flags rest
  | [], _, _ => rfl
  | e :: es, rest, h => by
    obtain ⟨frame, he⟩ := h e (by simp)
    simp only [List.cons_append, takeWaiting, he]
    rw [takeWaiting_append flags es rest (fun x hx => h x (by simp [hx]))]

/-- While an entry is IN_HAND the port takes none. -/
theorem takeWaiting_inHand (flags : ReplyFlags) (e : Entry) (rest : List Entry) (discard : Bool)
    (h : e.phase = .inHand discard) : takeWaiting flags (e :: rest) = e :: rest := by
  simp only [takeWaiting, h]

/-- The entry IN_HAND is found past those that have their reply. -/
theorem inHandEntry_append : ∀ (front : List Entry) (e : Entry) (rest : List Entry) (discard : Bool),
    (∀ x ∈ front, ∃ frame, x.phase = .replying frame) → e.phase = .inHand discard →
    inHandEntry (front ++ e :: rest) = some e
  | [], e, rest, _, _, h => by simp [inHandEntry, h]
  | x :: es, e, rest, discard, hf, h => by
    obtain ⟨frame, hx⟩ := hf x (by simp)
    simp only [List.cons_append, inHandEntry, hx]
    exact inHandEntry_append es e rest discard (fun y hy => hf y (by simp [hy])) h

/-- The entry IN_HAND gets its reply, or leaves when a detach has marked it. -/
theorem finishInHand_append (r : Reply) : ∀ (front : List Entry) (e : Entry) (rest : List Entry) (discard : Bool),
    (∀ x ∈ front, ∃ frame, x.phase = .replying frame) → e.phase = .inHand discard →
    finishInHand r (front ++ e :: rest) =
      front ++ (if discard then rest else { e with phase := .replying (replyFrame e.code e.seq r) } :: rest)
  | [], e, rest, discard, _, h => by cases discard <;> simp [finishInHand, h]
  | x :: es, e, rest, discard, hf, h => by
    obtain ⟨frame, hx⟩ := hf x (by simp)
    simp only [List.cons_append, finishInHand, hx]
    rw [finishInHand_append r es e rest discard (fun y hy => hf y (by simp [hy])) h]

end Sys2Proof.Machine
end

