-- ==== Sys2Proof/Laws/Requests.lean ====
section
/-! SUPPORT. What a command finds of the requests taken before it, what becomes of a request during the start-up (R160,
R175), the gap timer of a stopped pipe (R173, R174), and the tie of a conversion (R114, R117). -/

namespace Sys2Proof.Machine

/-- With no request in hand nothing is carried out first. -/
theorem State.carryInHand_of_none (c : Instr) (s : State) (h : s.requestInHand = none) : s.carryInHand c = s := by
  simp only [State.carryInHand, h]

/-- The request in hand does not wait for itself. -/
theorem State.carryInHand_of_self (c : Instr) (s : State) (h : s.requestInHand = some c) : s.carryInHand c = s := by
  simp only [State.carryInHand, h, if_true]

/-- Any other command finds the request in hand carried out. -/
theorem State.carryInHand_of_other (c d : Instr) (s : State) (h : s.requestInHand = some d) (hd : d ≠ c) :
    s.carryInHand c = s.carryOut d := by simp only [State.carryInHand, h, if_neg hd]

/-- Nothing is carried out before a command that comes first. -/
theorem State.carryInHand_of_comesFirst (c : Instr) (s : State) (h : s.comesFirst c) : s.carryInHand c = s :=
  h.elim (State.carryInHand_of_none c s) (State.carryInHand_of_self c s)

/-- A state that one carrying out leaves alone is left alone by any number of them. -/
theorem foldl_of_fixed {α : Type} (f : State → State) (s : State) (h : f s = s) :
    ∀ es : List α, es.foldl (fun t _ => f t) s = s
  | [] => rfl
  | _ :: es => by simp only [List.foldl_cons, h, foldl_of_fixed f s h es]

/-- A command that comes first finds the state as it stands. -/
theorem State.before_of_comesFirst (c : Instr) (s : State) (h : s.comesFirst c) : s.before c = s :=
  foldl_of_fixed _ s (State.carryInHand_of_comesFirst c s h) _

/-- So does every command while no request is in hand. -/
theorem State.before_of_none (c : Instr) (s : State) (h : s.requestInHand = none) : s.before c = s :=
  s.before_of_comesFirst c (Or.inl h)

/-- A request after the start-up takes its effect on what the requests before it left. -/
theorem State.serve_of_up (s : State) (c : Instr) (f : State → State) (h : s.startup = none) :
    s.serve c f = f (s.before c) := by simp only [State.serve, h]

/-- A request commanded while the port is clear takes its effect on the state as it stands. -/
theorem State.serve_of_clear (s : State) (c : Instr) (f : State → State) (h : s.portClear) : s.serve c f = f s := by
  simp only [State.portClear, Bool.and_eq_true, Option.isNone_iff_eq_none] at h
  rw [s.serve_of_up c f h.1, s.before_of_none c h.2]

/-- A request commanded during the start-up waits. -/
theorem State.serve_of_startup (s : State) (c : Instr) (f : State → State) (h : s.startup ≠ none) :
    s.serve c f = s.keepWaiting c := by
  simp only [State.serve]
  split
  · rfl
  · exact absurd ‹_› h

/-- A waiting request reaches the request buffer alone. -/
theorem State.keepWaiting_eq (s : State) (c : Instr) :
    s.keepWaiting c = { s with port := { s.port with buffer := (s.keepWaiting c).port.buffer } } := by
  simp only [State.keepWaiting]
  split
  · rfl
  · split <;> rfl

/-- Only a request is carried out. -/
theorem State.carryOut_of_event (s : State) (c : Instr) (h : encodeRequest c = none) : s.carryOut c = s := by
  cases c <;> first
    | (exact absurd h (by simp only [encodeRequest]; exact Option.some_ne_none _))
    | (rename_i restore; cases restore <;> exact absurd h (by simp only [encodeRequest]; exact Option.some_ne_none _))
    | (simp only [State.carryOut])

/-- A request of the start-up that the port cannot receive now leaves no trace. -/
theorem State.keepWaiting_of_notReceiving (s : State) (c : Instr) (h : s.port.receivesFrame = false) :
    s.keepWaiting c = s := by
  simp only [State.keepWaiting, h, Bool.false_and]
  split <;> rfl

/-! ### The stopped pipe (R173, R174) -/

/-- While the pipe is stopped the gap timer does not run out. -/
theorem Port.gapRunOut_of_stopped (p : Port) (clock : Time) (h : p.accepting = false) :
    p.gapRunOut clock = false := by simp only [Port.gapRunOut, h, Bool.false_and]

/-- A timer that has run out belongs to a frame in assembly, and the pipe accepts data. -/
theorem Port.gapRunOut_iff (p : Port) (clock : Time) :
    p.gapRunOut clock = true ↔ p.accepting = true ∧ p.assembling = true ∧ ranOut p.gap clock = true := by
  simp only [Port.gapRunOut, Bool.and_eq_true, and_assoc]

/-- While the pipe accepts data a microsecond leaves the port alone. -/
theorem Port.passMicrosecond_of_accepting (p : Port) (h : p.accepting = true) : p.passMicrosecond = p := by
  simp only [Port.passMicrosecond, h, if_true]

@[simp] theorem Port.passMicrosecond_attached (p : Port) : p.passMicrosecond.attached = p.attached := by
  unfold Port.passMicrosecond; split <;> rfl
@[simp] theorem Port.passMicrosecond_receiver (p : Port) : p.passMicrosecond.receiver = p.receiver := by
  unfold Port.passMicrosecond; split <;> rfl
@[simp] theorem Port.passMicrosecond_buffer (p : Port) : p.passMicrosecond.buffer = p.buffer := by
  unfold Port.passMicrosecond; split <;> rfl
@[simp] theorem Port.passMicrosecond_errors (p : Port) : p.passMicrosecond.errors = p.errors := by
  unfold Port.passMicrosecond; split <;> rfl

/-! ### The tie of a conversion (R114, R117) -/

/-- Untying a conversion from a bay leaves it running and ends its tie when it is for that bay. -/
theorem Converter.untie_tieEnded (c : Converter) (b : BayNo) : (c.untie b).tieEnded c b := by
  cases c <;> simp [Converter.tieEnded, Converter.untie]

/-- A conversion tied to no window of the bay is left as it is. -/
theorem Converter.untie_of_notTied (c : Converter) (b : BayNo) (h : c.tiedTo ≠ some b) : c.untie b = c := by
  cases c with
  | idle => rfl
  | converting granted ends tied =>
    cases tied <;> simp_all [Converter.tiedTo, Converter.untie]

end Sys2Proof.Machine
end

