-- ==== Sys2Proof/Laws/Sampling.lean ====
section
/-! SUPPORT. The square root of the statistics, and the order in which the arbiter looks at the bays. -/

namespace Sys2Proof.Machine

/-- The bits found so far bracket the root; when none is left to try, they are the root. -/
theorem sqrtBits_spec : ∀ (k x r : Nat), r * r ≤ x → x < (r + 2 ^ k) * (r + 2 ^ k) →
    sqrtBits k x r * sqrtBits k x r ≤ x ∧ x < (sqrtBits k x r + 1) * (sqrtBits k x r + 1)
  | 0, x, r, low, high => by simpa [sqrtBits] using And.intro low high
  | k + 1, x, r, low, high => by
    rw [sqrtBits]
    split
    · rename_i h
      refine sqrtBits_spec k x _ h ?_
      rw [Nat.pow_succ] at high
      rwa [Nat.add_assoc, ← Nat.mul_two]
    · rename_i h
      exact sqrtBits_spec k x r low (Nat.lt_of_not_le h)

/-- The root is the largest whole number whose square does not exceed x (R123). -/
theorem floorSqrt_spec (x : Nat) : floorSqrt x * floorSqrt x ≤ x ∧ x < (floorSqrt x + 1) * (floorSqrt x + 1) := by
  refine sqrtBits_spec _ x 0 (Nat.zero_le _) ?_
  have h1 : x < 2 ^ (x.log2 + 1) := Nat.lt_log2_self
  have h2 : 2 ^ (x.log2 + 1) ≤ 2 ^ ((x.log2 / 2 + 1) + (x.log2 / 2 + 1)) := Nat.pow_le_pow_right (by omega) (by omega)
  rw [Nat.zero_add, ← Nat.pow_add]
  exact Nat.lt_of_lt_of_le h1 h2

/-- A number is below the root exactly when its square does not exceed x. -/
theorem le_floorSqrt {n x : Nat} : n ≤ floorSqrt x ↔ n * n ≤ x := by
  obtain ⟨low, high⟩ := floorSqrt_spec x
  constructor
  · intro h; exact Nat.le_trans (Nat.mul_self_le_mul_self h) low
  · intro h
    by_contra hn
    have : (floorSqrt x + 1) * (floorSqrt x + 1) ≤ n * n := Nat.mul_self_le_mul_self (by omega)
    omega

/-- The search of the arbiter covers every bay. -/
theorem mem_searchOrder (last b : BayNo) : b ∈ searchOrder last := by
  revert last b; decide

/-- The next grant goes to a bay whose window is OPEN, and there is none exactly when every window is CLOSED. -/
theorem State.nextGrant_open (s : State) {b : BayNo} (h : s.nextGrant = some b) : (s.bay b).window.isOpen := by
  simpa using List.find?_some h

theorem State.nextGrant_none (s : State) (h : s.nextGrant = none) (b : BayNo) : (s.bay b).window.isOpen = false := by
  simpa using List.find?_eq_none.1 h b (mem_searchOrder s.lastGranted b)

end Sys2Proof.Machine
end

