-- ==== Sys2Proof/Tests/Slice0.lean ====
section
/-! SUPPORT. Tests: the manual's worked figures, the checks of WellFormed, one step of the commands on small
states, and for every statement with hypotheses a witness that meets them. -/

namespace Sys2Proof.Tests

open Sys2Proof Sys2Proof.Machine

set_option Elab.async false

/-! ### WellFormed refuses an operand list that its frame cannot carry -/

def blockOf (n : Nat) : List Byte := List.replicate n 0x55

theorem test_wellFormed_putTunnel_too_long :
    (Instr.putTunnel 0 (blockOf 1024)).wellFormed = false ∧ (Instr.putTunnel 0 (blockOf 1023)).wellFormed = true := by
  decide +kernel

theorem test_wellFormed_armGather_too_long :
    (Instr.armGather 1 0 0 0 100 0 (blockOf 1015)).wellFormed = false ∧
    (Instr.armGather 1 0 0 0 100 0 (blockOf 1014)).wellFormed = true := by decide +kernel

theorem test_wellFormed_requestFrame_length :
    (Instr.requestFrameAccepted ⟨2, 1, 0, [7], 0⟩).wellFormed = false ∧
    (Instr.requestFrameCheckFail ⟨1025, 1, 0, blockOf 1025, 0⟩).wellFormed = false ∧
    (Instr.requestFrameCheckFail ⟨1024, 1, 0, blockOf 1024, 0⟩).wellFormed = true := by decide +kernel

theorem test_wellFormed_bayFrame_length :
    (Instr.signOnAccepted 0 ⟨0x81, 0, 5, [1, 2, 3, 4], 0⟩).wellFormed = false ∧
    (Instr.answerAccepted 0 ⟨0x82, 0, 1, [], 0⟩).wellFormed = false ∧
    (Instr.tunnelInAccepted 0 ⟨0x83, 0, 0, [1], 0⟩).wellFormed = false ∧
    (Instr.bayFrameRejected 0 ⟨0x83, 0, 2, [1], 0⟩).wellFormed = false := by decide +kernel

/-! ### The manual's worked figures -/

/-- R21: the check over "123456789", and over no byte. -/
theorem test_crc_figures :
    crc [0x31, 0x32, 0x33, 0x34, 0x35, 0x36, 0x37, 0x38, 0x39] = 0x29B1 ∧ crc [] = 0xFFFF := by decide +kernel

/-- R100: the rows of the worked table, rounding. -/
theorem test_scaling_rounds :
    scaleExact (-12345) 3 8 100 = -4529 ∧ scaleExact 4 1 8 0 = 1 ∧ scaleExact (-4) 1 8 0 = -1 ∧
    scaleExact 7 1 2 (-1) = 3 ∧ scaleExact (-7) 1 2 (-1) = -5 ∧ scaleExact 1 1 3 0 = 0 ∧ scaleExact 2 1 3 0 = 1 ∧
    scaleExact 16383 1 32767 0 = 0 ∧ scaleExact 16384 1 32767 0 = 1 ∧ scaleExact 99 0 7 (-250) = -250 := by
  decide +kernel

/-- R101: the rows of the worked table, saturation. -/
theorem test_scaling_saturates :
    saturate32 (scaleExact 2000000000 2 1 0) = 0x7FFFFFFF ∧ clipped (scaleExact 2000000000 2 1 0) = true ∧
    saturate32 (scaleExact (-2147483648) 32767 32767 0) = 0x80000000 ∧
    clipped (scaleExact (-2147483648) 32767 32767 0) = false ∧
    clipped (scaleExact 2147483647 1 1 0) = false ∧ clipped (scaleExact 2147483647 1 1 1) = true ∧
    saturate32 (scaleExact (-2147483648) 1 1 (-1)) = 0x80000000 ∧
    clipped (scaleExact (-2147483648) 1 1 (-1)) = true := by decide +kernel

/-- R119, R120: the rows of the worked table. -/
theorem test_calibration_figures :
    calibrate ⟨4096, 0⟩ 1000 = 1000 ∧ calibrate ⟨4200, -3⟩ 1000 = 1022 ∧ calibrate ⟨2048, 0⟩ 1 = 1 ∧
    calibrate ⟨2048, 0⟩ 3 = 2 ∧ calibrate ⟨2047, 0⟩ 1 = 0 ∧ calibrate ⟨4096, -5⟩ 3 = -2 ∧
    clampSample (-2) = 0 ∧ sampleClamped (-2) = true ∧ calibrate ⟨8191, 511⟩ 4095 = 8700 ∧
    clampSample 8700 = 8191 ∧ sampleClamped 8700 = true ∧ calibrate ⟨0, 40⟩ 777 = 40 := by decide +kernel

/-- R123: the five samples of the worked figure give mean 852, rms 856, peak 1030 and min 798. -/
theorem test_statistics_figure :
    ([812, 815, 1030, 798, 805].foldl Accumulator.credit Accumulator.cleared).stats =
      some { n := 5, mean := 852, rms := 856, peak := 1030, min := 798, sat := false, clamp := false } := by
  decide +kernel

/-- R122: a sample after the 65 535th is discarded with SAT set. -/
theorem test_sample_saturation :
    Accumulator.credit ⟨65535, 9, 9, some 0, some 1, false, false⟩ 5 = ⟨65535, 9, 9, some 0, some 1, true, false⟩ := by
  decide +kernel

/-- R106: an rms of 856 mA sets DRAW under a limit of 850 mA and not under one of 856 mA. -/
theorem test_draw_figure :
    let stats : Stats := { n := 5, mean := 852, rms := 856, peak := 1030, min := 798, sat := false, clamp := false }
    let slot := { Slot.outside with stats := some stats }
    drawFound { Profile.builtIn with currentMa := 850 } true slot = true ∧
    drawFound { Profile.builtIn with currentMa := 856 } true slot = false := by decide +kernel

/-- R175: an unknown code and a wrong length are told apart, and CYCLE_BAY has two lengths. -/
theorem test_decode_requests :
    decodeRequest 0x08 [] = .unknown ∧ decodeRequest 0x01 [0] = .badLength ∧
    decodeRequest 0x12 [3, 0xE8, 0x03] = .request (.cycleBay 3 1000 none) ∧
    decodeRequest 0x12 [3, 0xE8, 0x03, 2] = .request (.cycleBay 3 1000 (some 2)) ∧
    decodeRequest 0x30 [2, 0x54, 0x01, 0xAA, 0x00, 1] = .request (.setRing 2 340 170 1) := by decide +kernel

/-- R22, R25: a sign-on body names its serial's length, and an answer's value is there when its flag says so. -/
theorem test_bay_bodies :
    readSignOn [2, 1, 2, 0x41, 0x42] = some ⟨0x0102, [0x41, 0x42]⟩ ∧ readSignOn [2, 1, 3, 0x41, 0x42] = none ∧
    readSignOn [2, 1, 1, 0x1F] = none ∧ readAnswer [0, 1, 1, 0, 0, 0, 9] = some ⟨0, some 1, [9]⟩ ∧
    readAnswer [5, 0, 9] = some ⟨5, none, [9]⟩ ∧ readAnswer [0, 1, 1] = none ∧ readAnswer [0, 2] = none := by
  decide +kernel

/-- R154: a timer that expires at a clock value has run out at it and after it, across the wrap of the clock. -/
theorem test_timer_across_wrap :
    reached (expiryAfter 0xFFFFFFFFFFFF 2) 1 = true ∧ reached (expiryAfter 0xFFFFFFFFFFFF 2) 0 = false ∧
    interval 0xFFFFFFFFFFFF 4 = 5 := by decide +kernel

/-! ### A station with a bay in every state

The witnesses below are states in which all hypotheses of a statement hold together. Most are this one: the
clock at 100 s, every running timer run out at 99 s, and each bay in a state of its own. -/

def late : Time := 99000000

def agent : Identity := { serial := [0x41], version := 1, time := 5 }

/-- A READY bay with its supply FULL, its rail up and the first sync bytes of a frame received. -/
def readyBay (b : BayNo) : Bay :=
  { Bay.reset b with
    state := .ready, contact := true, present := true, identity := some agent, signOns := 1
    link := { Link.reset with receiver := .inFrame [], gap := some late, transmitter := .idle, nextTag := 1 }
    supply := { Supply.reset with mode := .on .full, comparator := .watching 4000, detector := .clear } }

def unpoweredBay (b : BayNo) : Bay := { Bay.reset b with state := .unpowered, contact := true, present := true }

/-- Three samples of 10, 20 and 30 mA. -/
def samples : Accumulator :=
  { n := 3, sum := 60, sumSquares := 1400, minimum := some 10, maximum := some 30, sat := false, clamp := false }

def fleetBay (b : BayNo) : Bay :=
  match b.val with
  | 1 => unpoweredBay b
  | 2 => { unpoweredBay b with
      state := .cycling, queue := [0], supply := { Supply.reset with saved := .limited, cycleTimer := some late } }
  | 3 => { readyBay b with
      state := .waking, queue := [0]
      supply := { Supply.reset with mode := .on .limited, comparator := .watching 600, detector := .low }
      link := { (readyBay b).link with wakeTimer := some late, receiver := .syncSeen } }
  | 4 => { readyBay b with queue := [0] }
  | 5 => { readyBay b with
      state := .asking, queue := [1], contact := false, debounce := some late, window := .opened samples
      link := { (readyBay b).link with outstanding := some 7, nextTag := 8, answerTimer := some late } }
  | 6 => { readyBay b with state := .benched }
  | 7 => { readyBay b with state := .dark }
  | 8 => { unpoweredBay b with state := .faulted }
  | 9 => { readyBay b with link := { (readyBay b).link with
      transmitter := .sendingTunnel, tunnelOut := some [1], tunnelIn := some [2], receiver := .hunting } }
  | 10 => { readyBay b with
      state := .asking
      link := { (readyBay b).link with outstanding := some 1, nextTag := 2, transmitter := .sendingAsk } }
  | 11 => { readyBay b with state := .benched, link := { (readyBay b).link with tunnelOut := some [3] } }
  | 12 => { Bay.reset b with contact := true, debounce := some late }
  | _ => Bay.reset b

def queuedSlot : Slot := { Slot.outside with stage := .queued }

def sentSlot (tag : Byte) : Slot := { Slot.outside with stage := .sent, tag := some tag, sendTime := some 98000000 }

def fleetSlots : Vector Slot 24 :=
  (((((Vector.replicate 24 Slot.outside).set 2 queuedSlot).set 3 queuedSlot).set 4 queuedSlot).set 5 (sentSlot 7)).set 10
    { sentSlot 1 with sendTime := none }

def fleetGather (i : GatherNo) : Gather :=
  match i.val with
  | 0 => { Gather.free with
      state := .opened, serial := 1, bays := 0x43C, command := 0x1234, args := [9], failMask := 0xFF, timeoutMs := 100
      measure := true, summary := { Summary.cleared with queued := 3, sent := 2 }, slots := fleetSlots }
  | 1 => { Gather.free with
      state := .opened, serial := 2, bays := 0x20, timeoutMs := 10
      summary := { Summary.cleared with queued := 1 }, slots := (Vector.replicate 24 Slot.outside).set 5 queuedSlot }
  | 2 => { Gather.free with
      state := .done, serial := 3, bays := 0x1, timeoutMs := 10, lastFinal := some 5
      summary := { Summary.cleared with endings := { Summary.cleared.endings with skipped := 1 } }
      slots := (Vector.replicate 24 Slot.outside).set 0
        { Slot.outside with stage := .final, ending := some .skipped } }
  | _ => Gather.free

def fleet : State :=
  { State.reset with
    run := .run, startup := none, clock := 100000000, gatherSerial := 3
    port := { Port.reset with attached := true, receiver := .inFrame [], gap := some late }
    bays := Vector.ofFn fleetBay, gathers := Vector.ofFn fleetGather
    profiles := Profile.table.set 0 { Profile.builtIn with inUse := 2 }
    notices := { Notices.reset with tunnelIn := Notices.reset.tunnelIn.set 9 .unreported } }

theorem fleet_startup : fleet.startupConsistent := by unfold State.startupConsistent; decide +kernel
theorem fleet_bays : fleet.baysConsistent := by unfold State.baysConsistent; decide +kernel
theorem fleet_gathers : fleet.gathersConsistent := by unfold State.gathersConsistent; decide +kernel
theorem fleet_queues : fleet.queuesAgree := by unfold State.queuesAgree; decide +kernel
theorem fleet_asks : fleet.asksAgree := by unfold State.asksAgree; decide +kernel
theorem fleet_windows : fleet.windowsAgree := by unfold State.windowsAgree; decide +kernel

/-- The whole table of the example station agrees. -/
theorem fleet_table : fleet.tableAgrees :=
  ⟨fleet_startup, fleet_bays, fleet_gathers, fleet_queues, fleet_asks, fleet_windows⟩

theorem fleet_rings : fleet.ringsConsistent := by unfold State.ringsConsistent; decide +kernel
theorem fleet_causes : fleet.causesConsistent := by unfold State.causesConsistent; decide +kernel
theorem fleet_inUse : fleet.inUseAgrees := by unfold State.inUseAgrees; decide +kernel
theorem fleet_profiles : fleet.profilesConsistent := by
  unfold State.profilesConsistent Profile.definitionKept; decide +kernel

theorem fleet_accumulators : fleet.accumulatorsConsistent := by
  have h : ∀ b : BayNo, (fleet.bay b).window = .closed ∨ (fleet.bay b).window = .opened samples := by decide +kernel
  intro b a hb
  rcases h b with h | h
  · rw [h] at hb; cases hb
  · rw [h] at hb; cases hb; simp [Accumulator.consistent, samples]

/-- The start-up of the example station is over and no request is in hand. -/
theorem fleet_clear : fleet.portClear := by decide +kernel
theorem fleet_hand : fleet.requestInHand = none := by decide +kernel

/-! ### Frames, entries and changed states for the witnesses -/

/-- A request frame whose check is right, or wrong by one. -/
def requestOf (code seq : Byte) (body : List Byte) (wrong : Bool := false) : RequestFrame :=
  let f : RequestFrame := ⟨BitVec.ofNat 16 body.length, code, seq, body, 0⟩
  { f with check := crc (requestCovered f) + (if wrong then 1 else 0) }

/-- A bay frame whose check is right, or wrong by one. -/
def bayFrameOf (kind tag : Byte) (body : List Byte) (wrong : Bool := false) : BayFrame :=
  let f : BayFrame := ⟨kind, tag, BitVec.ofNat 8 body.length, body, 0⟩
  { f with check := crc (bayCovered f) + (if wrong then 1 else 0) }

def replyingEntry : Entry := { code := 0x04, seq := 1, body := [], phase := .replying [0x3C] }
def handEntry (discard : Bool) : Entry := { code := 0x01, seq := 2, body := [], phase := .inHand discard }
def waitingEntry : Entry := { code := 0x01, seq := 3, body := [], phase := .waiting }

/-- The example station with other entries in its request buffer. -/
def withBuffer (es : List Entry) : State := { fleet with port := { fleet.port with buffer := es } }

/-- The example station with another receiver at the station link. -/
def withReceiver (r : PortReceiver) : State := { fleet with port := { fleet.port with receiver := r } }

/-- The example station with its buffer full under a frame in assembly, which no run reaches (R174). -/
def stalled : State := withBuffer [replyingEntry, replyingEntry, replyingEntry, replyingEntry]

theorem replying_only : ∀ x ∈ [replyingEntry], ∃ frame, x.phase = .replying frame := by
  intro x hx; rw [List.mem_singleton.1 hx]; exact ⟨_, rfl⟩

/-- The example station with one bay changed. -/
def withBay (b : BayNo) (f : Bay → Bay) : State := fleet.modBay b f

/-- The example station while the start-up runs. -/
def starting : State := { fleet with startup := some 100005000 }

/-- The example station with no host attached. -/
def detached (s : State) : State := { s with port := { s.port with attached := false, receiver := .disabled, gap := none } }

/-! ### One step of the commands -/

def after (c : Instr) (s : State) : State :=
  match exec c s with
  | .next t => t
  | .fault _ => s
  | .refused _ => s

/-- Status and body of the reply to a request. -/
def replied (c : Instr) (s : State) : Option (Status × List Byte) :=
  (after c s).lastReply.map (fun r => (r.status, r.body))

/-- R160, R17: power-on begins HELD at clock 0, and 20 ms later a closed contact is a phone. -/
theorem test_power_on :
    let on := after (.powerOn true 0x4 true) fleet
    let up := after .startupDebounceEnd { on with clock := 20000 }
    on.run = .held ∧ on.clock = 0 ∧ on.stopLine = true ∧ (up.bay 2).state = .unpowered ∧ (up.bay 1).state = .vacant ∧
    up.startup = none := by decide +kernel

/-- R160: a request in the 20 ms after power-on waits in the buffer and is taken when the start-up ends; with no host
attached it stays at the host. -/
theorem test_requests_wait_for_the_start_up :
    let on := after (.powerOn false 0 true) fleet
    let asked := after (.getParam 9) on
    let up := after .startupDebounceEnd { asked with clock := 20000 }
    asked.port.buffer = [{ code := 0x02, seq := 0, body := [9], phase := .waiting }] ∧ asked.lastReply = none ∧
    up.requestInHand = some (.getParam 9) ∧ replied (.getParam 9) up = some (.ok, [9, 0, 0, 0, 0]) ∧
    (after (.getParam 9) (after (.powerOn false 0 false) fleet)).port.buffer = [] := by decide +kernel

/-- R172, R173, R174: with a frame in assembly a request of the start-up stays at the host, so that four of them cannot
fill the buffer under the frame; a stall of any length discards no frame, and the gap timer keeps its time. -/
theorem test_a_stopped_pipe_suspends_the_gap_timer :
    let s := after (.requestSyncReceived 0xC3) { starting with port := Port.reset }
    s.port.receiver = .inFrame [] ∧ (after (.getParam 9) s).port.buffer = [] ∧
    after .requestGapExpiry stalled = stalled ∧
    stalled.passMicrosecond.port.gap = some (late + 1) ∧
    (after .requestGapExpiry { stalled with port := { stalled.port with buffer := [] } }).port.errors = 1 :=
  by decide +kernel

/-- R175: RESUME taken before an assertion of the stop line is carried out before it; GET_PARAM taken before a stale
answer reads the state before it. -/
theorem test_a_request_reads_the_state_at_which_it_was_taken :
    let s := after (.requestFrameAccepted (requestOf 0x06 4 [])) { fleet with run := .held }
    let t := after (.stopLineChange true) s
    s.requestInHand = some .resume ∧ t.run = .held ∧ t.stopLine = true ∧ t.lastReply.map (·.status) = some .ok ∧
    t.port.buffer.map (·.phase) = [.replying (replyFrame 0x06 4 ⟨.ok, ⟨true, false, false⟩, []⟩)] := by decide +kernel

/-- R154, R115: with nothing due the clock runs on; a conversion that has run its 10 us ends. -/
theorem test_the_clock_runs :
    step State.reset = .next { State.reset with clock := 1 } ∧
    (match step { State.reset with converter := .converting 5 0 true } with
      | .next t => t.pending = [.conversionEnd (Config.railCode 0)] ∧ t.railReads = 1
      | _ => False) := ⟨rfl, rfl, rfl⟩

/-- R155 to R157: part code 0x0F24, revision 1, 24 bays; a wake timeout of 500 ms becomes 1000 ms. -/
theorem test_parameters :
    (replied .identify fleet).map (fun r => r.2.take 12) = some [0x24, 0x0F, 0, 0, 1, 0, 0, 0, 24, 0, 0, 0] ∧
    replied (.getParam 2) fleet = some (.ok, [2, 24, 0, 0, 0]) ∧
    replied (.getParam 9) fleet = some (.ok, [9, 0xFE, 0x0F, 0, 0]) ∧
    replied (.setParam 5 500) fleet = some (.ok, [5, 0xE8, 0x03, 0, 0]) ∧
    replied .readClock fleet = some (.ok, [0x00, 0xE1, 0xF5, 0x05, 0, 0]) := by decide +kernel

/-- R147, R148, R150: HOLD, a RESUME refused while the stop line is asserted, and an assertion in HOLD function. -/
theorem test_run_state :
    (after .hold fleet).run = .held ∧ replied .resume { fleet with stopLine := true } = some (.stopAsserted, []) ∧
    (after (.stopLineChange true) fleet).run = .held ∧ (after (.stopLineChange true) fleet).notices.stopLine = true := by
  decide +kernel

/-- R158, R159: a FAULTED bay stays FAULTED, the gathers are FREE and the clock runs on. -/
theorem test_station_reset :
    let t := after .stationReset fleet
    (t.bay 8).state = .faulted ∧ (t.bay 5).state = .unpowered ∧ (t.gather 0).state = .free ∧ t.gatherSerial = 0 ∧
    t.clock = fleet.clock ∧ t.run = .held := by decide +kernel

/-- R16: a FAULTED bay with a phone, 56 bytes. -/
theorem test_bay_status :
    (replied (.bayStatus 8) fleet).map (fun r => (r.2.length, r.2.take 4)) = some (56, [8, 8, 1, 0]) := by decide +kernel

/-- R43 to R45: a supply goes on from UNPOWERED, changes its mode, and goes off; a VACANT bay refuses. -/
theorem test_set_supply :
    replied (.setSupply 1 2) fleet = some (.ok, [3, 2]) ∧ replied (.setSupply 4 1) fleet = some (.ok, [4, 1]) ∧
    replied (.setSupply 5 0) fleet = some (.ok, [1, 0]) ∧ replied (.setSupply 0 1) fleet = some (.wrongState, []) ∧
    (((after (.setSupply 5 0) fleet).gather 0).slot 5).ending = some .lost ∧
    (((after (.setSupply 5 0) fleet).gather 1).slot 5).ending = some .unreached := by decide +kernel

/-- R52, R54: an off-time of 50 ms becomes 100 ms, and the cycle of bay 2 ends with a CYCLE_ON record in LIMITED. -/
theorem test_cycle :
    replied (.cycleBay 5 50 none) fleet = some (.ok, [100, 0, 2]) ∧
    ((after (.cycleTimerExpiry 2) fleet).bay 2).supply.mode = .on .limited ∧
    readCells (after (.cycleTimerExpiry 2) fleet).cells (340 * 96) 14 =
      [98, 0, 0, 0, 0, 0x00, 0xE1, 0xF5, 0x05, 0, 0, 4, 1, 0] := by decide +kernel

/-- R47, R49, R50: 600 mA is no trip in LIMITED and 601 mA is; a sag wakes the bay. -/
theorem test_trip_and_sag :
    ((after (.trip 3 600) fleet).bay 3).state = .waking ∧ ((after (.trip 3 601) fleet).bay 3).state = .faulted ∧
    ((after (.trip 3 601) fleet).bay 3).supply.trips = 1 ∧ ((after (.sag 5) fleet).bay 5).state = .waking ∧
    (((after (.sag 5) fleet).gather 0).slot 5).ending = some .lost ∧
    ((after (.railRiseClear 3) fleet).bay 3).supply.detector = .clear := by decide +kernel

/-- R13, R14: the three releases, a refused one, and a reset. -/
theorem test_release_and_reset :
    replied (.releaseBay 6) fleet = some (.ok, [4]) ∧ replied (.releaseBay 7) fleet = some (.ok, [3]) ∧
    replied (.releaseBay 8) fleet = some (.ok, [1]) ∧ replied (.releaseBay 4) fleet = some (.wrongState, [4]) ∧
    replied (.resetBay 5) fleet = some (.ok, [1]) ∧ ((after (.resetBay 5) fleet).bay 5).identity = none := by
  decide +kernel

/-- R3 to R5: an arrival at bay 12 and a removal from bay 5; a bounce back stops the timer. -/
theorem test_presence :
    ((after (.debounceExpiry 12) fleet).bay 12).state = .unpowered ∧
    ((after (.debounceExpiry 5) fleet).bay 5).state = .vacant ∧
    ((after (.presenceContactChange 5 true) fleet).bay 5).debounce = none ∧
    ((after (.presenceContactChange 1 false) fleet).bay 1).debounce = some 100020000 := by decide +kernel

/-- R9: the wake timer of bay 3 runs out and its queued slot ends UNREACHED. -/
theorem test_dark :
    ((after (.wakeTimerExpiry 3) fleet).bay 3).state = .dark ∧
    (((after (.wakeTimerExpiry 3) fleet).gather 0).slot 3).ending = some .unreached := by decide +kernel

/-- R35, R36, R39: rates and tunnel blocks. -/
theorem test_rate_and_tunnel :
    replied (.setLineRate 1 3) fleet = some (.ok, [3]) ∧ replied (.setLineRate 4 3) fleet = some (.wrongState, []) ∧
    replied (.putTunnel 9 [7]) fleet = some (.full, []) ∧ replied (.putTunnel 1 [7]) fleet = some (.wrongState, []) ∧
    replied (.getTunnel 9) fleet = some (.ok, [1, 1, 2]) ∧ replied (.peekTunnel 9) fleet = some (.ok, [1, 1, 2]) ∧
    (after (.getTunnel 9) fleet).notices.tunnelIn.get 9 = .inactive ∧
    ((after (.tunnelOutSent 9) fleet).bay 9).link.tunnelOut = none := by decide +kernel

/-- R67, R82, R86 to R88: a gather armed in entry 3 with a timeout of 5 ms, which becomes 10 ms; reads, a cancel that
completes gather 1, and a release. -/
theorem test_gathers :
    replied (.armGather 0x10 5 0 0 5 0 []) fleet = some (.ok, [3, 4, 0, 10, 0]) ∧
    ((after (.armGather 0x10 5 0 0 5 0 []) fleet).bay 4).queue = [0, 3] ∧
    ((replied (.gatherStatus 0 1) fleet).map (fun r => r.2.length)) = some 60 ∧
    replied (.gatherStatus 0 2) fleet = some (.notFound, []) ∧
    ((replied (.gatherSlot 0 1 5) fleet).map (fun r => (r.2.length, r.2.take 5))) = some (42, [0, 1, 0, 5, 2]) ∧
    replied (.cancelGather 1 2) fleet = some (.ok, [2]) ∧ replied (.cancelGather 0 1) fleet = some (.ok, [1]) ∧
    replied (.releaseGather 2 3) fleet = some (.ok, []) ∧ replied (.releaseGather 0 1) fleet = some (.wrongState, []) := by
  decide +kernel

/-- R28, R67: the ask tag goes from 255 to 1 and the gather serial from 65535 to 1. -/
theorem test_wraps : nextAskTag 255 = 1 ∧ nextAskTag 254 = 255 ∧ nextSerial 65535 = 1 ∧ nextSerial 0 = 1 := by
  decide +kernel

/-- R93 to R97: a divisor of 0, profile 0 and an undefined profile. -/
theorem test_profiles :
    replied (.defineProfile 4 1 1 0 0 0 0 0 0) fleet = some (.badParam, []) ∧
    replied (.defineProfile 0 1 1 1 0 0 0 0 0) fleet = some (.badParam, []) ∧
    replied (.defineProfile 4 1 1 1 0 0 0 60001 0) fleet = some (.ok, [4, 0x60, 0xEA]) ∧
    replied (.readProfile 4) fleet = some (.notFound, []) ∧ replied (.clearStats 0) fleet = some (.ok, []) := by
  decide +kernel

/-- R138 to R144: ring requests at bay 1, whose window is empty, and at bay 5, which has a slot in flight. -/
theorem test_rings :
    replied (.setRing 1 4090 6 1) fleet = some (.ok, [0xFA, 0x0F, 6, 0, 1]) ∧
    replied (.setRing 5 4090 6 1) fleet = some (.busy, []) ∧ replied (.setRing 1 0 1 1) fleet = some (.badParam, []) ∧
    replied (.readResults 23 8) fleet = some (.ok, [23, 0, 0, 0]) ∧
    replied (.clearDrops 23 1 1) fleet = some (.ok, [0, 0, 0, 0]) ∧
    ((replied (.ringStatus 23) fleet).map (fun r => (r.2.length, r.2.take 5))) = some (23, [23, 0x46, 0x0F, 170, 0]) := by
  decide +kernel

/-- R165, R166: the one notice of the example station, class 6 at bay 9. -/
theorem test_notices :
    replied .pollNotice fleet = some (.ok, [1, 6, 9, 0]) ∧
    replied .pollNotice (after .clearNotices fleet) = some (.ok, [0, 0, 0, 0]) := by decide +kernel

/-- R125 to R128: a gain of 9000 becomes 8191 and an offset of -600 becomes -512. -/
theorem test_calibration_store :
    replied (.writeCal 3 9000 (-600)) fleet = some (.ok, [3, 0xFF, 0x1F, 0x00, 0xFE]) ∧
    replied (.readCal 23) fleet = some (.ok, [23, 0x00, 0x10, 0, 0, 0]) ∧
    replied (.writeCal 3 1 1) (after .lockCal fleet) = some (.locked, []) ∧
    replied .unlockCal fleet = some (.wrongState, []) ∧ replied .unlockCal { State.reset with startup := none } = some (.ok, [0]) := by
  decide +kernel

/-- The example station with a conversion for bay 5 in progress. -/
def converting : State := { fleet with converter := .converting 5 late true, lastGranted := 4 }

/-- R114, R117: a conversion granted to a window that closes runs on, and its sample is discarded even when the bay has
a new window. -/
theorem test_a_closed_window_ends_the_tie :
    (after (.sag 5) converting).converter = .converting 5 late false ∧
    (after (.stopLineChange true) { converting with stopFunction := .abort }).converter = .converting 5 late false ∧
    (after (.sag 4) converting).converter = .converting 5 late true := by decide +kernel

/-- R29, R37: a sign-on of an idle BENCHED bay, and its release, begin the waiting tunnel frame. -/
theorem test_a_waiting_tunnel_frame_begins :
    ((after (.signOnAccepted 11 (bayFrameOf 0x81 0 [2, 0, 1, 0x42])) fleet).bay 11).link.frameOut.take 6 =
      [0xA5, 0x5A, 0x02, 0x00, 0x01, 0x03] ∧
    ((after (.releaseBay 11) fleet).bay 11).link.transmitter = .sendingTunnel := by decide +kernel

/-! ### Witnesses -/

theorem witness_StepCarriesOutTheFrontCommand :
    ({ fleet with pending := [.identify, .hold] } : State).pending = .identify :: [.hold] := rfl

theorem witness_AnEmptyQueueLetsTheBlockAct :
    fleet.pending = [] ∧ fleet.dueCommand = some .requestGapExpiry ∧
    (withReceiver .hunting).dueCommand = some (.cycleTimerExpiry 2) ∧
    State.reset.dueCommand = none ∧ State.reset.awaitsSample = false ∧
    ({ stalled with bays := State.reset.bays } : State).dueCommand = none ∧
    ({ stalled with bays := State.reset.bays } : State).awaitsSample = false ∧
    ({ State.reset with converter := .converting 0 0 true } : State).dueCommand = none ∧
    ({ State.reset with converter := .converting 0 0 true } : State).awaitsSample = true := by decide +kernel

theorem witness_AReplyGoesToTheRequestInHand (discard : Bool) :
    let s := withBuffer ([replyingEntry] ++ handEntry discard :: [waitingEntry])
    (encodeRequest .identify).isSome ∧ s.startup = none ∧
    s.port.buffer = [replyingEntry] ++ handEntry discard :: [waitingEntry] ∧
    (∀ x ∈ [replyingEntry], ∃ frame, x.phase = .replying frame) ∧ (handEntry discard).phase = .inHand discard ∧
    (∀ x ∈ [waitingEntry], x.phase = .waiting) ∧
    decodeRequest (handEntry discard).code (handEntry discard).body = .request .identify ∧
    s.requestInHand = some .identify ∧ passesRequests (.stopLineChange true) = false ∧
    Instr.identify ≠ .stopLineChange true ∧ (∃ t, exec .identify s = .next t) ∧ (blockOf 1024).length ≤ 1024 :=
  ⟨rfl, rfl, rfl, replying_only, rfl, by decide, by revert discard; decide +kernel,
    by revert discard; decide +kernel, rfl, by decide, ⟨_, rfl⟩, by decide +kernel⟩

theorem witness_AnIntactRequestJoinsTheBuffer :
    let f := requestOf 0x02 9 [4]
    fleet.port.attached = true ∧ fleet.port.buffer.length < 4 ∧ fleet.port.receiver = .inFrame [] ∧ [] <+: f.bytes ∧
    f.wellFormed ∧ requestIntact f ∧ fleet.startup = none ∧
    (∀ x ∈ (withBuffer [replyingEntry]).port.buffer, ∃ frame, x.phase = .replying frame) ∧
    bufferOrdered (withBuffer [replyingEntry, handEntry false, waitingEntry]).port.buffer ∧
    (∃ x ∈ (withBuffer [replyingEntry, handEntry false, waitingEntry]).port.buffer, ∃ discard, x.phase = .inHand discard) ∧
    starting.startup ≠ none ∧ encodeRequest (.getParam 9) = some (0x02, [9]) ∧
    (let s := { starting with port := Port.reset }
     s.startup ≠ none ∧ s.port.attached = true ∧ s.port.buffer.length < 4 ∧ s.port.receiver = .hunting ∧
     (Instr.getParam 9).wellFormed) ∧
    starting.port.receiver ≠ .hunting ∧ (Instr.putTunnel 0 (blockOf 1024)).wellFormed = false ∧
    4 ≤ ({ stalled with startup := some 5 } : State).port.buffer.length ∧
    (detached starting).startup ≠ none ∧ (detached starting).port.attached = false :=
  ⟨rfl, by decide, rfl, List.nil_prefix, by decide +kernel, by decide +kernel, rfl, replying_only, by decide +kernel,
    ⟨handEntry false, by simp [withBuffer], false, rfl⟩, by decide, rfl, by decide, by decide, by decide +kernel, by decide,
    by decide, rfl⟩

theorem witness_TheRequestReceiverAssemblesAndDiscards :
    let bad := requestOf 0x02 9 [4] true
    stalled.requestInHand = none ∧ 4 ≤ stalled.port.buffer.length ∧ (detached fleet).requestInHand = none ∧
    (detached fleet).port.attached = false ∧
    fleet.requestInHand = none ∧ (withReceiver .hunting).requestInHand = none ∧
    (withReceiver (.inFrame [0x00, 0x00, 1, 2, 3])).requestInHand = none ∧ fleet.port.attached = true ∧
    fleet.port.buffer.length < 4 ∧ fleet.port.receiver = .inFrame [] ∧
    [] <+: bad.bytes ∧ bad.wellFormed ∧ requestIntact bad = false ∧ 1024 < (1025 : BitVec 16).toNat ∧
    fleet.port.gap = some late ∧ reached late fleet.clock ∧ reached late 98000000 = false ∧
    (withReceiver .hunting).port.receiver = .hunting ∧
    (field 16 [0x00, 0x04]).toNat ≤ 1024 ∧ (field 16 [0x01, 0x04]).toNat = 1025 ∧
    (withReceiver (.inFrame [0x00, 0x00, 1, 2, 3])).port.receiver = .inFrame (0x00 :: 0x00 :: [1, 2, 3]) ∧
    [1, 2, 3].length + 1 = 2 + (field 16 [0x00, 0x00]).toNat + 2 ∧
    [1, 2].length + 1 < 2 + (field 16 [0x00, 0x00]).toNat + 2 :=
  ⟨rfl, by decide, rfl, rfl, fleet_hand, rfl, rfl, rfl, by decide, rfl, List.nil_prefix, by decide +kernel, by decide +kernel, by decide, rfl,
    by decide +kernel, by decide +kernel, rfl, by decide, by decide, rfl, by decide, by decide⟩

theorem witness_DeliveryDetachAndAttach :
    (withBuffer [replyingEntry, waitingEntry]).port.attached = true ∧
    (withBuffer [replyingEntry, waitingEntry]).port.buffer = replyingEntry :: [waitingEntry] ∧
    replyingEntry.phase = .replying [0x3C] ∧ (∀ x ∈ [replyingEntry], ∃ frame, x.phase = .replying frame) ∧
    (∀ x ∈ [waitingEntry], x.phase = .waiting) ∧
    (withBuffer [replyingEntry, handEntry false, waitingEntry]).port.buffer =
      [replyingEntry] ++ handEntry false :: [waitingEntry] ∧
    (detached fleet).port.attached = false :=
  ⟨rfl, rfl, rfl, replying_only, by decide, rfl, rfl⟩

/-- Bay numbers at the edge of their range: 23 is a bay and 24 is none; the same for gathers and profiles. -/
theorem witness_numbers :
    bayOf 23 = some 23 ∧ bayOf 24 = none ∧ 23 < (24 : Byte).toNat ∧ gatherOf 15 = some 15 ∧ gatherOf 16 = none ∧
    15 < (16 : Byte).toNat ∧ profileOf 31 = some 31 ∧ profileOf 32 = none ∧ 31 < (32 : Byte).toNat := by decide +kernel

theorem witness_IdentifyReturnsParametersZeroToThree : fleet.startup = none ∧ (3 : Byte).toNat ≤ 3 := ⟨rfl, by decide⟩

theorem witness_ParametersAndClock :
    fleet.portClear ∧ (4 : Byte) = 4 ∧ (5 : Byte) = 5 ∧ (6 : Byte) = 6 ∧
    ((11 : Byte) ≠ 4 ∧ (11 : Byte) ≠ 5 ∧ (11 : Byte) ≠ 6) ∧
    11 ≤ (11 : Byte).toNat := by decide +kernel

theorem witness_BayStatusReportsTheBayRecord :
    fleet.portClear ∧
    bayOf 5 = some 5 ∧ (fleet.bay 5).queueConsistent ∧ (fleet.bay 5).ring.consistent ∧
    (fleet.bay 5).identity = some agent ∧ agent.serial.length ≤ 24 ∧ bayOf 0 = some 0 ∧ (fleet.bay 0).identity = none ∧
    (fleet.bay 0).queueConsistent ∧ (fleet.bay 0).ring.consistent ∧ 23 < (24 : Byte).toNat := by decide +kernel

theorem witness_GatherReadsReportTheGather :
    15 < (16 : Byte).toNat ∧ gatherOf 15 = some 15 ∧ (fleet.gather 15).state = .free ∧
    gatherOf 2 = some 2 ∧ (fleet.gather 2).state ≠ .free ∧ (fleet.gather 2).serial = 3 ∧
    (fleet.gather 2).serial ≠ 4 ∧ (fleet.gather 2).summaryConsistent ∧ (fleet.gather 2).lastFinal = some 5 ∧
    gatherOf 0 = some 0 ∧ bayOf 5 = some 5 ∧ (fleet.gather 0).state ≠ .free ∧ (fleet.gather 0).serial = 1 ∧
    ((fleet.gather 0).slot 5).payload.length ≤ 48 ∧ ((fleet.gather 0).slot 5).sendTime = some 98000000 ∧
    (fleet.gather 2).firstSend = none ∧ (fleet.gather 2).summary.lowest = none ∧ ((fleet.gather 0).slot 5).raw = none ∧
    fleet.portClear := by
  decide +kernel

theorem witness_ProfileAndRingReads :
    fleet.portClear ∧ (withBay 23 (fun x => { x with ring := { x.ring with occupancy := 170 } })).portClear ∧
    31 < (32 : Byte).toNat ∧ profileOf 31 = some 31 ∧ (fleet.profile 31).defined = false ∧ profileOf 0 = some 0 ∧
    (fleet.profile 0).defined = true ∧ (fleet.profile 0).inUse ≤ 16 ∧ 23 < (24 : Byte).toNat ∧ bayOf 23 = some 23 ∧
    (fleet.bay 23).ring.consistent ∧
    ((withBay 23 (fun x => { x with ring := { x.ring with occupancy := 170 } })).bay 23).ring.consistent ∧
    0 < ((withBay 23 (fun x => { x with ring := { x.ring with occupancy := 170 } })).bay 23).ring.occupancy := by
  decide +kernel

theorem witness_ReadCalReportsPairAndLock :
    fleet.startup = none ∧ 23 < (24 : Byte).toNat ∧ bayOf 23 = some 23 := by decide +kernel

def held : State := { fleet with run := .held }

theorem witness_RunStateAndStopLine :
    fleet.requestInHand = none ∧ fleet.startup = none ∧ ({ fleet with stopLine := true } : State).requestInHand = none ∧
    held.requestInHand = none ∧ held.startup = none ∧
    ({ fleet with stopLine := true } : State).stopLine = true ∧ fleet.stopLine = false ∧ fleet.run = .run ∧
    held.stopLine = false ∧ held.run = .held ∧
    (held.bay 9).link.transmitter ≠ .idle ∧
    (let s := held.modBay 9 (fun x => x.modLink (fun l => { l with transmitter := .idle }))
     s.requestInHand = none ∧ (s.bay 9).link.transmitter = .idle ∧ (s.bay 9).tunnelWaiting ∧
     (s.bay 9).link.tunnelOut = some [1]) ∧
    (let s := held.modBay 10 (fun x => x.modLink (fun l => { l with transmitter := .idle, pendingAsk := some ⟨1, 5, []⟩ }))
     s.requestInHand = none ∧ (s.bay 10).link.transmitter = .idle ∧ (s.bay 10).tunnelWaiting = false ∧
     (s.bay 10).link.pendingAsk = some ⟨1, 5, []⟩) ∧
    (held.bay 4).link.transmitter = .idle ∧ (held.bay 4).tunnelWaiting = false ∧ (held.bay 4).link.pendingAsk = none ∧
    fleet.stopFunction = .hold := by decide +kernel

theorem witness_AnAbortTakesEveryBayOutOfService :
    let s : State := { fleet with stopFunction := .abort }
    s.requestInHand = none ∧ s.tableAgrees ∧ s.stopLine = false ∧ s.stopFunction = .abort ∧ (s.bay 8).state = .faulted ∧
    (s.bay 5).state ≠ .faulted ∧ (s.gather 0).state = .opened ∧ (s.gather 2).state ≠ .opened ∧ s.ringsConsistent ∧
    Memory.wf s.cells :=
  ⟨rfl, fleet_table, rfl, rfl, by decide +kernel, by decide +kernel, by decide +kernel, by decide +kernel, fleet_rings,
    by decide +kernel⟩

theorem witness_StationResetSetsAndKeeps : fleet.portClear := fleet_clear

theorem witness_PowerOnAndStartUp :
    State.reset.startup = some 20000 ∧ reached 20000 ({ State.reset with clock := 20000 } : State).clock := by
  decide +kernel

theorem witness_SetSupplyTurnsOnOrChangesMode :
    fleet.portClear ∧
    23 < (24 : Byte).toNat ∧ 2 < (3 : Byte).toNat ∧ bayOf 0 = some 0 ∧ supplyModeOf 0 = some .off ∧
    (fleet.bay 0).state = .vacant ∧ bayOf 8 = some 8 ∧ (fleet.bay 8).state = .faulted ∧ bayOf 1 = some 1 ∧
    (fleet.bay 1).state = .unpowered ∧ supplyModeOf 1 = some (.on .limited) ∧ supplyModeOf 2 = some (.on .full) ∧
    bayOf 2 = some 2 ∧ (fleet.bay 2).state = .cycling ∧ bayOf 7 = some 7 ∧ (fleet.bay 7).state.supplyOff = false := by
  decide +kernel

theorem witness_SetSupplyOffTakesTheBayToUnpowered :
    fleet.portClear ∧
    fleet.tableAgrees ∧ bayOf 5 = some 5 ∧ (fleet.bay 5).state.supplyOff = false ∧ bayOf 2 = some 2 ∧
    (fleet.bay 2).state = .cycling := ⟨fleet_clear, fleet_table, by decide +kernel⟩

theorem witness_CycleBayBeginsAPowerCycle :
    fleet.portClear ∧
    fleet.tableAgrees ∧ 23 < (24 : Byte).toNat ∧ ((3 : Byte) ≠ 1 ∧ (3 : Byte) ≠ 2) ∧ ((0 : Byte) ≠ 1 ∧ (0 : Byte) ≠ 2) ∧
    (some 2 : Option Byte) ∈ [none, some 1, some 2] ∧ bayOf 2 = some 2 ∧ (fleet.bay 2).state = .cycling ∧
    bayOf 6 = some 6 ∧ (fleet.bay 6).state ∈ [.vacant, .unpowered, .benched, .faulted] ∧
    bayOf 7 = some 7 ∧ (fleet.bay 7).state ∈ [.waking, .ready, .asking, .dark] ∧ (fleet.bay 7).state ≠ .asking ∧
    (fleet.bay 7).supply.mode = .on .full ∧
    bayOf 5 = some 5 ∧ (fleet.bay 5).state ∈ [.waking, .ready, .asking, .dark] ∧
    (fleet.bay 5).supply.mode = .on .full := ⟨fleet_clear, fleet_table, by decide +kernel⟩

theorem witness_TheEndOfACycleWakesTheBay :
    fleet.requestInHand = none ∧
    (fleet.bay 2).state = .cycling ∧ (fleet.bay 2).supply.cycleTimer = some late ∧ reached late fleet.clock := by
  decide +kernel

theorem witness_ATripFaultsTheBay :
    fleet.requestInHand = none ∧
    fleet.tableAgrees ∧ (fleet.bay 3).supply.mode = .on .limited ∧
    (if OnMode.limited = .limited then 600 else 4000) < 601 ∧ (fleet.bay 5).supply.mode = .on .full ∧
    (if OnMode.full = .limited then 600 else 4000) < 4001 ∧ (fleet.bay 7).supply.mode = .on .full ∧
    (fleet.bay 7).state ≠ .asking ∧ (fleet.bay 7).queue = [] := ⟨fleet_hand, fleet_table, by decide +kernel⟩

theorem witness_ASagWakesTheBayAgain :
    fleet.requestInHand = none ∧
    fleet.tableAgrees ∧ (fleet.bay 3).supply.detector = .low ∧ (fleet.bay 3).supply.detector ≠ .clear ∧
    (fleet.bay 5).supply.mode = .on .full ∧ (fleet.bay 5).supply.detector = .clear ∧
    (fleet.bay 7).supply.mode = .on .full ∧ (fleet.bay 7).supply.detector = .clear ∧ (fleet.bay 7).state ≠ .asking :=
  ⟨fleet_hand, fleet_table, by decide +kernel⟩

theorem witness_ReleaseBayReturnsAWaitingBay :
    fleet.portClear ∧
    23 < (24 : Byte).toNat ∧ bayOf 4 = some 4 ∧ (fleet.bay 4).state ∉ [.benched, .dark, .faulted] ∧
    bayOf 6 = some 6 ∧ (fleet.bay 6).state = .benched ∧ held.run = .held ∧ bayOf 7 = some 7 ∧
    (fleet.bay 7).state = .dark ∧ bayOf 8 = some 8 ∧ (fleet.bay 8).state = .faulted ∧ fleet.run = .run ∧
    (fleet.bay 6).link.transmitter = .idle ∧ (fleet.bay 6).link.tunnelOut = none ∧
    (fleet.bay 6).link.pendingAsk = none ∧ bayOf 11 = some 11 ∧ (fleet.bay 11).state = .benched ∧
    (fleet.bay 11).link.transmitter = .idle ∧ (fleet.bay 11).link.tunnelOut = some [3] ∧ held.portClear ∧
    (let s := withBay 6 (fun x => x.modLink (fun l => { l with pendingAsk := some ⟨1, 5, []⟩ }))
     s.portClear ∧ (s.bay 6).state = .benched ∧ s.run = .run ∧ (s.bay 6).link.transmitter = .idle ∧
     (s.bay 6).link.tunnelOut = none ∧ (s.bay 6).link.pendingAsk = some ⟨1, 5, []⟩) := by decide +kernel

theorem witness_ResetBayClearsAndKeeps :
    fleet.portClear ∧
    23 < (24 : Byte).toNat ∧ fleet.tableAgrees ∧ bayOf 5 = some 5 :=
  ⟨fleet_clear, by decide, fleet_table, by decide +kernel⟩

theorem witness_PresenceIsDebounced :
    fleet.requestInHand = none ∧ ({ fleet with clock := 98999999 } : State).requestInHand = none ∧
    (fleet.bay 1).contact ≠ false ∧ fleet.startup = none ∧ (fleet.bay 1).contact = true ∧
    (fleet.bay 12).debounce = some late ∧ reached late ({ fleet with clock := 98999999 } : State).clock = false ∧
    reached late fleet.clock ∧ (fleet.bay 12).contact = true ∧ (fleet.bay 12).present = false := by decide +kernel

theorem witness_ARemovalClearsTheBay :
    fleet.requestInHand = none ∧
    fleet.tableAgrees ∧ (fleet.bay 5).debounce = some late ∧ reached late fleet.clock ∧
    (fleet.bay 5).contact = false ∧ (fleet.bay 5).present = true := ⟨fleet_hand, fleet_table, by decide +kernel⟩

theorem witness_ASignOnReplacesTheIdentity :
    fleet.requestInHand = none ∧
    fleet.tableAgrees ∧ (fleet.bay 5).link.accepts kindSignOn (bayFrameOf 0x81 0 [2, 0, 1, 0x42]) ∧
    readSignOn (bayFrameOf 0x81 0 [2, 0, 1, 0x42]).body = some ⟨2, [0x42]⟩ ∧
    (fleet.bay 6).state = .benched ∧ (fleet.bay 6).link.accepts kindSignOn (bayFrameOf 0x81 0 [2, 0, 1, 0x42]) ∧
    (fleet.bay 6).state ≠ .asking ∧ (fleet.bay 6).link.tunnelOut = none ∧ fleet.run = .run ∧
    (fleet.bay 11).link.accepts kindSignOn (bayFrameOf 0x81 0 [2, 0, 1, 0x42]) ∧
    (fleet.bay 11).link.transmitter = .idle ∧ (fleet.bay 11).link.tunnelOut = some [3] :=
  ⟨fleet_hand, fleet_table, by decide +kernel⟩

theorem witness_TheWakeTimerEndsInDark :
    fleet.requestInHand = none ∧
    fleet.tableAgrees ∧ (fleet.bay 3).state = .waking ∧ (fleet.bay 3).link.wakeTimer = some late ∧
    reached late fleet.clock := ⟨fleet_hand, fleet_table, by decide +kernel⟩

theorem witness_SetLineRateOnlyWhileUnpowered :
    fleet.portClear ∧
    23 < (24 : Byte).toNat ∧ 3 < (4 : Byte).toNat ∧ bayOf 7 = some 7 ∧ (3 : Byte).toNat ≤ 3 ∧
    (fleet.bay 7).state ∉ [.vacant, .unpowered] ∧ bayOf 23 = some 23 ∧ (3 : Byte).toNat = (3 : Fin 4).val ∧
    (fleet.bay 23).state ∈ [.vacant, .unpowered] := by decide +kernel

theorem witness_TunnelBlocksGoOut :
    fleet.portClear ∧ fleet.requestInHand = none ∧
    23 < (24 : Byte).toNat ∧ bayOf 4 = some 4 ∧ 64 < (blockOf 65).length ∧ (blockOf 64).length ≤ 64 ∧
    bayOf 9 = some 9 ∧ (fleet.bay 9).link.tunnelOut ≠ none ∧ bayOf 1 = some 1 ∧ (fleet.bay 1).link.tunnelOut = none ∧
    (fleet.bay 1).state.supplyOff ∧ (fleet.bay 4).link.tunnelOut = none ∧
    (fleet.bay 4).state ∈ [.ready, .asking, .benched] ∧ fleet.run = .run ∧ (fleet.bay 4).link.transmitter = .idle ∧
    bayOf 7 = some 7 ∧ (fleet.bay 7).link.tunnelOut = none ∧ (fleet.bay 7).state ∈ [.waking, .dark] ∧
    (fleet.bay 7).link.pendingAsk = none ∧ bayOf 10 = some 10 ∧ (fleet.bay 10).link.tunnelOut = none ∧
    (fleet.bay 10).state.supplyOff = false ∧ (fleet.bay 10).link.transmitter ≠ .idle ∧
    (fleet.bay 9).link.transmitter = .sendingTunnel ∧ (fleet.bay 9).link.pendingAsk = none ∧
    (let s := withBay 9 (fun x => x.modLink (fun l => { l with pendingAsk := some ⟨1, 5, []⟩ }))
     (s.bay 9).link.transmitter = .sendingTunnel ∧ (s.bay 9).link.pendingAsk = some ⟨1, 5, []⟩ ∧ s.run = .run ∧
     s.requestInHand = none) := by
  decide +kernel

theorem witness_TunnelBlocksComeIn :
    fleet.requestInHand = none ∧ fleet.startup = none ∧
    (fleet.bay 4).link.accepts kindTunnelIn (bayFrameOf 0x83 0 (blockOf 64)) ∧ (fleet.bay 4).link.tunnelIn = none ∧
    (let s := withBay 4 (fun x => x.modLink (fun l => { l with tunnelIn := some [2] }))
     (s.bay 4).link.accepts kindTunnelIn (bayFrameOf 0x83 0 []) ∧ (s.bay 4).link.tunnelIn = some [2] ∧
     s.requestInHand = none) ∧
    23 < (24 : Byte).toNat ∧ bayOf 9 = some 9 := by decide +kernel

theorem witness_AStaleAnswerIsOnlyCounted :
    fleet.requestInHand = none ∧
    (fleet.bay 5).link.accepts kindAnswer (bayFrameOf 0x82 8 [0, 0]) ∧
    readAnswer (bayFrameOf 0x82 8 [0, 0]).body = some ⟨0, none, []⟩ ∧ (fleet.bay 5).link.outstanding ≠ some 8 ∧
    (fleet.bay 4).link.accepts kindAnswer (bayFrameOf 0x82 8 [0, 0]) ∧ (fleet.bay 4).state ≠ .asking ∧
    (fleet.bay 10).link.accepts kindAnswer (bayFrameOf 0x82 1 [0, 0]) ∧ (fleet.bay 10).link.answerTimer = none := by
  decide +kernel

theorem witness_AnAskEndsAnsweredOrTimedOut :
    let f := bayFrameOf 0x82 7 [0, 1, 0x1A, 0x04, 0, 0]
    fleet.requestInHand = none ∧
    fleet.tableAgrees ∧ (fleet.bay 5).state = .asking ∧ ((fleet.gather 0).slot 5).stage = .sent ∧
    (fleet.bay 5).link.accepts kindAnswer f ∧ readAnswer f.body = some ⟨0, some 1050, []⟩ ∧
    (fleet.bay 5).link.outstanding = some f.tag ∧ (fleet.bay 5).link.answerTimer.isSome ∧
    (fleet.bay 5).link.answerTimer = some late ∧ reached late fleet.clock :=
  ⟨fleet_hand, fleet_table, by decide +kernel⟩

/-- A bay of the example station with another receiver. -/
def receiving (r : Receiver) : State := withBay 4 (fun x => x.modLink (fun l => { l with receiver := r }))

theorem witness_TheBayReceiverAssemblesAndDiscards :
    fleet.requestInHand = none ∧ (receiving (.inFrame [0x83, 0])).requestInHand = none ∧
    (fleet.bay 1).link.receiver = .disabled ∧ (fleet.bay 9).link.receiver = .hunting ∧
    (fleet.bay 3).link.receiver = .syncSeen ∧ (fleet.bay 3).link.gap = some late ∧ reached late fleet.clock ∧
    (fleet.bay 4).link.receiver = .inFrame [] ∧ (fleet.bay 4).link.gap = some late ∧
    ((receiving (.inFrame [0x83, 0])).bay 4).link.receiver = .inFrame [0x83, 0] ∧ bayHeaderTakes 0x83 64 ∧
    bayHeaderTakes 0x83 65 = false ∧ bayHeaderTakes 0x81 3 = false ∧ bayHeaderTakes 0x81 28 = false ∧
    bayHeaderTakes 0x82 1 = false ∧ bayHeaderTakes 0x82 55 = false ∧ bayHeaderTakes 0x01 2 = false ∧
    ([] : List Byte).length + 1 < (0 : Byte).toNat + 2 ∧ ¬([0] : List Byte).length + 1 < (0 : Byte).toNat + 2 ∧
    [] <+: [(0x83 : Byte), 0, 65] ∧
    (let f := bayFrameOf 0x83 0 [1] true
     [] <+: f.bytes ∧ f.wellFormed ∧ bayHeaderTakes f.kind f.length ∧ bayIntact f = false) ∧
    (let f := bayFrameOf 0x82 7 [0, 1, 0]
     f.wellFormed ∧ bayHeaderTakes f.kind f.length ∧ bodyAgrees f.kind f.body = false) := by decide +kernel

theorem witness_ADispatchSendsTheHeadOfTheQueue :
    fleet.requestInHand = none ∧ (blockOf 48).length ≤ 48 ∧
    (fleet.bay 4).state = .ready ∧ fleet.run = .run ∧ (fleet.bay 4).queue = 0 :: [] ∧
    ((fleet.gather 0).slot 4).stage = .queued ∧ (fleet.bay 4).link.transmitter = .idle ∧
    (fleet.bay 4).link.tunnelOut = none ∧
    (let s := withBay 4 (fun x => x.modLink (fun l => { l with tunnelOut := some [1] }))
     s.requestInHand = none ∧ (s.bay 4).link.transmitter = .idle ∧ (s.bay 4).link.tunnelOut = some [1]) ∧
    (let s := withBay 4 (fun x => x.modLink (fun l => { l with transmitter := .sendingTunnel }))
     s.requestInHand = none ∧ (s.bay 4).link.transmitter ≠ .idle) :=
  by decide +kernel

theorem witness_AnAskFrameLeaves :
    fleet.asksAgree ∧ (fleet.bay 10).link.transmitter = .sendingAsk ∧ ((fleet.gather 0).slot 10).stage = .sent ∧
    (fleet.bay 10).link.pendingAsk = none ∧ (fleet.bay 10).link.answerTimer = none ∧ (fleet.gather 0).measure ∧
    fleet.converter = .idle ∧ converting.converter ≠ .idle ∧
    (let t := after (.askSent 10) fleet
     (t.bay 5).window ≠ .closed ∧
     ∀ e : BayNo, (t.bay e).window ≠ .closed →
       ((5 : BayNo) - fleet.lastGranted - 1).val ≤ (e - fleet.lastGranted - 1).val) ∧
    (let s := withBay 4 (fun x => x.modLink (fun l => { l with transmitter := .sendingAsk }))
     s.requestInHand = none ∧ (s.bay 4).link.transmitter = .sendingAsk ∧ (s.bay 4).state ≠ .asking) ∧
    (let s := withBay 10 (fun x => x.modLink (fun l => { l with pendingAsk := some ⟨1, 5, []⟩ }))
     s.requestInHand = none ∧ (s.bay 10).link.transmitter = .sendingAsk ∧ (s.bay 10).state = .asking ∧
     (s.bay 10).tunnelWaiting = false ∧ s.run = .run ∧ (s.bay 10).link.pendingAsk = some ⟨1, 5, []⟩ ∧
     ({ s with run := .held } : State).requestInHand = none ∧ ({ s with run := .held } : State).run = .held) ∧
    (let s := withBay 10 (fun x => x.modLink (fun l => { l with
       tunnelOut := some [1], pendingAsk := some ⟨1, 5, []⟩ }))
     s.requestInHand = none ∧ (s.bay 10).tunnelWaiting ∧ (s.bay 10).link.tunnelOut = some [1]) ∧
    fleet.requestInHand = none := ⟨fleet_asks, by decide +kernel⟩

theorem witness_ArmGatherQueuesItsBays :
    fleet.portClear ∧
    (0xFFFFFF : BaySet) ≠ 0 ∧ (blockOf 48).length ≤ 48 ∧ profileOf 0 = some 0 ∧ (fleet.profile 0).defined = true ∧
    (fleet.gather 3).state = .free ∧ (∀ j : GatherNo, j < 3 → (fleet.gather j).state ≠ .free) ∧
    (∀ b : BayNo, (0xFFFFFF : BaySet).getLsbD b.val → (fleet.bay b).state.available → (fleet.bay b).queue.length < 8) ∧
    (∃ b : BayNo, (0xFFFFFF : BaySet).getLsbD b.val ∧ (fleet.bay b).state.available) ∧
    ¬(∃ b : BayNo, (0x000001 : BaySet).getLsbD b.val ∧ (fleet.bay b).state.available) := by decide +kernel

/-- The gather table full, and bay 4's queue full. -/
def fullTable : State := { fleet with gathers := Vector.replicate 16 { Gather.free with state := .done } }
def fullQueue : State := withBay 4 (fun x => { x with queue := [0, 1, 2, 3, 4, 5, 6, 7] })

theorem witness_ArmGatherIsCheckedInOrder :
    fleet.portClear ∧ fullTable.portClear ∧ fullQueue.portClear ∧
    (0 : BaySet) = 0 ∧ (1 : BaySet) ≠ 0 ∧ 48 < (blockOf 49).length ∧ (blockOf 48).length ≤ 48 ∧ 31 < (32 : Byte).toNat ∧
    profileOf 31 = some 31 ∧ (fleet.profile 31).defined = false ∧ profileOf 0 = some 0 ∧
    (fleet.profile 0).defined = true ∧ (∀ i : GatherNo, (fullTable.gather i).state ≠ .free) ∧
    (fullQueue.gather 3).state = .free ∧ (0x10 : BaySet).getLsbD (4 : BayNo).val ∧ (fullQueue.bay 4).state.available ∧
    8 ≤ (fullQueue.bay 4).queue.length := by decide +kernel

theorem witness_CancelGatherEndsItsQueuedSlots :
    fleet.portClear ∧
    15 < (16 : Byte).toNat ∧ gatherOf 15 = some 15 ∧ (fleet.gather 15).state = .free ∧ (fleet.gather 0).serial ≠ 9 ∧
    gatherOf 2 = some 2 ∧ (fleet.gather 2).state = .done ∧ (fleet.gather 2).serial = 3 ∧ fleet.tableAgrees ∧
    gatherOf 0 = some 0 ∧ (fleet.gather 0).state = .opened ∧ (fleet.gather 0).serial = 1 ∧
    (∃ b, ((fleet.gather 0).slot b).stage = .sent) ∧ gatherOf 1 = some 1 ∧ (fleet.gather 1).state = .opened ∧
    (fleet.gather 1).serial = 2 ∧ ¬(∃ b, ((fleet.gather 1).slot b).stage = .sent) :=
  ⟨fleet_clear, by decide, by decide +kernel, by decide +kernel, by decide +kernel, by decide +kernel, by decide +kernel,
    by decide +kernel, fleet_table, by decide +kernel⟩

theorem witness_ReleaseGatherFreesADoneEntry :
    fleet.portClear ∧
    15 < (16 : Byte).toNat ∧ gatherOf 15 = some 15 ∧ (fleet.gather 15).state = .free ∧ gatherOf 0 = some 0 ∧
    (fleet.gather 0).state = .opened ∧ (fleet.gather 0).serial = 1 ∧ gatherOf 2 = some 2 ∧
    (fleet.gather 2).state = .done ∧ (fleet.gather 2).serial = 3 ∧ (Place.stopLine ≠ .gatherDone 2) := by decide +kernel

theorem witness_ProfilesAreDefinedAndCleared :
    fleet.portClear ∧ (fleet.setProfile 31 { Profile.undefined with inUse := 1 }).portClear ∧
    31 < (32 : Byte).toNat ∧ 1 < (2 : Byte).toNat ∧ (0 : BitVec 16).toNat = 0 ∧ 32767 < (32768 : BitVec 16).toNat ∧
    (5 : BitVec 32).toInt < (6 : BitVec 32).toInt ∧ 8191 < (8192 : BitVec 16).toNat ∧ profileOf 31 = some 31 ∧
    (31 : Byte) ≠ 0 ∧ valueModeOf 1 = some .numeric ∧ 0 < (32767 : BitVec 16).toNat ∧
    (32767 : BitVec 16).toNat ≤ 32767 ∧ (7 : BitVec 32).toInt ≤ (7 : BitVec 32).toInt ∧
    (8191 : BitVec 16).toNat ≤ 8191 ∧
    (fleet.profile 31).inUse = 0 ∧ 0 < ((fleet.setProfile 31 { Profile.undefined with inUse := 1 }).profile 31).inUse ∧
    (fleet.profile 31).defined = false ∧ profileOf 0 = some 0 ∧ (fleet.profile 0).defined = true := by decide +kernel

theorem witness_SetRingMovesAnEmptyWindow :
    fleet.portClear ∧
    23 < (24 : Byte).toNat ∧ 1 < (2 : Byte).toNat ∧ 4095 < (4096 : BitVec 16).toNat ∧
    4096 < (4095 : BitVec 16).toNat + (2 : BitVec 16).toNat ∧ bayOf 23 = some 23 ∧ ringModeOf 1 = some .wrap ∧
    (4095 : BitVec 16).toNat ≤ 4095 ∧ (4095 : BitVec 16).toNat + (1 : BitVec 16).toNat ≤ 4096 ∧
    (((22 : BayNo) ≠ 23) ∧ (3909 : BitVec 16).toNat ≤ 3909 ∧ 3909 < (3909 : BitVec 16).toNat + (1 : BitVec 16).toNat ∧
      (fleet.bay 22).ring.base ≤ 3909 ∧ 3909 < (fleet.bay 22).ring.base + (fleet.bay 22).ring.length) ∧
    (fleet.bay 23).ring.base ≠ (4095 : BitVec 16).toNat ∧ (fleet.bay 23).ring.occupancy = 0 ∧
    (∀ i, ((fleet.gather i).slot 23).stage ≠ .queued ∧ ((fleet.gather i).slot 23).stage ≠ .sent) ∧
    (∀ c : BayNo, c ≠ 23 → ¬((fleet.bay c).ring.base ≤ 4095 ∧ 4095 < (fleet.bay c).ring.base + (fleet.bay c).ring.length)) ∧
    bayOf 5 = some 5 ∧ (∃ i, ((fleet.gather i).slot 5).stage = .queued ∨ ((fleet.gather i).slot 5).stage = .sent) ∧
    (∀ c : BayNo, c ≠ 5 → ¬((fleet.bay c).ring.base ≤ 4095 ∧ 4095 < (fleet.bay c).ring.base + (fleet.bay c).ring.length)) ∧
    (fleet.bay 5).ring.base ≠ (4095 : BitVec 16).toNat ∧ (fleet.bay 5).ring.base = (850 : BitVec 16).toNat ∧
    (fleet.bay 5).ring.length = (170 : BitVec 16).toNat := by decide +kernel

theorem witness_ReadResultsTakesTheOldestRecords :
    fleet.portClear ∧
    23 < (24 : Byte).toNat ∧ bayOf 23 = some 23 ∧ (fleet.bay 23).ring.consistent ∧
    (let s := withBay 23 (fun x => { x with ring := { x.ring with occupancy := 170, oldest := 169 } })
     s.portClear ∧ (s.bay 23).ring.consistent ∧ 7 < min 8 (s.bay 23).ring.occupancy) := by decide +kernel

theorem witness_ClearDropsEndsTheRingFullCause :
    fleet.startup = none ∧ 23 < (24 : Byte).toNat ∧ bayOf 23 = some 23 ∧ fleet.causesConsistent ∧
    (fleet.bay 23).ring.drops = 0 ∧ (fleet.bay 23).ring.overwrites = 0 :=
  ⟨rfl, by decide, by decide +kernel, fleet_causes, by decide +kernel⟩

theorem witness_ARecordIsPlacedByTheRing :
    Memory.wf fleet.cells ∧ (blockOf 85).length ≤ 85 ∧ (blockOf 24).length ≤ 24 ∧
    (let r := fun (o l : Nat) (m : RingMode) =>
      ({ base := 4095 - l, length := l, mode := m, occupancy := o, oldest := 0, drops := 0, overwrites := 0,
         nextSeq := 0xFFFFFFFF } : Ring)
     (r 0 0 .stop).consistent ∧ (r 0 0 .stop).length = 0 ∧ (r 4 5 .stop).consistent ∧
     (r 4 5 .stop).occupancy < (r 4 5 .stop).length ∧ (r 5 5 .stop).consistent ∧
     (r 5 5 .stop).occupancy = (r 5 5 .stop).length ∧ (r 5 5 .wrap).consistent) := by decide +kernel

theorem witness_NoticesAreCollectedByUrgency :
    fleet.portClear ∧ ({ fleet with notices := Notices.reset } : State).portClear ∧
    (∀ q ∈ allPlaces, ({ fleet with notices := Notices.reset } : State).reportable q = false) ∧
    fleet.reportable (.tunnelIn 9) ∧
    (∀ q ∈ allPlaces, fleet.reportable q → (Place.tunnelIn 9).classNo < q.classNo ∨
      (Place.tunnelIn 9).classNo = q.classNo ∧ (Place.tunnelIn 9).sourceNo ≤ q.sourceNo) := by decide +kernel

theorem witness_TheCalibrationStoreAndItsLock :
    fleet.portClear ∧ ({ fleet with calLock := true } : State).portClear ∧
    23 < (24 : Byte).toNat ∧ bayOf 23 = some 23 ∧ ({ fleet with calLock := true } : State).calLock = true ∧
    fleet.calLock = false ∧ (∀ b : BayNo, (({ fleet with bays := State.reset.bays } : State).bay b).supply.mode = .off) ∧
    ({ fleet with bays := State.reset.bays } : State).portClear ∧
    (∃ b : BayNo, (fleet.bay b).supply.mode ≠ .off) := by decide +kernel

theorem witness_AConversionCreditsItsWindow :
    converting.requestInHand = none ∧
    converting.converter = .converting 5 late true ∧ reached late converting.clock ∧
    (converting.bay 5).window = .opened samples ∧ (converting.bay 4).window = .closed ∧
    (∀ e : BayNo, (converting.bay e).window ≠ .closed →
      ((5 : BayNo) - converting.lastGranted - 1).val ≤ (e - converting.lastGranted - 1).val) ∧
    (let s := { converting with bays := State.reset.bays }
     s.requestInHand = none ∧ ∀ d : BayNo, (s.bay d).window = .closed) := by decide +kernel

theorem witness_ScalingRoundsAndSaturates : (0 : Int) < 1 ∧ (0 : Int) < 32767 := by decide

theorem witness_ASlotIsJudgedByItsProfile :
    let x := { Slot.outside with ending := some .answered, status := some 0, raw := some 7 }
    x.ending = some .answered ∧ x.status = some 0 ∧ x.raw.isSome ∧
    ({ Profile.builtIn with mode := .numeric } : Profile).mode = .numeric ∧ x.raw = some 7 := by decide

theorem witness_StatisticsKeepTheirOrder : samples.consistent ∧ samples.stats.isSome :=
  ⟨by simp [Accumulator.consistent, samples], by decide +kernel⟩

theorem witness_ACompletionIsRecordedAndAccounted :
    (blockOf 48).length ≤ 48 ∧ ((fleet.gather 0).slot 5).endable ∧ Ending.answered.evaluated ∧
    ((fleet.gather 0).slot 5).stage = .sent ∧
    ((fleet.gather 0).slot 2).endable ∧ Ending.unreached.evaluated ∧ ((fleet.gather 0).slot 2).stage = .queued := by
  decide +kernel

theorem witness_DecodeOfEncodeIsTheRequest :
    encodeRequest (.cycleBay 3 1000 none) = some (0x12, [3, 0xE8, 0x03]) ∧ (Instr.cycleBay 3 1000 none).wellFormed := by
  decide +kernel

/-- The example station meets every invariant, and its next step answers a next state. -/
theorem witness_EveryStep :
    fleet.tableAgrees ∧ fleet.ringsConsistent ∧ fleet.causesConsistent ∧ Memory.wf fleet.cells ∧
    (fleet.gathersConsistent ∧ fleet.inUseAgrees) ∧ fleet.profilesConsistent ∧ fleet.accumulatorsConsistent ∧
    fleet.port.consistent ∧ ∃ t, step fleet = .next t :=
  ⟨fleet_table, fleet_rings, fleet_causes, by decide +kernel, ⟨fleet_gathers, fleet_inUse⟩, fleet_profiles,
    fleet_accumulators, by decide +kernel, _, rfl⟩

theorem witness_OnlyTheseCommandsChangeTheStation :
    fleet.comesFirst .lockCal ∧ fleet.portClear ∧ (encodeRequest .lockCal).isSome ∧
    (∃ t, exec .lockCal fleet = .next t) ∧ reachesPort (.trip 5 4001) = false ∧
    ({ fleet with calLock := true } : State).calLock = true := ⟨Or.inl fleet_hand, fleet_clear, rfl, ⟨_, rfl⟩, rfl, rfl⟩

theorem witness_ABayDoesNotTouchAnother :
    fleet.comesFirst (.trip 5 4001) ∧
    columnOf (.trip 5 4001) = some 5 ∧ (4 : BayNo) ≠ 5 ∧ fleet.ringsConsistent :=
  ⟨Or.inl fleet_hand, rfl, by decide, fleet_rings⟩

theorem witness_GathersMoveOnlyForward :
    fleet.comesFirst (.releaseGather 2 3) ∧
    fleet.gathersConsistent ∧ (fleet.gather 2).state = .done ∧ (fleet.gather 0).state = .opened ∧
    ((({ fleet with gathers := fleet.gathers.set 0 ((fleet.gather 0).setSlot 2
        { Slot.outside with stage := .final, ending := some .cancelled }) } : State).gather 0).slot 2).stage = .final :=
  ⟨Or.inl fleet_hand, fleet_gathers, by decide +kernel⟩

/-! ### One step of the link events -/

/-- R173 to R178: an intact frame is taken at once, an unknown code is answered at once, damage is counted, and a
detach empties the buffer but for the request in hand. -/
theorem test_station_link :
    ((after (.requestFrameAccepted (requestOf 0x02 9 [4])) fleet).port.buffer.map (·.phase)) = [.inHand false] ∧
    ((after (.requestFrameAccepted (requestOf 0x08 9 [])) fleet).port.buffer.map (·.phase)) =
      [.replying (replyFrame 0x08 9 ⟨.unknownRequest, fleet.replyFlags, []⟩)] ∧
    (after (.requestFrameCheckFail (requestOf 0x02 9 [4] true)) fleet).port.errors = 1 ∧
    (after (.requestLengthDiscard 1025) fleet).port.errors = 1 ∧ (after .requestGapExpiry fleet).port.errors = 1 ∧
    (after (.requestSyncReceived 0xC3) (withReceiver .hunting)).port.receiver = .inFrame [] := by decide +kernel

theorem test_delivery_and_detach :
    (after .replyDelivered (withBuffer [replyingEntry, handEntry false])).port.buffer = [handEntry false] ∧
    (after .linkDetach (withBuffer [replyingEntry, handEntry false])).port.buffer = [handEntry true] ∧
    (after .linkAttach (after .linkDetach fleet)).port.receiver = .hunting := by decide +kernel

/-- R6, R7: a sign-on of an ASKING bay ends its ask LOST and gives the next ask tag 1. -/
theorem test_sign_on :
    let t := after (.signOnAccepted 5 (bayFrameOf 0x81 0 [2, 0, 1, 0x42])) fleet
    (t.bay 5).state = .ready ∧ (t.bay 5).link.nextTag = 1 ∧ (t.bay 5).signOns = 2 ∧
    ((t.gather 0).slot 5).ending = some .lost ∧ (t.bay 5).ring.nextSeq = 2 := by decide +kernel

/-- R31, R32, R73: the answer with the outstanding tag ends the slot with the window's statistics; one with another
tag is stale. -/
theorem test_answer :
    let t := after (.answerAccepted 5 (bayFrameOf 0x82 7 [0, 1, 0x1A, 0x04, 0, 0])) fleet
    (t.bay 5).state = .ready ∧ ((t.gather 0).slot 5).raw = some 1050 ∧ ((t.gather 0).slot 5).verdict = .pass ∧
    (((t.gather 0).slot 5).stats.map (fun x => (x.n, x.mean, x.rms, x.peak, x.min))) = some (3, 20, 21, 30, 10) ∧
    ((after (.answerAccepted 5 (bayFrameOf 0x82 8 [0, 0])) fleet).bay 5).link.stale = 1 := by decide +kernel

/-- R33, R107, R108: a timed-out slot carries SILENT and fails under a full mask. -/
theorem test_timeout :
    let t := after (.answerTimerExpiry 5) fleet
    ((t.gather 0).slot 5).ending = some .timedOut ∧ ((t.gather 0).slot 5).indicators = 0x80 ∧
    ((t.gather 0).slot 5).verdict = .fail ∧ (t.bay 5).state = .ready := by decide +kernel

/-- R28 to R30, R70, R71, R116: the ask frame of a dispatch, and its send time, window and grant. -/
theorem test_dispatch_and_send :
    ((after (.dispatch 4) fleet).bay 4).link.frameOut.take 8 = [0xA5, 0x5A, 0x01, 0x01, 0x03, 0x34, 0x12, 0x09] ∧
    ((after (.dispatch 4) fleet).bay 4).link.nextTag = 2 ∧
    ((after (.askSent 10) fleet).bay 10).link.answerTimer = some 100100000 ∧
    (after (.askSent 10) fleet).converter = .converting 5 100000010 true := by decide +kernel

/-- R23 to R26, R38: bytes, faults, gaps, damaged frames and a tunnel block at a bay receiver. -/
theorem test_bay_receiver :
    ((after (.baySyncReceived 9 0xA5) fleet).bay 9).link.receiver = .syncSeen ∧
    ((after (.baySyncReceived 3 0x5A) fleet).bay 3).link.receiver = .inFrame [] ∧
    ((after (.bayCharacterFault 4) fleet).bay 4).link.linkErrors = 1 ∧
    ((after (.bayCharacterFault 3) fleet).bay 3).link.linkErrors = 0 ∧
    ((after (.bayFrameGapExpiry 4) fleet).bay 4).link.linkErrors = 1 ∧
    ((after (.syncGapExpiry 3) fleet).bay 3).link.receiver = .hunting ∧
    ((after (.bayFrameLengthDiscard 4 0x83 0 65) fleet).bay 4).link.linkErrors = 1 ∧
    ((after (.bayFrameRejected 4 (bayFrameOf 0x83 0 [1] true)) fleet).bay 4).link.linkErrors = 1 ∧
    ((after (.tunnelInAccepted 4 (bayFrameOf 0x83 0 [1])) fleet).bay 4).link.tunnelIn = some [1] := by decide +kernel

/-- R117, R119, R121: a conversion with code 1000 at the factory's pair credits 1000 mA. -/
theorem test_conversion :
    ((after (.conversionEnd 1000) converting).bay 5).window =
      .opened { samples with n := 4, sum := 1060, sumSquares := 1001400, maximum := some 1000 } := by decide +kernel

end Sys2Proof.Tests
end

section
/-! SUPPORT. What a command at one bay leaves alone: the other bays, their slots, notice places, cells and ties. -/

namespace Sys2Proof.Machine

/-! ### Bytes outside a run just written -/

/-- A byte at another address reads as before, whatever form the list has. -/
theorem readCell_writeCell_ne {addr x : Nat} (v : Byte) (hx : x ≠ addr) :
    ∀ mem, readCell (writeCell mem addr v) x = readCell mem x
  | [] => by
    simp only [writeCell]
    split <;> simp [readCell, Ne.symm hx]
  | (a, w) :: rest => by
    have ih := readCell_writeCell_ne v hx rest
    simp only [writeCell]
    split
    · split <;> simp [readCell, Ne.symm hx]
    · split
      · rename_i h
        subst h
        split <;> simp [readCell, Ne.symm hx]
      · simp [readCell, ih]

/-- A byte outside the run written reads as before. -/
theorem readCell_writeCells_outside {x : Nat} : ∀ (vs : List Byte) mem addr,
    (x < addr ∨ addr + vs.length ≤ x) → readCell (writeCells mem addr vs) x = readCell mem x
  | [], _, _, _ => rfl
  | v :: vs, mem, addr, h => by
    simp only [List.length_cons] at h
    rw [writeCells, readCell_writeCells_outside vs _ _ (by omega), readCell_writeCell_ne v (by omega)]

/-! ### The size of a record -/

/-- A record whose own fields take at most 85 bytes fills one cell (R135, R184). -/
theorem recordCell_length (kind : RecordKind) (b : BayNo) (seq : BitVec 32) (time : Time) (own : List Byte)
    (h : own.length ≤ 85) : (recordCell kind b seq time own).length = 96 := by
  simp [recordCell]; omega

/-- An answer's payload is one that an ANSWER frame can carry (R22). -/
def payloadFits (answer : Option Answer) : Prop := ∀ a, answer = some a → a.payload.length ≤ 48

theorem payloadFits_none : payloadFits none := fun _ h => nomatch h

theorem outcomeFields_length (i : GatherNo) (g : Gather) (x : Slot) (time : Time) (h : x.payload.length ≤ 48) :
    (outcomeFields i g x time).length ≤ 85 := by
  simp [outcomeFields]; omega

theorem State.finalSlot_payload (s : State) (i : GatherNo) (b : BayNo) (e : Ending) (answer : Option Answer)
    (h : payloadFits answer) : (s.finalSlot i b e answer).payload.length ≤ 48 := by
  show ((answer.map (·.payload)).getD []).length ≤ 48
  cases answer with
  | none => simp
  | some a => exact h a rfl

/-- What an ANSWER frame's body says fits a slot (R22, R25). -/
theorem payloadFits_readAnswer {body : List Byte} {a : Answer} (h : readAnswer body = some a) :
    payloadFits (some a) := by
  rintro _ ⟨rfl⟩
  unfold readAnswer at h
  split at h
  · split at h
    · split at h
      · cases h; assumption
      · cases h
    · split at h
      · split at h
        · split at h
          · cases h; assumption
          · cases h
        · cases h
      · cases h
  · cases h

/-- The serial of a SIGN_ON has at most 24 bytes (R22). -/
theorem readSignOn_serial {body : List Byte} {a : SignOn} (h : readSignOn body = some a) : a.serial.length ≤ 24 := by
  unfold readSignOn at h
  split at h
  · split at h
    · rename_i hs
      cases h
      obtain ⟨_, hmax, hlen, _⟩ := hs
      simp only
      omega
    · cases h
  · cases h

theorem signOnFields_length (a : SignOn) (changed : Bool) (h : a.serial.length ≤ 24) :
    (signOnFields a changed).length ≤ 85 := by
  simp [signOnFields]; omega

theorem supplyFields_length (e : SupplyEvent) (mode : OnMode) : (supplyFields e mode).length ≤ 85 := by
  simp [supplyFields]

/-! ### The cell a record goes to lies in its bay's window -/

theorem Ring.cellAt_val {r : Ring} (k : Nat) (hlen : r.length ≠ 0) (hstore : r.base + r.length ≤ 4096) :
    r.base ≤ (r.cellAt k).val ∧ (r.cellAt k).val < r.base + r.length := by
  have hmod : (r.oldest + k) % r.length < r.length := Nat.mod_lt _ (by omega)
  have hval : (r.cellAt k).val = r.base + (r.oldest + k) % r.length :=
    Nat.mod_eq_of_lt (show r.base + (r.oldest + k) % r.length < 4096 by omega)
  omega

theorem State.inWindow_iff (s : State) (b : BayNo) (address : Nat) :
    s.inWindow b address = true ↔
      (s.bay b).ring.base ≤ address / 96 ∧ address / 96 < (s.bay b).ring.base + (s.bay b).ring.length := by
  simp only [State.inWindow, Bool.and_eq_true, decide_eq_true_eq]
  rfl

theorem State.writeRecord_outside (s : State) (b : BayNo) (kind : RecordKind) (own : List Byte)
    (hown : own.length ≤ 85) (hstore : (s.bay b).ring.base + (s.bay b).ring.length ≤ 4096) (address : Nat)
    (ha : s.inWindow b address = false) :
    readCell (s.writeRecord b kind own).cells address = readCell s.cells address := by
  rw [State.writeRecord_cells]
  split
  · rename_i hk
    have hlen : (s.bay b).ring.length ≠ 0 := by
      simp only [Ring.keeps, Bool.and_eq_true, decide_eq_true_eq] at hk
      exact hk.1
    obtain ⟨hlow, hhigh⟩ := Ring.cellAt_val (s.bay b).ring.occupancy hlen hstore
    refine readCell_writeCells_outside _ _ _ ?_
    rw [recordCell_length _ _ _ _ _ hown, cellAddress, cellBytes]
    have hout := (Bool.eq_false_iff.1 ha) ∘ (s.inWindow_iff b address).2
    by_contra hin
    exact hout (by omega)
  · rfl

@[simp] theorem Ring.afterWrite_window (r : Ring) :
    r.afterWrite.base = r.base ∧ r.afterWrite.length = r.length ∧ r.afterWrite.mode = r.mode := by
  simp only [Ring.afterWrite]
  split
  · simp
  · split
    · simp
    · split <;> simp_all

theorem Ring.afterWrite_nextSeq (r : Ring) : r.afterWrite.nextSeq = r.nextSeq + 1 := by
  simp only [Ring.afterWrite]
  split
  · rfl
  · split
    · rfl
    · split <;> rfl

/-! ### Notice places of one bay -/

/-- The six places of a bay are as they were. -/
structure Notices.SameAt (after before : Notices) (d : BayNo) : Prop where
  bayFault : after.bayFault.get d = before.bayFault.get d
  bayDark : after.bayDark.get d = before.bayDark.get d
  presence : after.presence.get d = before.presence.get d
  ringFull : after.ringFull.get d = before.ringFull.get d
  tunnelIn : after.tunnelIn.get d = before.tunnelIn.get d
  signedOn : after.signedOn.get d = before.signedOn.get d

theorem Notices.SameAt.refl (n : Notices) (d : BayNo) : n.SameAt n d := ⟨rfl, rfl, rfl, rfl, rfl, rfl⟩

theorem Notices.SameAt.trans {n m k : Notices} {d : BayNo} (h : m.SameAt n d) (h' : k.SameAt m d) : k.SameAt n d :=
  ⟨h'.1.trans h.1, h'.2.trans h.2, h'.3.trans h.3, h'.4.trans h.4, h'.5.trans h.5, h'.6.trans h.6⟩

/-- The bay that a place belongs to, if it is a bay's. -/
def Place.bay : Place → Option BayNo
  | .stopLine | .gatherDone _ => none
  | .bayFault b | .bayDark b | .presence b | .ringFull b | .tunnelIn b | .signedOn b => some b

theorem Notices.setEvent_sameAt (n : Notices) (v : Bool) {p : Place} {d : BayNo} (h : p.bay ≠ some d) :
    (n.setEvent v p).SameAt n d := by
  cases p <;> simp only [Place.bay, ne_eq, Option.some.injEq] at h <;>
    constructor <;> simp [Notices.setEvent, vector_get_set, h]

theorem State.raise_sameAt (s : State) {p : Place} {d : BayNo} (h : p.bay ≠ some d) :
    (s.raise p).notices.SameAt s.notices d := by
  unfold State.raise
  split
  · exact s.notices.setEvent_sameAt true h
  · exact .refl _ _

/-! ### What a command at one bay leaves alone -/

/-- From s to t only the column of bay b was touched: every other bay's record, slots and notice places are as they
were, b's ring window too; a byte outside that window reads as before, and a conversion is tied to another bay only when
it was before or when that bay has an open window. -/
structure State.OnlyAt (b : BayNo) (s t : State) : Prop where
  startup : t.startup = s.startup
  bays : ∀ d, d ≠ b → t.bay d = s.bay d
  slots : ∀ d, d ≠ b → ∀ i, (t.gather i).slot d = (s.gather i).slot d
  notices : ∀ d, d ≠ b → t.notices.SameAt s.notices d
  window : (t.bay b).ring.base = (s.bay b).ring.base ∧ (t.bay b).ring.length = (s.bay b).ring.length
  cells : (s.bay b).ring.base + (s.bay b).ring.length ≤ 4096 → ∀ address, s.inWindow b address = false →
    readCell t.cells address = readCell s.cells address
  ties : ∀ d, d ≠ b → t.converter.tiedTo = some d → s.converter.tiedTo = some d ∨ (s.bay d).window.isOpen

namespace State.OnlyAt

variable {b : BayNo} {s t u : State}

theorem refl (b : BayNo) (s : State) : OnlyAt b s s :=
  ⟨rfl, fun _ _ => rfl, fun _ _ _ => rfl, fun _ _ => .refl _ _, ⟨rfl, rfl⟩, fun _ _ _ => rfl, fun _ _ h => .inl h⟩

theorem trans (h : OnlyAt b s t) (h' : OnlyAt b t u) : OnlyAt b s u where
  startup := h'.startup.trans h.startup
  bays d hd := (h'.bays d hd).trans (h.bays d hd)
  slots d hd i := (h'.slots d hd i).trans (h.slots d hd i)
  notices d hd := (h.notices d hd).trans (h'.notices d hd)
  window := ⟨h'.window.1.trans h.window.1, h'.window.2.trans h.window.2⟩
  cells hstore address ha := by
    obtain ⟨hbase, hlen⟩ := h.window
    have ha' : t.inWindow b address = false := by simpa [State.inWindow, hbase, hlen] using ha
    exact (h'.cells (by rw [hbase, hlen]; exact hstore) address ha').trans (h.cells hstore address ha)
  ties d hd ht := by
    rcases h'.ties d hd ht with ht | hw
    · exact h.ties d hd ht
    · exact .inr (by rw [← h.bays d hd]; exact hw)

/-- A change of the bay's own record that keeps its ring's window. -/
theorem modBay (s : State) (b : BayNo) (f : Bay → Bay)
    (h : (f (s.bay b)).ring.base = (s.bay b).ring.base ∧ (f (s.bay b)).ring.length = (s.bay b).ring.length) :
    OnlyAt b s (s.modBay b f) where
  startup := rfl
  bays d hd := by simp [Ne.symm hd]
  slots _ _ _ := rfl
  notices _ _ := .refl _ _
  window := by simpa using h
  cells _ _ _ := rfl
  ties _ _ ht := .inl ht

/-- A reply composed on the way reaches no column. -/
theorem answer (h : OnlyAt b s t) (c : Instr) (status : Status) (body : List Byte) :
    OnlyAt b s (t.answer c status body) := by
  refine h.trans ⟨?_, ?_, ?_, ?_, ?_, ?_, ?_⟩ <;> simp +contextual [Notices.SameAt.refl]

theorem raise (h : OnlyAt b s t) {p : Place} (hp : ∀ d, d ≠ b → p.bay ≠ some d) : OnlyAt b s (t.raise p) := by
  refine h.trans ⟨?_, ?_, ?_, fun d hd => t.raise_sameAt (hp d hd), ?_, ?_, ?_⟩ <;> simp +contextual

theorem clearNotice (h : OnlyAt b s t) {p : Place} (hp : ∀ d, d ≠ b → p.bay ≠ some d) : OnlyAt b s (t.clearNotice p) :=
  h.trans ⟨rfl, fun _ _ => rfl, fun _ _ _ => rfl, fun d hd => t.notices.setEvent_sameAt false (hp d hd), ⟨rfl, rfl⟩,
    fun _ _ _ => rfl, fun _ _ ht => .inl ht⟩

theorem tunnelInFalls (h : OnlyAt b s t) : OnlyAt b s (t.tunnelInFalls b) := by
  refine h.trans ⟨rfl, fun _ _ => rfl, fun _ _ _ => rfl, fun d hd => ?_, ⟨rfl, rfl⟩, fun _ _ _ => rfl,
    fun _ _ ht => .inl ht⟩
  exact ⟨rfl, rfl, rfl, rfl, by simp [State.tunnelInFalls, vector_get_set, Ne.symm hd], rfl⟩

theorem tunnelInRises (h : OnlyAt b s t) : OnlyAt b s (t.tunnelInRises b) := by
  refine h.trans ⟨rfl, fun _ _ => rfl, fun _ _ _ => rfl, fun d hd => ?_, ⟨rfl, rfl⟩, fun _ _ _ => rfl,
    fun _ _ ht => .inl ht⟩
  exact ⟨rfl, rfl, rfl, rfl, by simp [State.tunnelInRises, vector_get_set, Ne.symm hd], rfl⟩

theorem ringFullFalls (h : OnlyAt b s t) : OnlyAt b s (t.ringFullFalls b) := by
  refine h.trans ⟨rfl, fun _ _ => rfl, fun _ _ _ => rfl, fun d hd => ?_, ⟨rfl, rfl⟩, fun _ _ _ => rfl,
    fun _ _ ht => .inl ht⟩
  exact ⟨rfl, rfl, rfl, by simp [State.ringFullFalls, vector_get_set, Ne.symm hd], rfl, rfl⟩

theorem writeRecord (h : OnlyAt b s t) (kind : RecordKind) (own : List Byte) (hown : own.length ≤ 85) :
    OnlyAt b s (t.writeRecord b kind own) := by
  refine h.trans ⟨by simp, fun d hd => by simp [Ne.symm hd], by simp, fun d hd => ?_, by simp,
    fun hstore address => t.writeRecord_outside b kind own hown hstore address, fun d _ ht => .inl (by simpa using ht)⟩
  rw [State.writeRecord_notices]
  split
  · exact ⟨rfl, rfl, rfl, by simp [State.ringFullRises, vector_get_set, Ne.symm hd], rfl, rfl⟩
  · exact .refl _ _

theorem beginFrame (h : OnlyAt b s t) : OnlyAt b s (t.beginFrame b) := by
  obtain ⟨_, _, _, e⟩ := t.beginFrame_bay b b
  rw [if_pos rfl] at e
  refine h.trans ⟨by simp, fun d hd => t.beginFrame_bay_ne (Ne.symm hd), by simp [State.gather_eq_get], ?_, by simp [e], ?_, ?_⟩ <;>
    simp +contextual [Notices.SameAt.refl]

theorem startWake (h : OnlyAt b s t) : OnlyAt b s (t.startWake b) :=
  h.trans (.modBay t b _ ⟨rfl, rfl⟩)

/-- The window of the bay closes; a conversion tied to another bay stays tied. -/
theorem closeWindow (h : OnlyAt b s t) : OnlyAt b s (t.closeWindow b) := by
  refine h.trans ⟨rfl, fun d hd => by simp [Ne.symm hd], fun _ _ _ => rfl, fun _ _ => .refl _ _, by simp,
    fun _ _ _ => rfl, fun d _ ht => .inl ?_⟩
  revert ht
  cases hc : t.converter with
  | idle => simp [State.closeWindow, hc, Converter.untie, Converter.tiedTo]
  | converting g ends tied =>
    simp only [State.closeWindow, State.modBay_converter, hc, Converter.untie, Converter.tiedTo]
    split <;> simp_all

/-- The window of the bay opens; a grant ties the converter to an open window. -/
theorem openWindow (h : OnlyAt b s t) : OnlyAt b s (t.openWindow b) := by
  refine h.trans ⟨by simp, fun d hd => by simp [Ne.symm hd], by simp [State.gather_eq_get], fun _ _ => ?_, by simp,
    by simp, fun d hd ht => ?_⟩
  · rw [State.openWindow_notices]; exact .refl _ _
  · unfold State.openWindow State.grant at ht
    split at ht
    · rename_i _ g _ hg
      have hopen := State.nextGrant_open _ hg
      simp only [Converter.tiedTo, if_true, Option.some.injEq] at ht
      subst ht
      exact .inr (by simpa [Ne.symm hd] using hopen)
    · exact .inl ht

end State.OnlyAt

end Sys2Proof.Machine
end

section
/-! SUPPORT. The agreement of a gather with its slots and its summary (R58 to R60, R84, R85), and that the completion of a
slot keeps it. -/

namespace Sys2Proof.Machine

/-! ### Counting bays -/

/-- Two conditions that differ at one bay alone have counts that differ by that bay. -/
theorem countBays_update {p q : BayNo → Bool} {b : BayNo} (h : ∀ c, c ≠ b → q c = p c) :
    countBays q + (if p b then 1 else 0) = countBays p + (if q b then 1 else 0) := by
  have split : ∀ r : BayNo → Bool, countBays r = (allBays.erase b).countP r + (if r b then 1 else 0) := by
    intro r
    rw [countBays, (List.perm_cons_erase (mem_allBays b)).countP_eq, List.countP_cons]
  have rest : (allBays.erase b).countP q = (allBays.erase b).countP p :=
    List.countP_congr fun c hc => by rw [h c ((allBays_nodup.mem_erase_iff).1 hc).1]
  rw [split p, split q, rest]
  omega

theorem countBays_congr {p q : BayNo → Bool} (h : ∀ c, q c = p c) : countBays q = countBays p := by
  rw [funext h]

theorem countBays_false {p : BayNo → Bool} (h : ∀ c, p c = false) : countBays p = 0 :=
  List.countP_eq_zero.2 fun c _ => by simp [h c]

theorem inSet_zero (b : BayNo) : inSet 0 b = false := by simp [inSet]

theorem inSet_insert (set : BaySet) (b c : BayNo) :
    inSet (set ||| (1#24 <<< b.val)) c = (inSet set c || b == c) := by
  have shifted : (!decide (c < b) && decide (c.val - b.val = 0)) = (b == c) := by
    rw [Bool.eq_iff_iff]
    simp [Fin.ext_iff, ← Fin.val_fin_lt]
    omega
  simp [inSet, shifted]

/-! ### The consistency of an entry, as propositions -/

theorem Slot.endable_iff (x : Slot) : x.endable ↔ x.stage = .queued ∨ x.stage = .sent := by simp [Slot.endable]

theorem Gather.hasOpenSlot_iff (g : Gather) : g.hasOpenSlot ↔ ∃ b, (g.slot b).endable := by
  simp [Gather.hasOpenSlot, mem_allBays]

theorem Gather.hasOpenSlot_eq_false (g : Gather) : g.hasOpenSlot = false ↔ ∀ b, (g.slot b).endable = false := by
  simp [Gather.hasOpenSlot, mem_allBays]

theorem Gather.consistent_iff (g : Gather) :
    g.consistent ↔ (g.state = .opened ↔ g.hasOpenSlot) ∧
      (∀ b, ((g.slot b).stage = .outside ↔ inSet g.bays b = false) ∧ (g.slot b).consistent) ∧
      (g.state = .free → g.bays = 0) := by
  have bool : ∀ a b : Bool, (a = !b) ↔ (a = true ↔ b = false) := by decide
  simp only [Gather.consistent, Bool.and_eq_true, List.all_eq_true, mem_allBays, forall_const, beq_iff_eq, bool,
    Bool.or_eq_true, bne_iff_ne, and_assoc]
  refine and_congr ?_ (and_congr_right fun _ => ?_)
  · rw [Bool.eq_iff_iff, beq_iff_eq]
  · rw [imp_iff_not_or]

/-- A FREE entry has every slot outside; a slot of an entry that is not OPEN is neither QUEUED nor SENT. -/
theorem Gather.slot_outside_of_free {g : Gather} (h : g.consistent) (hs : g.state = .free) (b : BayNo) :
    (g.slot b).stage = .outside := by
  obtain ⟨_, hslots, hfree⟩ := g.consistent_iff.1 h
  exact (hslots b).1.2 (by rw [hfree hs, inSet_zero])

theorem Gather.slot_closed_of_not_opened {g : Gather} (h : g.consistent) (hs : g.state ≠ .opened) (b : BayNo) :
    (g.slot b).stage ≠ .queued ∧ (g.slot b).stage ≠ .sent := by
  obtain ⟨hopen, _⟩ := g.consistent_iff.1 h
  have hno : (g.slot b).endable = false :=
    g.hasOpenSlot_eq_false.1 (Bool.eq_false_iff.2 fun ho => hs (hopen.2 ho)) b
  simpa [Slot.endable] using hno

theorem Gather.opened_of_endable {g : Gather} (h : g.consistent) {b : BayNo} (hb : (g.slot b).endable) :
    g.state = .opened :=
  (g.consistent_iff.1 h).1.2 (g.hasOpenSlot_iff.2 ⟨b, hb⟩)

theorem Slot.ending_of_endable {x : Slot} (h : x.consistent) (he : x.endable) :
    x.ending = none ∧ x.verdict = .none ∧ x.scaled = none := by
  have hstage : x.stage ≠ .final := by
    rcases x.endable_iff.1 he with hs | hs <;> simp [hs]
  simp only [Slot.consistent, Bool.and_eq_true, Bool.or_eq_true, beq_iff_eq] at h
  obtain ⟨⟨⟨hend, hverdict⟩, _⟩, hscaled⟩ := h
  have hnone : x.ending = none := by
    rw [← Option.not_isSome_iff_eq_none, ← hend]; simpa using hstage
  refine ⟨hnone, ?_, ?_⟩
  · simpa [hnone] using hverdict
  · simpa [hnone] using hscaled

/-- The count of one ending. -/
def EndingCounts.of (c : EndingCounts) : Ending → Nat
  | .answered => c.answered | .timedOut => c.timedOut | .lost => c.lost
  | .unreached => c.unreached | .skipped => c.skipped | .cancelled => c.cancelled

theorem EndingCounts.of_count (c : EndingCounts) (e d : Ending) :
    (c.count e).of d = c.of d + (if e = d then 1 else 0) := by
  cases e <;> cases d <;> rfl

/-- The counts and sets of a summary agree with the slots (R84, R85). -/
structure Gather.SummaryAgrees (g : Gather) : Prop where
  queued : g.summary.queued = g.stageCount .queued
  sent : g.summary.sent = g.stageCount .sent
  endings : ∀ e, g.summary.endings.of e = g.endingCount e
  passSet : ∀ b, inSet g.summary.passSet b = ((g.slot b).verdict == .pass)
  failSet : ∀ b, inSet g.summary.failSet b = ((g.slot b).verdict == .fail)
  passCount : g.summary.passCount = countBays (fun b => (g.slot b).verdict == .pass)
  failCount : g.summary.failCount = countBays (fun b => (g.slot b).verdict == .fail)

theorem Gather.summaryConsistent_iff (g : Gather) : g.summaryConsistent ↔ g.SummaryAgrees := by
  have endings : (∀ e, g.summary.endings.of e = g.endingCount e) ↔
      g.summary.endings.answered = g.endingCount .answered ∧ g.summary.endings.timedOut = g.endingCount .timedOut ∧
      g.summary.endings.lost = g.endingCount .lost ∧ g.summary.endings.unreached = g.endingCount .unreached ∧
      g.summary.endings.skipped = g.endingCount .skipped ∧ g.summary.endings.cancelled = g.endingCount .cancelled := by
    refine ⟨fun h => ⟨h .answered, h .timedOut, h .lost, h .unreached, h .skipped, h .cancelled⟩, fun h e => ?_⟩
    obtain ⟨h1, h2, h3, h4, h5, h6⟩ := h
    cases e <;> assumption
  simp only [Gather.summaryConsistent, Bool.and_eq_true, List.all_eq_true, mem_allBays, forall_const, beq_iff_eq,
    forall_and, and_assoc]
  constructor
  · rintro ⟨hq, hs, h1, h2, h3, h4, h5, h6, hp, hf, hpc, hfc⟩
    exact ⟨hq, hs, endings.2 ⟨h1, h2, h3, h4, h5, h6⟩, hp, hf, hpc, hfc⟩
  · intro h
    obtain ⟨h1, h2, h3, h4, h5, h6⟩ := endings.1 h.endings
    exact ⟨h.queued, h.sent, h1, h2, h3, h4, h5, h6, h.passSet, h.failSet, h.passCount, h.failCount⟩

/-- A gather's slots and summary agree whatever its other fields are. -/
theorem Gather.SummaryAgrees.congr {g k : Gather} (h : g.SummaryAgrees) (hs : k.slots = g.slots)
    (hm : k.summary = g.summary) : k.SummaryAgrees := by
  have hslot : ∀ b, k.slot b = g.slot b := fun b => by rw [Gather.slot_eq_get, hs]; rfl
  refine ⟨?_, ?_, ?_, ?_, ?_, ?_, ?_⟩ <;> simp only [hm, hslot, Gather.stageCount, Gather.endingCount]
  exacts [h.queued, h.sent, h.endings, h.passSet, h.failSet, h.passCount, h.failCount]

/-- An entry is consistent whatever its fields besides state, set and slots are. -/
theorem Gather.consistent_congr {g k : Gather} (hst : k.state = g.state) (hb : k.bays = g.bays)
    (hs : k.slots = g.slots) (h : g.consistent) : k.consistent := by
  have hslot : ∀ b, k.slot b = g.slot b := fun b => by rw [Gather.slot_eq_get, hs]; rfl
  simpa only [Gather.consistent, Gather.hasOpenSlot, hst, hb, hslot] using h

/-! ### A slot made final -/

@[simp] theorem Summary.extremes_counts (m : Summary) (b : BayNo) (x : Slot) :
    (m.extremes b x).queued = m.queued ∧ (m.extremes b x).sent = m.sent ∧ (m.extremes b x).endings = m.endings ∧
    (m.extremes b x).passSet = m.passSet ∧ (m.extremes b x).failSet = m.failSet ∧
    (m.extremes b x).passCount = m.passCount ∧ (m.extremes b x).failCount = m.failCount := by
  unfold Summary.extremes
  split <;> simp

/-- The summary after a slot in this stage was made final with this verdict and ending, count by count. -/
structure Summary.Finalised (n m : Summary) (b : BayNo) (former : Stage) (v : Verdict) (e : Ending) : Prop where
  queued : n.queued = m.queued - (if former = .queued then 1 else 0)
  sent : n.sent = m.sent - (if former = .sent then 1 else 0)
  endings : n.endings = m.endings.count e
  passSet : ∀ c, inSet n.passSet c = (inSet m.passSet c || (v == .pass && b == c))
  failSet : ∀ c, inSet n.failSet c = (inSet m.failSet c || (v == .fail && b == c))
  passCount : n.passCount = m.passCount + (if v = .pass then 1 else 0)
  failCount : n.failCount = m.failCount + (if v = .fail then 1 else 0)

theorem Gather.finalise_summary (g : Gather) (b : BayNo) (x : Slot) (e : Ending) :
    (g.finalise b x e).summary.Finalised g.summary b (g.slot b).stage x.verdict e := by
  cases hst : (g.slot b).stage <;> cases hv : x.verdict <;>
    constructor <;> simp [Gather.finalise, hst, hv, Summary.leave, Summary.judge, inSet_insert]

/-- Making a slot that is QUEUED or SENT final keeps the summary in agreement. -/
theorem Gather.SummaryAgrees.finalise {g : Gather} {b : BayNo} {x : Slot} {e : Ending} (h : g.SummaryAgrees)
    (hold : (g.slot b).consistent) (hopen : (g.slot b).endable) (hst : x.stage = .final) (hend : x.ending = some e) :
    (g.finalise b x e).SummaryAgrees := by
  obtain ⟨hnone, hverdict, _⟩ := Slot.ending_of_endable hold hopen
  have m := g.finalise_summary b x e
  have others : ∀ c, c ≠ b → (g.finalise b x e).slot c = g.slot c := fun c hc => by simp [Ne.symm hc]
  have here : (g.finalise b x e).slot b = x := by simp
  have stages : ∀ st, st ≠ .final → (g.finalise b x e).stageCount st + (if (g.slot b).stage = st then 1 else 0) =
      g.stageCount st := by
    intro st hne
    have := countBays_update (p := fun c => (g.slot c).stage == st)
      (q := fun c => ((g.finalise b x e).slot c).stage == st) (b := b) (fun c hc => by simp only [others c hc])
    simp only [here, hst, beq_iff_eq, Ne.symm hne, if_false, Nat.add_zero] at this
    exact this
  have verdicts : ∀ v, v ≠ Verdict.none → countBays (fun c => ((g.finalise b x e).slot c).verdict == v) =
      countBays (fun c => (g.slot c).verdict == v) + (if x.verdict = v then 1 else 0) := by
    intro v hv
    have := countBays_update (p := fun c => (g.slot c).verdict == v)
      (q := fun c => ((g.finalise b x e).slot c).verdict == v) (b := b) (fun c hc => by simp only [others c hc])
    simpa only [here, hverdict, beq_iff_eq, Ne.symm hv, if_false, Nat.add_zero] using this
  have sets : ∀ (v : Verdict) (c : BayNo), v ≠ .none → (((g.finalise b x e).slot c).verdict == v) =
      (((g.slot c).verdict == v) || (x.verdict == v && b == c)) := by
    intro v c hv
    by_cases hc : c = b
    · subst hc; simp [here, hverdict, Ne.symm hv]
    · simp [others c hc, Ne.symm hc]
  refine ⟨?_, ?_, fun d => ?_, fun c => ?_, fun c => ?_, ?_, ?_⟩
  · rw [m.queued, h.queued, ← stages .queued (by decide), Nat.add_sub_cancel]
  · rw [m.sent, h.sent, ← stages .sent (by decide), Nat.add_sub_cancel]
  · have := countBays_update (p := fun c => (g.slot c).ending == some d)
      (q := fun c => ((g.finalise b x e).slot c).ending == some d) (b := b) (fun c hc => by simp only [others c hc])
    simp only [here, hnone, hend, beq_iff_eq, reduceCtorEq, if_false, Nat.add_zero, Option.some.injEq] at this
    rw [m.endings, EndingCounts.of_count, h.endings d, Gather.endingCount, Gather.endingCount, this]
  · rw [m.passSet, h.passSet, sets .pass c (by decide)]
  · rw [m.failSet, h.failSet, sets .fail c (by decide)]
  · rw [m.passCount, h.passCount, verdicts .pass (by decide)]
  · rw [m.failCount, h.failCount, verdicts .fail (by decide)]

/-- A gather as the completion of a slot leaves it: DONE when that was its last open slot (R80). -/
def Gather.closedAt (g : Gather) (clock : Time) : Gather :=
  if g.hasOpenSlot then g else { g with state := .done, lastFinal := some clock }

theorem State.completeGatherIfFinal_closedAt (s : State) (i : GatherNo) :
    (s.completeGatherIfFinal i).gather i = (s.gather i).closedAt s.clock := by
  rw [State.completeGatherIfFinal_gather, Gather.closedAt]
  cases (s.gather i).hasOpenSlot <;> simp

/-- The completion of an open slot keeps the entry consistent, its slots and its summary in agreement. -/
theorem Gather.closedAt_finalise_consistent {g : Gather} {b : BayNo} {x : Slot} {e : Ending} (clock : Time)
    (h : g.consistent ∧ g.summaryConsistent) (hopen : (g.slot b).endable) (hst : x.stage = .final)
    (hend : x.ending = some e) (hx : x.consistent) :
    ((g.finalise b x e).closedAt clock).consistent ∧ ((g.finalise b x e).closedAt clock).summaryConsistent := by
  obtain ⟨hcons, hsum⟩ := h
  have hstate := Gather.opened_of_endable hcons hopen
  obtain ⟨_, hslots, _⟩ := g.consistent_iff.1 hcons
  have hin : inSet g.bays b = true := by
    rw [← Bool.not_eq_false, ← (hslots b).1]
    rcases (g.slot b).endable_iff.1 hopen with hs | hs <;> simp [hs]
  have slots : ∀ c, (((g.finalise b x e).slot c).stage = .outside ↔ inSet g.bays c = false) ∧
      ((g.finalise b x e).slot c).consistent := by
    intro c
    by_cases hc : b = c
    · subst hc; simp [hst, hx, hin]
    · simpa [hc] using hslots c
  have hagrees : (g.finalise b x e).SummaryAgrees :=
    Gather.SummaryAgrees.finalise (g.summaryConsistent_iff.1 hsum) (hslots b).2 hopen hst hend
  unfold Gather.closedAt
  split
  · rename_i ho
    refine ⟨(Gather.consistent_iff _).2 ⟨iff_of_true hstate ho, slots, ?_⟩, (Gather.summaryConsistent_iff _).2 hagrees⟩
    intro hf
    exact absurd (hstate.symm.trans hf) (by decide)
  · rename_i ho
    exact ⟨(Gather.consistent_iff _).2 ⟨iff_of_false (by simp) ho, slots, by simp⟩,
      (Gather.summaryConsistent_iff _).2 (hagrees.congr rfl rfl)⟩

/-! ### The two kinds of completed slots are consistent -/

theorem verdictOf_ne_none (i m : Indicators) : verdictOf i m ≠ .none := by
  unfold verdictOf
  split <;> simp

/-- An evaluated slot is consistent: it has a verdict, and a scaled value only when ANSWERED (R62, R99). -/
theorem State.finalSlot_consistent (s : State) (i : GatherNo) (b : BayNo) {e : Ending} (a : Option Answer)
    (he : e.evaluated) : (s.finalSlot i b e a).consistent := by
  have hv : (s.finalSlot i b e a).verdict ≠ .none := verdictOf_ne_none _ _
  have hs : (s.finalSlot i b e a).scaled.isNone || (s.finalSlot i b e a).ending == some .answered := by
    rw [State.finalSlot_ending]
    show ((exactScaled _ _).map saturate32).isNone || _
    unfold exactScaled
    split <;> simp_all [Slot.withEnding]
  simp only [Slot.consistent, State.finalSlot_stage, State.finalSlot_ending] at hs ⊢
  simp_all

/-- A slot that ended SKIPPED or CANCELLED is consistent: no verdict and no indicators (R62). -/
theorem Slot.unevaluated_consistent {x : Slot} {e : Ending} (h : x.consistent) (hopen : x.endable)
    (he : e.evaluated = false) :
    ({ x with stage := .final, ending := some e, verdict := .none, indicators := 0 } : Slot).consistent := by
  obtain ⟨_, _, hscaled⟩ := Slot.ending_of_endable h hopen
  simp [Slot.consistent, he, hscaled]

/-! ### Entries of the state -/

/-- A change of one entry that keeps it consistent keeps the whole table consistent. -/
theorem State.gathersConsistent_of_entry {s t : State} {i : GatherNo} (h : s.gathersConsistent)
    (hothers : ∀ j, j ≠ i → t.gather j = s.gather j)
    (hi : (t.gather i).consistent ∧ (t.gather i).summaryConsistent) : t.gathersConsistent := by
  intro j
  by_cases hj : j = i
  · subst hj; exact hi
  · rw [hothers j hj]; exact h j

theorem State.gathersConsistent_congr {s t : State} (h : s.gathersConsistent) (hg : t.gathers = s.gathers) :
    t.gathersConsistent := fun i => by
  rw [State.gather_eq_get, hg]; exact h i

theorem State.finishEvaluated_gather (s : State) (b : BayNo) (i j : GatherNo) (e : Ending) (a : Option Answer) :
    (s.finishEvaluated b i e a).gather j =
      if i = j then ((s.gather i).finalise b (s.finalSlot i b e a) e).closedAt s.clock else s.gather j := by
  by_cases h : i = j
  · subst h
    rw [if_pos rfl]
    simp only [State.finishEvaluated, State.completeGatherIfFinal_closedAt]
    simp
  · rw [if_neg h]
    simp [State.finishEvaluated, State.completeGatherIfFinal_gather, h]

theorem State.finishUnevaluated_gather (s : State) (b : BayNo) (i j : GatherNo) (e : Ending) :
    (s.finishUnevaluated b i e).gather j =
      if i = j then ((s.gather i).finalise b
        { (s.gather i).slot b with stage := .final, ending := some e, verdict := .none, indicators := 0 }
        e).closedAt s.clock else s.gather j := by
  by_cases h : i = j
  · subst h
    rw [if_pos rfl]
    simp only [State.finishUnevaluated, State.completeGatherIfFinal_closedAt]
    simp
  · rw [if_neg h]
    simp [State.finishUnevaluated, State.completeGatherIfFinal_gather, h]

theorem State.completeEvaluated_gathersConsistent {s : State} (b : BayNo) (i : GatherNo) {e : Ending}
    (a : Option Answer) (he : e.evaluated) (h : s.gathersConsistent) :
    (s.completeEvaluated b i e a).gathersConsistent := by
  unfold State.completeEvaluated
  split
  · rename_i hopen
    refine State.gathersConsistent_of_entry (i := i) h (fun j hj => ?_) ?_
    · rw [State.finishEvaluated_gather, if_neg (Ne.symm hj)]
    · rw [State.finishEvaluated_gather, if_pos rfl]
      exact Gather.closedAt_finalise_consistent _ (h i) hopen rfl rfl (s.finalSlot_consistent i b a he)
  · exact h

theorem State.completeUnevaluated_gathersConsistent {s : State} (b : BayNo) (i : GatherNo) {e : Ending}
    (he : e.evaluated = false) (h : s.gathersConsistent) : (s.completeUnevaluated b i e).gathersConsistent := by
  unfold State.completeUnevaluated
  split
  · rename_i hopen
    obtain ⟨_, hslots, _⟩ := (s.gather i).consistent_iff.1 (h i).1
    refine State.gathersConsistent_of_entry (i := i) h (fun j hj => ?_) ?_
    · rw [State.finishUnevaluated_gather, if_neg (Ne.symm hj)]
    · rw [State.finishUnevaluated_gather, if_pos rfl]
      exact Gather.closedAt_finalise_consistent _ (h i) hopen rfl rfl
        (Slot.unevaluated_consistent (hslots b).2 hopen he)
  · exact h

end Sys2Proof.Machine
end

section
/-! SUPPORT. What the endings of a bay's slots do and leave alone, said once for each shared operation: the completions, the
loss of an ask, and the end of a queue (R34, R64, R73 to R76). -/

namespace Sys2Proof.Machine

/-! ### What an ending leaves alone -/

/-- What slots are judged and recorded by is as it was: the clock, the terms of every gather and the definition of every
profile. -/
structure State.SameTerms (s t : State) : Prop where
  clock : t.clock = s.clock
  terms : ∀ i, (t.gather i).termsKept (s.gather i)
  definitions : ∀ p, (t.profile p).definitionKept (s.profile p)

theorem Gather.termsKept_refl (g : Gather) : g.termsKept g := ⟨rfl, rfl, rfl, rfl, rfl, rfl, rfl, rfl, rfl, rfl, rfl⟩

theorem Gather.termsKept.trans {g k l : Gather} (h : k.termsKept g) (h' : l.termsKept k) : l.termsKept g := by
  simp only [Gather.termsKept] at *
  grind

theorem Profile.definitionKept_refl (p : Profile) : p.definitionKept p := ⟨rfl, rfl, rfl, rfl, rfl, rfl, rfl, rfl, rfl⟩

theorem Profile.definitionKept.trans {p q r : Profile} (h : q.definitionKept p) (h' : r.definitionKept q) :
    r.definitionKept p := by
  simp only [Profile.definitionKept] at *
  grind

theorem Profile.account_definitionKept (p : Profile) (x : Slot) : (p.account x).definitionKept p := by
  unfold Profile.account
  cases x.scaled <;> dsimp only <;> split <;> exact ⟨rfl, rfl, rfl, rfl, rfl, rfl, rfl, rfl, rfl⟩

namespace State.SameTerms

variable {s t u : State}

theorem refl (s : State) : SameTerms s s := ⟨rfl, fun _ => Gather.termsKept_refl _, fun _ => Profile.definitionKept_refl _⟩

theorem trans (h : SameTerms s t) (h' : SameTerms t u) : SameTerms s u :=
  ⟨h'.clock.trans h.clock, fun i => (h.terms i).trans (h'.terms i), fun p => (h.definitions p).trans (h'.definitions p)⟩

/-- Nothing that the terms rest on changed. -/
theorem of_eq (hc : t.clock = s.clock) (hg : t.gathers = s.gathers) (hp : t.profiles = s.profiles) : SameTerms s t :=
  ⟨hc, fun i => by rw [State.gather_eq_get, hg]; exact Gather.termsKept_refl _,
    fun p => by rw [State.profile_eq_get, hp]; exact Profile.definitionKept_refl _⟩

end State.SameTerms

/-- Every notice place but those of rings and gathers is as it was. -/
structure Notices.EventsKept (after before : Notices) : Prop where
  stopLine : after.stopLine = before.stopLine
  bayFault : after.bayFault = before.bayFault
  bayDark : after.bayDark = before.bayDark
  presence : after.presence = before.presence
  tunnelIn : after.tunnelIn = before.tunnelIn
  signedOn : after.signedOn = before.signedOn

theorem Notices.EventsKept.refl (n : Notices) : n.EventsKept n := ⟨rfl, rfl, rfl, rfl, rfl, rfl⟩

theorem Notices.EventsKept.trans {n m k : Notices} (h : m.EventsKept n) (h' : k.EventsKept m) : k.EventsKept n :=
  ⟨h'.1.trans h.1, h'.2.trans h.2, h'.3.trans h.3, h'.4.trans h.4, h'.5.trans h.5, h'.6.trans h.6⟩

theorem State.raise_gatherDone_eventsKept (s : State) (i : GatherNo) :
    (s.raise (.gatherDone i)).notices.EventsKept s.notices := by
  unfold State.raise
  split <;> exact ⟨rfl, rfl, rfl, rfl, rfl, rfl⟩

theorem State.writeRecord_eventsKept (s : State) (b : BayNo) (kind : RecordKind) (own : List Byte) :
    (s.writeRecord b kind own).notices.EventsKept s.notices := by
  rw [State.writeRecord_notices]
  split <;> exact ⟨rfl, rfl, rfl, rfl, rfl, rfl⟩

/-- From s to t slots of bay b ended, and nothing but what goes with that changed. -/
structure State.EndsSlots (b : BayNo) (s t : State) : Prop where
  only : s.OnlyAt b t
  same : s.SameTerms t
  events : t.notices.EventsKept s.notices
  classMask : t.classMask = s.classMask
  run : t.run = s.run
  gathers : s.gathersConsistent → t.gathersConsistent

namespace State.EndsSlots

variable {b : BayNo} {s t u : State}

theorem refl (b : BayNo) (s : State) : EndsSlots b s s :=
  ⟨.refl b s, .refl s, .refl _, rfl, rfl, id⟩

theorem trans (h : EndsSlots b s t) (h' : EndsSlots b t u) : EndsSlots b s u :=
  ⟨h.only.trans h'.only, h.same.trans h'.same, h.events.trans h'.events, h'.classMask.trans h.classMask,
    h'.run.trans h.run, h'.gathers ∘ h.gathers⟩

/-- A fold of endings is an ending of slots. -/
theorem foldl {α : Type} {f : State → α → State} (h : ∀ t a, EndsSlots b t (f t a)) :
    ∀ (l : List α) (s : State), EndsSlots b s (l.foldl f s)
  | [], s => .refl b s
  | a :: l, s => (h s a).trans (foldl h l (f s a))

/-- A change of the bay's own record that keeps its ring's window. -/
theorem modBay (s : State) (b : BayNo) (f : Bay → Bay)
    (h : (f (s.bay b)).ring.base = (s.bay b).ring.base ∧ (f (s.bay b)).ring.length = (s.bay b).ring.length) :
    EndsSlots b s (s.modBay b f) :=
  ⟨.modBay s b f h, .of_eq rfl rfl rfl, .refl _, rfl, rfl, fun hg => State.gathersConsistent_congr hg rfl⟩

end State.EndsSlots

variable (s : State)

/-! ### A completion -/

theorem State.completeGather_sameTerms (i : GatherNo) : s.SameTerms (s.completeGather i) := by
  refine ⟨by simp, fun j => ?_, fun p => ?_⟩
  · rw [State.completeGather_gather]
    split
    · rename_i h; subst h; exact Gather.termsKept_refl _
    · exact Gather.termsKept_refl _
  · simp only [State.completeGather, State.raise_profile, State.profile_modProfile]
    split
    · rename_i h; subst h; exact Profile.definitionKept_refl _
    · exact Profile.definitionKept_refl _

theorem State.completeGather_onlyAt (b : BayNo) (i : GatherNo) : s.OnlyAt b (s.completeGather i) := by
  refine ⟨by simp, by simp, fun d _ j => ?_, fun d _ => ?_, by simp, by simp, fun d _ h => .inl (by simpa using h)⟩
  · rw [State.completeGather_gather]
    split
    · rename_i h; subst h; rfl
    · rfl
  · exact State.raise_sameAt _ (by simp [Place.bay])

theorem State.completeGatherIfFinal_sameTerms (i : GatherNo) : s.SameTerms (s.completeGatherIfFinal i) := by
  unfold State.completeGatherIfFinal
  split
  · exact .refl s
  · exact s.completeGather_sameTerms i

theorem State.completeGatherIfFinal_onlyAt (b : BayNo) (i : GatherNo) : s.OnlyAt b (s.completeGatherIfFinal i) := by
  unfold State.completeGatherIfFinal
  split
  · exact .refl b s
  · exact s.completeGather_onlyAt b i

theorem State.completeGatherIfFinal_eventsKept (i : GatherNo) :
    (s.completeGatherIfFinal i).notices.EventsKept s.notices := by
  unfold State.completeGatherIfFinal
  split
  · exact .refl _
  · exact State.raise_gatherDone_eventsKept _ i

theorem State.completeGatherIfFinal_ringFull (i : GatherNo) :
    (s.completeGatherIfFinal i).notices.ringFull = s.notices.ringFull := by
  unfold State.completeGatherIfFinal State.completeGather State.raise
  split
  · rfl
  · dsimp only; split <;> rfl

theorem Gather.finalise_termsKept (g : Gather) (b : BayNo) (x : Slot) (e : Ending) :
    (g.finalise b x e).termsKept g := Gather.termsKept_refl _

theorem State.modGather_sameTerms (i : GatherNo) (f : Gather → Gather)
    (h : ∀ g, (f g).termsKept g) : s.SameTerms (s.modGather i f) := by
  refine ⟨rfl, fun j => ?_, fun p => Profile.definitionKept_refl _⟩
  rw [State.gather_modGather]
  split
  · rename_i hj; subst hj; exact h _
  · exact Gather.termsKept_refl _

theorem State.modGather_onlyAt (i : GatherNo) (b : BayNo) (f : Gather → Gather)
    (h : ∀ d, d ≠ b → (f (s.gather i)).slot d = (s.gather i).slot d) : s.OnlyAt b (s.modGather i f) := by
  refine ⟨rfl, fun _ _ => rfl, fun d hd j => ?_, fun _ _ => .refl _ _, ⟨rfl, rfl⟩, fun _ _ _ => rfl, fun _ _ h => .inl h⟩
  rw [State.gather_modGather]
  split
  · rename_i hj; subst hj; exact h d hd
  · rfl

theorem State.modProfile_onlyAt (p : ProfileNo) (b : BayNo) (f : Profile → Profile) : s.OnlyAt b (s.modProfile p f) :=
  ⟨rfl, fun _ _ => rfl, fun _ _ _ => rfl, fun _ _ => .refl _ _, ⟨rfl, rfl⟩, fun _ _ _ => rfl, fun _ _ h => .inl h⟩

theorem State.modProfile_sameTerms (p : ProfileNo) (f : Profile → Profile)
    (h : ∀ x, (f x).definitionKept x) : s.SameTerms (s.modProfile p f) := by
  refine ⟨rfl, fun _ => Gather.termsKept_refl _, fun q => ?_⟩
  rw [State.profile_modProfile]
  split
  · rename_i hq; subst hq; exact h _
  · exact Profile.definitionKept_refl _

theorem State.writeRecord_sameTerms (b : BayNo) (kind : RecordKind) (own : List Byte) :
    s.SameTerms (s.writeRecord b kind own) := .of_eq (by simp) (by simp) (by simp)

theorem State.closeWindowFor_onlyAt (i : GatherNo) (b : BayNo) : s.OnlyAt b (s.closeWindowFor i b) := by
  unfold State.closeWindowFor
  split
  · exact (State.OnlyAt.refl b s).closeWindow
  · exact .refl b s

/-- An evaluated ending is an ending of slots (R73). -/
theorem State.completeEvaluated_ends (b : BayNo) (i : GatherNo) {e : Ending} (a : Option Answer) (he : e.evaluated)
    (ha : payloadFits a) : s.EndsSlots b (s.completeEvaluated b i e a) := by
  refine ⟨?_, ?_, ?_, by simp, by simp, State.completeEvaluated_gathersConsistent b i a he⟩ <;>
    unfold State.completeEvaluated <;> split
  · simp only [State.finishEvaluated]
    refine State.OnlyAt.trans (State.OnlyAt.writeRecord ?_ _ _ (outcomeFields_length _ _ _ _
      (s.finalSlot_payload i b e a ha))) (State.completeGatherIfFinal_onlyAt _ b i)
    exact ((s.closeWindowFor_onlyAt i b).trans (State.modProfile_onlyAt _ _ b _)).trans
      (State.modGather_onlyAt _ i b _ fun d hd => by simp [Ne.symm hd])
  · exact .refl b s
  · simp only [State.finishEvaluated]
    refine State.SameTerms.trans ?_ (State.completeGatherIfFinal_sameTerms _ i)
    refine State.SameTerms.trans ?_ (State.writeRecord_sameTerms ..)
    refine State.SameTerms.trans ?_ (State.modGather_sameTerms _ i _ fun g => g.finalise_termsKept b _ e)
    exact State.SameTerms.trans (.of_eq (by simp) (by simp) (by simp))
      (State.modProfile_sameTerms _ _ _ fun p => p.account_definitionKept _)
  · exact .refl s
  · simp only [State.finishEvaluated]
    refine Notices.EventsKept.trans ?_ (State.completeGatherIfFinal_eventsKept _ i)
    refine Notices.EventsKept.trans ?_ (State.writeRecord_eventsKept ..)
    simpa using Notices.EventsKept.refl s.notices
  · exact .refl _

/-- So is an ending without evaluation (R76). -/
theorem State.completeUnevaluated_ends (b : BayNo) (i : GatherNo) {e : Ending} (he : e.evaluated = false) :
    s.EndsSlots b (s.completeUnevaluated b i e) := by
  refine ⟨?_, ?_, ?_, by simp, by simp, State.completeUnevaluated_gathersConsistent b i he⟩ <;>
    unfold State.completeUnevaluated <;> split
  · exact (State.modGather_onlyAt _ i b _ fun d hd => by simp [Ne.symm hd]).trans
      (State.completeGatherIfFinal_onlyAt _ b i)
  · exact .refl b s
  · exact (State.modGather_sameTerms _ i _ fun g => g.finalise_termsKept b _ e).trans
      (State.completeGatherIfFinal_sameTerms _ i)
  · exact .refl s
  · exact State.completeGatherIfFinal_eventsKept _ i
  · exact .refl _

theorem State.unreachQueue_ends (b : BayNo) : s.EndsSlots b (s.unreachQueue b) :=
  (State.EndsSlots.modBay s b Bay.emptyQueue ⟨rfl, rfl⟩).trans
    (State.EndsSlots.foldl (fun t i => t.completeEvaluated_ends b i none rfl payloadFits_none) _ _)

theorem State.dropQueue_ends (b : BayNo) {e : Ending} (he : e.evaluated = false) : s.EndsSlots b (s.dropQueue b e) :=
  (State.EndsSlots.modBay s b Bay.emptyQueue ⟨rfl, rfl⟩).trans
    (State.EndsSlots.foldl (fun t i => t.completeUnevaluated_ends b i he) _ _)

theorem State.loseAsk_ends (b : BayNo) : s.EndsSlots b (s.loseAsk b) := by
  unfold State.loseAsk
  split
  · have quiet := State.EndsSlots.modBay s b (fun x => x.modLink Link.endAsk) ⟨rfl, rfl⟩
    dsimp only
    split
    · exact quiet
    · exact quiet.trans (State.completeEvaluated_ends _ b _ none rfl payloadFits_none)
  · exact .refl b s

/-! ### The slot an ending leaves -/

/-- A judgement rests on the definition of the profile alone (R98). -/
theorem evaluate_congr {p q : Profile} (h : q.definitionKept p) (failMask : Indicators) (measure : Bool) (x : Slot) :
    evaluate q failMask measure x = evaluate p failMask measure x := by
  cases p
  cases q
  obtain ⟨_, rfl, rfl, rfl, rfl, rfl, rfl, rfl, rfl⟩ := h
  rfl

/-- The slot of an evaluated ending rests on the slot, the terms and the bay's window alone. -/
theorem State.slotJudged_congr {s t : State} {b : BayNo} {i : GatherNo} (h : s.SameTerms t)
    (hslot : (t.gather i).slot b = (s.gather i).slot b)
    (hwindow : ((s.gather i).slot b).stage = .sent → (t.bay b).window = (s.bay b).window) (e : Ending)
    (a : Option Answer) : t.slotJudged b i e a = s.slotJudged b i e a := by
  obtain ⟨_, _, _, _, hprofile, hmask, _, hmeasure, _⟩ := h.terms i
  simp only [State.slotJudged, hprofile, hmask, hmeasure, hslot, h.clock,
    evaluate_congr (h.definitions (s.gather i).profile)]
  by_cases hs : ((s.gather i).slot b).stage = .sent
  · rw [hwindow hs]
  · simp only [hs, if_false]

theorem State.slotEnded_congr {s t : State} {b : BayNo} {i : GatherNo} (h : s.SameTerms t)
    (hslot : (t.gather i).slot b = (s.gather i).slot b)
    (hwindow : ((s.gather i).slot b).stage = .sent → (t.bay b).window = (s.bay b).window) (e : Ending) :
    t.slotEnded b i e = s.slotEnded b i e := by
  unfold State.slotEnded
  rw [State.slotJudged_congr h hslot hwindow, hslot]

theorem State.finalSlot_eq_slotJudged (i : GatherNo) (b : BayNo) (e : Ending) (a : Option Answer) :
    s.finalSlot i b e a = s.slotJudged b i e a := rfl

@[simp] theorem State.slotJudged_stage (b : BayNo) (i : GatherNo) (e : Ending) (a : Option Answer) :
    (s.slotJudged b i e a).stage = .final := rfl

@[simp] theorem State.slotEnded_stage (b : BayNo) (i : GatherNo) (e : Ending) : (s.slotEnded b i e).stage = .final := by
  unfold State.slotEnded
  split <;> rfl

theorem State.completeEvaluated_slot (b c : BayNo) (i j : GatherNo) (e : Ending) (a : Option Answer) :
    ((s.completeEvaluated b i e a).gather j).slot c =
      if ((s.gather i).slot b).endable ∧ i = j ∧ b = c then s.slotJudged b i e a else (s.gather j).slot c := by
  unfold State.completeEvaluated
  by_cases h : ((s.gather i).slot b).endable
  · simp only [h, if_true, true_and, State.finishEvaluated_slot, State.finalSlot_eq_slotJudged]
  · simp only [h, if_false, false_and, Bool.false_eq_true]

theorem State.completeUnevaluated_slot (b c : BayNo) (i j : GatherNo) {e : Ending} (he : e.evaluated = false) :
    ((s.completeUnevaluated b i e).gather j).slot c =
      if ((s.gather i).slot b).endable ∧ i = j ∧ b = c then s.slotEnded b i e else (s.gather j).slot c := by
  unfold State.completeUnevaluated State.slotEnded
  by_cases h : ((s.gather i).slot b).endable
  · simp only [h, he, if_true, if_false, true_and, State.finishUnevaluated_slot, Bool.false_eq_true]
  · simp only [h, if_false, false_and, Bool.false_eq_true]

/-! ### Records handed over (R132 to R135) -/

/-- A record handed over rests on the bytes, the clock, the bay's ring and its RING_FULL place alone. -/
theorem State.handOver_congr {b : BayNo} : ∀ (l : List (RecordKind × List Byte)) {s u : State}, s.recordsAre u b [] →
    u.clock = s.clock → (s.handOver b l).recordsAre (u.handOver b l) b []
  | [], _, _, h, _ => h
  | (kind, own) :: l, s, u, h, hclock => by
    have hcells : u.cells = s.cells := h.1
    have hring : (u.bay b).ring = (s.bay b).ring := h.2.1
    have hfull : u.notices.ringFull.get b = s.notices.ringFull.get b := h.2.2
    refine State.handOver_congr l (s := s.writeRecord b kind own) (u := u.writeRecord b kind own) ⟨?_, ?_, ?_⟩
      (by simpa using hclock)
    · show (u.writeRecord b kind own).cells = (s.writeRecord b kind own).cells
      rw [State.writeRecord_cells, State.writeRecord_cells, hring, hclock, hcells]
    · show ((u.writeRecord b kind own).bay b).ring = ((s.writeRecord b kind own).bay b).ring
      simpa using congrArg Ring.afterWrite hring
    · show (u.writeRecord b kind own).notices.ringFull.get b = (s.writeRecord b kind own).notices.ringFull.get b
      rw [State.writeRecord_notices, State.writeRecord_notices, hring]
      split
      · simp only [State.ringFullRises, vector_get_set, if_true, hfull]
      · exact hfull

/-- Records handed over one after the other. -/
theorem State.recordsAre.append {s u t : State} {b : BayNo} {l l' : List (RecordKind × List Byte)}
    (h : s.recordsAre u b l) (hclock : u.clock = s.clock) (h' : u.recordsAre t b l') : s.recordsAre t b (l ++ l') := by
  have hover : ∀ (l : List (RecordKind × List Byte)) (v : State), (v.handOver b l).clock = v.clock :=
    fun l v => foldl_keeps State.clock _ (fun _ _ => by simp) l v
  obtain ⟨hcells, hring, hfull⟩ := State.handOver_congr l' (s := s.handOver b l) h (by rw [hover, hclock])
  have happ : s.handOver b (l ++ l') = (s.handOver b l).handOver b l' := List.foldl_append ..
  exact ⟨by rw [happ]; exact h'.1.trans hcells, by rw [happ]; exact h'.2.1.trans hring,
    by rw [happ]; exact h'.2.2.trans hfull⟩

theorem State.recordsAre_nil {s t : State} {b : BayNo} (hcells : t.cells = s.cells)
    (hring : (t.bay b).ring = (s.bay b).ring)
    (hfull : t.notices.ringFull.get b = s.notices.ringFull.get b) : s.recordsAre t b [] := ⟨hcells, hring, hfull⟩

theorem State.recordsAre_writeRecord (b : BayNo) (kind : RecordKind) (own : List Byte) :
    s.recordsAre (s.writeRecord b kind own) b [(kind, own)] := ⟨rfl, rfl, rfl⟩

/-- A change of the bay's record that keeps its ring hands nothing over. -/
theorem State.recordsAre_modBay (b : BayNo) (f : Bay → Bay) (h : (f (s.bay b)).ring = (s.bay b).ring) :
    s.recordsAre (s.modBay b f) b [] := State.recordsAre_nil rfl (by simpa using h) rfl

theorem Ring.window_handOver (b : BayNo) : ∀ (l : List (RecordKind × List Byte)) (s : State),
    ((s.handOver b l).bay b).windowOfRingKept (s.bay b) ∧ ((s.handOver b l).bay b).wroteRecords (s.bay b) l.length
  | [], _ => ⟨⟨rfl, rfl, rfl⟩, by simp [Bay.wroteRecords, State.handOver]⟩
  | (kind, own) :: l, s => by
    obtain ⟨⟨hbase, hlen, hmode⟩, hseq⟩ := Ring.window_handOver b l (s.writeRecord b kind own)
    obtain ⟨abase, alen, amode⟩ := (s.bay b).ring.afterWrite_window
    simp only [State.writeRecord_bay, if_true] at hbase hlen hmode
    refine ⟨⟨hbase.trans abase, hlen.trans alen, hmode.trans amode⟩, ?_⟩
    simp only [Bay.wroteRecords, State.writeRecord_bay, if_true, Ring.afterWrite_nextSeq] at hseq ⊢
    refine hseq.trans ?_
    rw [List.length_cons, BitVec.ofNat_add, BitVec.add_assoc, BitVec.add_comm 1]
    rfl

/-- The records of an event leave the ring's window and mode and use one sequence number each (R133). -/
theorem State.recordsAre.ring {s t : State} {b : BayNo} {l : List (RecordKind × List Byte)} (h : s.recordsAre t b l) :
    (t.bay b).windowOfRingKept (s.bay b) ∧ (t.bay b).wroteRecords (s.bay b) l.length := by
  have hw := Ring.window_handOver b l s
  simpa only [Bay.windowOfRingKept, Bay.wroteRecords, h.2.1] using hw

/-- A record written on a state with the bytes, ring and place of s, and then the completion of the gather. -/
theorem State.recordsAre_writeRecord_complete {s u : State} {b : BayNo} (kind : RecordKind) (own : List Byte)
    (i : GatherNo) (h : s.recordsAre u b []) (hclock : u.clock = s.clock) :
    s.recordsAre ((u.writeRecord b kind own).completeGatherIfFinal i) b [(kind, own)] :=
  State.recordsAre.append h hclock (State.recordsAre.append (l' := []) (u.recordsAre_writeRecord b kind own) (by simp)
    (State.recordsAre_nil (by simp) (by simp) (by rw [State.completeGatherIfFinal_ringFull])))

/-- The record of an evaluated ending (R75). -/
theorem State.completeEvaluated_recordsAre (b : BayNo) (i : GatherNo) (e : Ending) (a : Option Answer)
    (hopen : ((s.gather i).slot b).endable) :
    s.recordsAre (s.completeEvaluated b i e a) b
      [(.outcome, outcomeFields i (s.gather i) (s.slotJudged b i e a) s.clock)] := by
  unfold State.completeEvaluated
  rw [if_pos hopen]
  simp only [State.finishEvaluated, State.modGather_clock, State.modProfile_clock, State.closeWindowFor_clock]
  refine State.recordsAre_writeRecord_complete _ _ i (State.recordsAre_nil (by simp) ?_ (by simp)) (by simp)
  simp only [State.modGather_bay, State.modProfile_bay, State.closeWindowFor_bay]
  split <;> rfl

/-! ### Converter -/

theorem State.completeEvaluated_converter (b : BayNo) (i : GatherNo) (e : Ending) (a : Option Answer) :
    (s.completeEvaluated b i e a).converter =
      if ((s.gather i).slot b).stage = .sent then s.converter.untie b else s.converter := by
  unfold State.completeEvaluated State.finishEvaluated State.closeWindowFor
  by_cases hs : ((s.gather i).slot b).stage = .sent
  · simp [hs, Slot.endable, State.closeWindow]
  · by_cases hq : ((s.gather i).slot b).stage = .queued <;> simp [hs, hq, Slot.endable]

theorem State.completeEvaluated_window (b : BayNo) (i : GatherNo) (e : Ending) (a : Option Answer) :
    ((s.completeEvaluated b i e a).bay b).window =
      if ((s.gather i).slot b).stage = .sent then .closed else (s.bay b).window := by
  unfold State.completeEvaluated
  split
  · simp [State.finishEvaluated_bay]
  · rename_i h
    rw [if_neg fun hs => h ((Slot.endable_iff _).2 (.inr hs))]

end Sys2Proof.Machine
end

section
/-! SUPPORT. The slots, records and window that the end of an ask and the end of a queue leave, in the words of the
statements (slotsMeet, recordsAre). -/

namespace Sys2Proof.Machine

/-! ### The slots of a bay and the bay -/

/-- A bay is ASKING exactly when a slot is SENT for it, and no two are (R61). -/
structure State.AskAt (s : State) (b : BayNo) : Prop where
  asking : (s.bay b).state = .asking ↔ ∃ i, ((s.gather i).slot b).stage = .sent
  unique : ∀ i j, ((s.gather i).slot b).stage = .sent → ((s.gather j).slot b).stage = .sent → i = j

/-- A bay's queue holds each gather whose slot is QUEUED for it, once, and no other (R63). -/
structure State.QueueAt (s : State) (b : BayNo) : Prop where
  nodup : (s.bay b).queue.Nodup
  queued : ∀ i, i ∈ (s.bay b).queue ↔ ((s.gather i).slot b).stage = .queued

theorem State.AskAt.modBay {s : State} {b : BayNo} (h : s.AskAt b) (f : Bay → Bay)
    (hf : (f (s.bay b)).state = (s.bay b).state) : (s.modBay b f).AskAt b :=
  ⟨by simpa [hf] using h.asking, h.unique⟩

theorem State.QueueAt.modBay {s : State} {b : BayNo} (h : s.QueueAt b) (f : Bay → Bay)
    (hf : (f (s.bay b)).queue = (s.bay b).queue) : (s.modBay b f).QueueAt b :=
  ⟨by simpa [hf] using h.nodup, by simpa [hf] using h.queued⟩

theorem State.AskAt.sentGather {s : State} {b : BayNo} (h : s.AskAt b) {i : GatherNo}
    (hi : ((s.gather i).slot b).stage = .sent) : s.sentGather b = some i := by
  cases hg : s.sentGather b with
  | none => exact absurd hi (s.sentGather_none hg i)
  | some j => rw [h.unique j i (s.sentGather_some hg) hi]

theorem State.AskAt.exists_sent {s : State} {b : BayNo} (h : s.AskAt b) (ha : (s.bay b).state = .asking) :
    ∃ i, s.sentGather b = some i ∧ ((s.gather i).slot b).stage = .sent := by
  obtain ⟨i, hi⟩ := h.asking.1 ha
  exact ⟨i, h.sentGather hi, hi⟩

theorem State.AskAt.not_sent {s : State} {b : BayNo} (h : s.AskAt b) (ha : (s.bay b).state ≠ .asking) (i : GatherNo) :
    ((s.gather i).slot b).stage ≠ .sent := fun hi => ha (h.asking.2 ⟨i, hi⟩)

/-! ### slotsMeet -/

/-- The slot as the event left it, by its stage. -/
theorem State.slotsMeet.stage {s t : State} {b : BayNo} {f : Fate} (h : s.slotsMeet t b f) (i : GatherNo) :
    ((t.gather i).slot b).stage =
      if ((s.gather i).slot b).stage = .sent ∧ f.sent.isSome ∨ ((s.gather i).slot b).stage = .queued ∧ f.queued.isSome
      then .final else ((s.gather i).slot b).stage := by
  rw [h i]
  obtain ⟨sent, queued⟩ := f
  cases hst : ((s.gather i).slot b).stage <;> cases sent <;> cases queued <;> simp [State.slotAfter, hst]

/-- First the SENT slot met its fate, then the QUEUED ones. -/
theorem State.slotsMeet.trans {s u t : State} {b : BayNo} {x y : Option Ending}
    (h : s.slotsMeet u b { sent := x, queued := none }) (hsame : s.SameTerms u)
    (h' : u.slotsMeet t b { sent := none, queued := y }) : s.slotsMeet t b { sent := x, queued := y } := by
  intro i
  have hi := h i
  have ti := h' i
  cases hst : ((s.gather i).slot b).stage <;> simp only [hst, State.slotAfter] at hi ⊢
  · rw [ti, hi, hst]
  · rw [ti, hi, hst]
    cases y with
    | none => exact hi
    | some e => exact State.slotEnded_congr hsame hi (by simp [hst]) e
  · cases x with
    | none => rw [ti, hi, hst]; exact hi
    | some e =>
      have hfinal : ((u.gather i).slot b).stage = .final := by rw [hi]; simp
      rw [ti, hfinal]; exact hi
  · rw [ti, hi, hst]

/-- The fates of a bay's slots rest on the bay's window alone, of what its record holds. -/
theorem State.slotsMeet_modBay {s t : State} {b : BayNo} {f : Bay → Bay} {x : Fate}
    (hf : (f (s.bay b)).window = (s.bay b).window) (h : (s.modBay b f).slotsMeet t b x) : s.slotsMeet t b x := by
  have same : s.SameTerms (s.modBay b f) := .of_eq rfl rfl rfl
  have hafter : ∀ i e, (s.modBay b f).slotAfter b i e = s.slotAfter b i e := by
    intro i e
    cases e with
    | none => rfl
    | some e => exact State.slotEnded_congr same rfl (fun _ => by simpa using hf) e
  intro i
  rw [h i]
  simp only [hafter, State.modBay_gather]

theorem State.slotJudged_modBay (s : State) (b : BayNo) (f : Bay → Bay)
    (hf : (f (s.bay b)).window = (s.bay b).window) (i : GatherNo) (e : Ending) (a : Option Answer) :
    (s.modBay b f).slotJudged b i e a = s.slotJudged b i e a :=
  State.slotJudged_congr (s := s) (t := s.modBay b f) (.of_eq rfl rfl rfl) rfl (fun _ => by simpa using hf) e a

/-- A queue whose slots met an event that spares the QUEUED ones. -/
theorem State.QueueAt.of_slotsMeet {s t : State} {b : BayNo} {x : Option Ending} (h : s.QueueAt b)
    (hm : s.slotsMeet t b { sent := x, queued := none }) (hq : (t.bay b).queue = (s.bay b).queue) : t.QueueAt b := by
  refine ⟨by rw [hq]; exact h.nodup, fun i => ?_⟩
  rw [hq, h.queued i, hm.stage i]
  simp only [Option.isSome_none, Bool.false_eq_true, and_false, or_false]
  split
  · rename_i hs; simp [hs.1]
  · rfl

/-! ### The loss of an ask -/

theorem State.loseAsk_of_not_asking {s : State} {b : BayNo} (h : (s.bay b).state ≠ .asking) : s.loseAsk b = s := by
  unfold State.loseAsk
  rw [if_neg h]

theorem State.loseAsk_of_asking {s : State} {b : BayNo} {i : GatherNo} (h : (s.bay b).state = .asking)
    (hi : s.sentGather b = some i) :
    s.loseAsk b = (s.modBay b (fun x => x.modLink Link.endAsk)).completeEvaluated b i .lost none := by
  unfold State.loseAsk
  rw [if_pos h, hi]

theorem slotEnded_evaluated (s : State) (b : BayNo) (i : GatherNo) {e : Ending} (he : e.evaluated) :
    s.slotEnded b i e = s.slotJudged b i e none := by
  unfold State.slotEnded
  rw [if_pos he]

theorem State.loseAsk_slotsMeet {s : State} {b : BayNo} (h : s.AskAt b) :
    s.slotsMeet (s.loseAsk b) b { sent := some .lost, queued := none } := by
  by_cases ha : (s.bay b).state = .asking
  · obtain ⟨i, hi, hsent⟩ := h.exists_sent ha
    rw [State.loseAsk_of_asking ha hi]
    intro j
    rw [State.completeEvaluated_slot]
    have hopen : ((s.gather i).slot b).endable := (Slot.endable_iff _).2 (.inr hsent)
    by_cases hj : i = j
    · subst hj
      simp only [State.modBay_gather, hopen, and_self, if_true, hsent, State.slotAfter, slotEnded_evaluated s b i (e := .lost) rfl]
      exact s.slotJudged_modBay b _ rfl i .lost none
    · have hns : ((s.gather j).slot b).stage ≠ .sent := fun hs => hj (h.unique i j hsent hs)
      simp only [hj, false_and, and_false, if_false, State.modBay_gather]
      cases hst : ((s.gather j).slot b).stage <;> simp_all [State.slotAfter]
  · rw [State.loseAsk_of_not_asking ha]
    intro i
    have := h.not_sent ha i
    cases hst : ((s.gather i).slot b).stage <;> simp_all [State.slotAfter]

theorem State.loseAsk_converter {s : State} {b : BayNo} (h : s.AskAt b) :
    (s.loseAsk b).converter = if (s.bay b).state = .asking then s.converter.untie b else s.converter := by
  split
  · rename_i ha
    obtain ⟨i, hi, hsent⟩ := h.exists_sent ha
    simp [State.loseAsk_of_asking ha hi, State.completeEvaluated_converter, hsent]
  · rename_i ha
    rw [State.loseAsk_of_not_asking ha]

theorem State.loseAsk_window {s : State} {b : BayNo} (h : s.AskAt b) :
    ((s.loseAsk b).bay b).window = if (s.bay b).state = .asking then .closed else (s.bay b).window := by
  split
  · rename_i ha
    obtain ⟨i, hi, hsent⟩ := h.exists_sent ha
    simp [State.loseAsk_of_asking ha hi, State.completeEvaluated_window, hsent]
  · rename_i ha
    rw [State.loseAsk_of_not_asking ha]

theorem State.loseAsk_recordsAre {s : State} {b : BayNo} (h : s.AskAt b) :
    s.recordsAre (s.loseAsk b) b (s.askRecord (s.loseAsk b) b) := by
  unfold State.askRecord
  split
  · rename_i ha
    obtain ⟨i, hi, hsent⟩ := h.exists_sent ha
    have hopen : ((s.gather i).slot b).endable := (Slot.endable_iff _).2 (.inr hsent)
    have hslot : ((s.loseAsk b).gather i).slot b = s.slotJudged b i .lost none := by
      rw [State.loseAsk_slotsMeet h i, hsent]
      exact slotEnded_evaluated s b i rfl
    have hrec := (s.modBay b (fun x => x.modLink Link.endAsk)).completeEvaluated_recordsAre b i .lost none hopen
    rw [s.slotJudged_modBay b _ rfl, ← State.loseAsk_of_asking ha hi] at hrec
    simp only [hi, Option.toList_some, List.map_cons, List.map_nil, State.outcomeRecord, hslot]
    exact State.recordsAre.append (s.recordsAre_modBay b _ rfl) rfl hrec
  · rename_i ha
    rw [State.loseAsk_of_not_asking ha]
    exact ⟨rfl, rfl, rfl⟩

/-- The record of the lost ask names the slot that the event left, whatever else it did. -/
theorem State.askRecord_congr {s u t : State} {b : BayNo} (h : s.AskAt b)
    (ht : ∀ i, ((s.gather i).slot b).stage = .sent → (t.gather i).slot b = (u.gather i).slot b) :
    s.askRecord t b = s.askRecord u b := by
  unfold State.askRecord
  split
  · rename_i ha
    obtain ⟨i, hi, hsent⟩ := h.exists_sent ha
    simp [hi, State.outcomeRecord, ht i hsent]
  · rfl

theorem State.askRecord_length {s : State} (t : State) {b : BayNo} (h : s.AskAt b) :
    (s.askRecord t b).length = (s.bay b).asks := by
  unfold State.askRecord Bay.asks
  split
  · rename_i ha
    obtain ⟨i, hi, _⟩ := h.exists_sent ha
    simp [hi]
  · rfl

/-- An OUTCOME record rests on the terms of the gather, the slot and the clock alone. -/
theorem State.outcomeRecord_congr {s u : State} (h : s.SameTerms u) (t : State) (b : BayNo) :
    u.outcomeRecord t b = s.outcomeRecord t b := by
  funext i
  obtain ⟨hserial, _, hcommand, _⟩ := h.terms i
  simp only [State.outcomeRecord, outcomeFields, hserial, hcommand, h.clock]

/-! ### The end of a queue -/

/-- From t to r the QUEUED slots of these gathers ended UNREACHED for the bay, in this order, each with its record. -/
structure State.Unreached (b : BayNo) (l : List GatherNo) (t r : State) : Prop where
  slots : ∀ j, (r.gather j).slot b = if j ∈ l then t.slotEnded b j .unreached else (t.gather j).slot b
  converter : r.converter = t.converter
  window : (r.bay b).window = (t.bay b).window
  records : t.recordsAre r b (l.map (t.outcomeRecord r b))

theorem State.unreached_foldl (b : BayNo) : ∀ (l : List GatherNo) (t : State), l.Nodup →
    (∀ i ∈ l, ((t.gather i).slot b).stage = .queued) →
    t.Unreached b l (l.foldl (fun t i => t.completeEvaluated b i .unreached none) t)
  | [], t, _, _ => ⟨fun j => by simp, rfl, rfl, rfl, rfl, rfl⟩
  | i :: l, t, hl, hq => by
    obtain ⟨hil, hl⟩ := List.nodup_cons.1 hl
    have hiq := hq i (by simp)
    have hopen : ((t.gather i).slot b).endable := (Slot.endable_iff _).2 (.inl hiq)
    have same := (t.completeEvaluated_ends b i (e := .unreached) none rfl payloadFits_none).same
    have hslot : ∀ j, ((t.completeEvaluated b i .unreached none).gather j).slot b =
        if j = i then t.slotEnded b i .unreached else (t.gather j).slot b := fun j => by
      rw [State.completeEvaluated_slot, slotEnded_evaluated t b i (e := .unreached) rfl]
      simp only [hopen, true_and, and_true, eq_comm]
    have hother : ∀ j ∈ l, j ≠ i := fun j hj e => hil (e ▸ hj)
    have ih := State.unreached_foldl b l (t.completeEvaluated b i .unreached none) hl fun j hj => by
      rw [hslot, if_neg (hother j hj)]; exact hq j (by simp [hj])
    rw [List.foldl_cons]
    refine ⟨fun j => ?_, ?_, ?_, ?_⟩
    · rw [ih.slots j, hslot j]
      by_cases hj : j ∈ l
      · have hjq := hq j (by simp [hj])
        simp only [hj, if_true, List.mem_cons, or_true]
        exact State.slotEnded_congr same (by rw [hslot, if_neg (hother j hj)]) (by simp [hjq]) _
      · by_cases hji : j = i
        · subst hji; simp [hj]
        · simp [hj, hji]
    · rw [ih.converter, State.completeEvaluated_converter, if_neg (by simp [hiq])]
    · rw [ih.window, State.completeEvaluated_window, if_neg (by simp [hiq])]
    · have hfirst := t.completeEvaluated_recordsAre b i .unreached none hopen
      have hlast := ih.slots i
      rw [if_neg hil, hslot i, if_pos rfl, slotEnded_evaluated t b i (e := .unreached) rfl] at hlast
      rw [List.map_cons, State.outcomeRecord, hlast]
      have hrest := ih.records
      simp only [State.outcomeRecord_congr same] at hrest
      exact State.recordsAre.append hfirst same.clock hrest

theorem State.unreachQueue_unreached {s : State} {b : BayNo} (h : s.QueueAt b) :
    (s.modBay b Bay.emptyQueue).Unreached b (s.bay b).queue (s.unreachQueue b) :=
  State.unreached_foldl b _ _ h.nodup fun i hi => (h.queued i).1 hi

theorem State.unreachQueue_slotsMeet {s : State} {b : BayNo} (h : s.QueueAt b) :
    s.slotsMeet (s.unreachQueue b) b { sent := none, queued := some .unreached } := by
  refine State.slotsMeet_modBay (f := Bay.emptyQueue) rfl fun i => ?_
  have hi := (State.unreachQueue_unreached h).slots i
  have hq := h.queued i
  rw [hi]
  cases hst : ((s.gather i).slot b).stage <;> simp_all [State.slotAfter]

theorem State.unreachQueue_converter {s : State} {b : BayNo} (h : s.QueueAt b) :
    (s.unreachQueue b).converter = s.converter := (State.unreachQueue_unreached h).converter

theorem State.unreachQueue_window {s : State} {b : BayNo} (h : s.QueueAt b) :
    ((s.unreachQueue b).bay b).window = (s.bay b).window :=
  (State.unreachQueue_unreached h).window.trans (by simp [Bay.emptyQueue])

theorem State.unreachQueue_recordsAre {s : State} {b : BayNo} (h : s.QueueAt b) :
    s.recordsAre (s.unreachQueue b) b (s.queueRecords (s.unreachQueue b) b) :=
  State.recordsAre.append (s.recordsAre_modBay b Bay.emptyQueue rfl) rfl (State.unreachQueue_unreached h).records

theorem State.queueRecords_congr {s u : State} (h : s.SameTerms u) {b : BayNo}
    (hq : (u.bay b).queue = (s.bay b).queue) (t : State) : u.queueRecords t b = s.queueRecords t b := by
  simp only [State.queueRecords, hq, State.outcomeRecord_congr h]

theorem State.queueRecords_length (s t : State) (b : BayNo) :
    (s.queueRecords t b).length = (s.bay b).queue.length := List.length_map ..

theorem State.dropped_foldl_slot (b : BayNo) {e : Ending} (he : e.evaluated = false) (j : GatherNo) :
    ∀ (l : List GatherNo) (t : State), l.Nodup → (∀ i ∈ l, ((t.gather i).slot b).stage = .queued) →
      ((l.foldl (fun t i => t.completeUnevaluated b i e) t).gather j).slot b =
        if j ∈ l then t.slotEnded b j e else (t.gather j).slot b
  | [], t, _, _ => by simp
  | i :: l, t, hl, hq => by
    obtain ⟨hil, hl⟩ := List.nodup_cons.1 hl
    have hopen : ((t.gather i).slot b).endable := (Slot.endable_iff _).2 (.inl (hq i (by simp)))
    have same := (t.completeUnevaluated_ends b i he).same
    have hslot : ∀ j, ((t.completeUnevaluated b i e).gather j).slot b =
        if j = i then t.slotEnded b i e else (t.gather j).slot b := fun j => by
      rw [State.completeUnevaluated_slot t b b i j he]
      simp only [hopen, true_and, and_true, eq_comm]
    have hother : ∀ j ∈ l, j ≠ i := fun j hj e => hil (e ▸ hj)
    rw [List.foldl_cons, State.dropped_foldl_slot b he j l _ hl fun j hj => by
      rw [hslot, if_neg (hother j hj)]; exact hq j (by simp [hj])]
    rw [hslot j]
    by_cases hj : j ∈ l
    · simp only [hj, if_true, List.mem_cons, or_true]
      exact State.slotEnded_congr same (by rw [hslot, if_neg (hother j hj)]) (by simp [hq j (by simp [hj])]) _
    · by_cases hji : j = i
      · subst hji; simp [hj]
      · simp [hj, hji]

theorem State.dropQueue_slotsMeet {s : State} {b : BayNo} {e : Ending} (he : e.evaluated = false) (h : s.QueueAt b) :
    s.slotsMeet (s.dropQueue b e) b { sent := none, queued := some e } := by
  refine State.slotsMeet_modBay (f := Bay.emptyQueue) rfl fun i => ?_
  have hi := State.dropped_foldl_slot b he i (s.bay b).queue (s.modBay b Bay.emptyQueue) h.nodup
    fun j hj => (h.queued j).1 hj
  have hq := h.queued i
  rw [State.dropQueue, hi]
  cases hst : ((s.gather i).slot b).stage <;> simp_all [State.slotAfter]

theorem State.dropQueue_recordsAre (s : State) (b : BayNo) (e : Ending) : s.recordsAre (s.dropQueue b e) b [] := by
  have hfull : ∀ t i, (State.completeUnevaluated t b i e).notices.ringFull = t.notices.ringFull := by
    intro t i
    unfold State.completeUnevaluated State.finishUnevaluated
    split
    · rw [State.completeGatherIfFinal_ringFull]; rfl
    · rfl
  refine State.recordsAre_nil (by simp) (by simp) ?_
  rw [State.dropQueue, foldl_keeps (fun t => t.notices.ringFull) _ hfull]
  rfl

/-! ### The end of an ask and of the queue after it -/

/-- What loses the ask and then ends the queue UNREACHED: slots, records, converter and window (R5, R45, R47). -/
theorem State.loseAsk_unreachQueue_slotsMeet {s : State} {b : BayNo} (ha : s.AskAt b) (hq : s.QueueAt b) :
    s.slotsMeet ((s.loseAsk b).unreachQueue b) b { sent := some .lost, queued := some .unreached } :=
  (State.loseAsk_slotsMeet ha).trans (s.loseAsk_ends b).same
    (State.unreachQueue_slotsMeet (hq.of_slotsMeet (State.loseAsk_slotsMeet ha) (by rw [State.loseAsk_bay])))

theorem State.loseAsk_dropQueue_slotsMeet {s : State} {b : BayNo} {e : Ending} (he : e.evaluated = false)
    (ha : s.AskAt b) (hq : s.QueueAt b) :
    s.slotsMeet ((s.loseAsk b).dropQueue b e) b { sent := some .lost, queued := some e } :=
  (State.loseAsk_slotsMeet ha).trans (s.loseAsk_ends b).same
    (State.dropQueue_slotsMeet he (hq.of_slotsMeet (State.loseAsk_slotsMeet ha) (by rw [State.loseAsk_bay])))

/-- A slot that has ended meets nothing more. -/
theorem State.slotsMeet.slot_of_final {s t : State} {b : BayNo} {f : Fate} (h : s.slotsMeet t b f) {i : GatherNo}
    (hi : ((s.gather i).slot b).stage = .final) : (t.gather i).slot b = (s.gather i).slot b := by
  rw [h i, hi]

theorem State.loseAsk_unreachQueue_recordsAre {s : State} {b : BayNo} (ha : s.AskAt b) (hq : s.QueueAt b) :
    s.recordsAre ((s.loseAsk b).unreachQueue b) b
      (s.askRecord ((s.loseAsk b).unreachQueue b) b ++ s.queueRecords ((s.loseAsk b).unreachQueue b) b) := by
  have lost := State.loseAsk_slotsMeet ha
  have hqueue : ((s.loseAsk b).bay b).queue = (s.bay b).queue := by rw [State.loseAsk_bay]
  have hq' := hq.of_slotsMeet lost hqueue
  have hask : s.askRecord ((s.loseAsk b).unreachQueue b) b = s.askRecord (s.loseAsk b) b :=
    State.askRecord_congr ha fun i hi =>
      (State.unreachQueue_slotsMeet hq').slot_of_final (by rw [lost.stage i]; simp [hi])
  rw [hask, ← State.queueRecords_congr (s.loseAsk_ends b).same hqueue]
  exact (State.loseAsk_recordsAre ha).append (by simp) (State.unreachQueue_recordsAre hq')

theorem State.loseAsk_dropQueue_recordsAre {s : State} {b : BayNo} {e : Ending} (he : e.evaluated = false)
    (ha : s.AskAt b) (hq : s.QueueAt b) :
    s.recordsAre ((s.loseAsk b).dropQueue b e) b (s.askRecord ((s.loseAsk b).dropQueue b e) b) := by
  have lost := State.loseAsk_slotsMeet ha
  have hq' := hq.of_slotsMeet lost (by rw [State.loseAsk_bay])
  have hask : s.askRecord ((s.loseAsk b).dropQueue b e) b = s.askRecord (s.loseAsk b) b :=
    State.askRecord_congr ha fun i hi =>
      (State.dropQueue_slotsMeet he hq').slot_of_final (by rw [lost.stage i]; simp [hi])
  rw [hask, ← List.append_nil (s.askRecord (s.loseAsk b) b)]
  exact (State.loseAsk_recordsAre ha).append (by simp) (State.dropQueue_recordsAre _ b e)

end Sys2Proof.Machine
end

section
/-! SUPPORT. The agreement of the tables, bay by bay: what a bay's record says of itself, and what it and its slots say of
each other (R2, R8, R19, R20, R41, R61, R63, R112). -/

namespace Sys2Proof.Machine

/-! ### The fields of a bay after its ask was lost and its queue ended -/

section
variable (s : State)

@[simp] theorem State.loseAsk_bay_state (b : BayNo) : ((s.loseAsk b).bay b).state = (s.bay b).state := by rw [State.loseAsk_bay]
@[simp] theorem State.loseAsk_bay_contact (b : BayNo) : ((s.loseAsk b).bay b).contact = (s.bay b).contact := by rw [State.loseAsk_bay]
@[simp] theorem State.loseAsk_bay_present (b : BayNo) : ((s.loseAsk b).bay b).present = (s.bay b).present := by rw [State.loseAsk_bay]
@[simp] theorem State.loseAsk_bay_debounce (b : BayNo) : ((s.loseAsk b).bay b).debounce = (s.bay b).debounce := by rw [State.loseAsk_bay]
@[simp] theorem State.loseAsk_bay_identity (b : BayNo) : ((s.loseAsk b).bay b).identity = (s.bay b).identity := by rw [State.loseAsk_bay]
@[simp] theorem State.loseAsk_bay_signOns (b : BayNo) : ((s.loseAsk b).bay b).signOns = (s.bay b).signOns := by rw [State.loseAsk_bay]
@[simp] theorem State.loseAsk_bay_supply (b : BayNo) : ((s.loseAsk b).bay b).supply = (s.bay b).supply := by rw [State.loseAsk_bay]
@[simp] theorem State.loseAsk_bay_cal (b : BayNo) : ((s.loseAsk b).bay b).cal = (s.bay b).cal := by rw [State.loseAsk_bay]
@[simp] theorem State.loseAsk_bay_queue (b : BayNo) : ((s.loseAsk b).bay b).queue = (s.bay b).queue := by rw [State.loseAsk_bay]
@[simp] theorem State.loseAsk_bay_link (b : BayNo) : ((s.loseAsk b).bay b).link =
    if (s.bay b).state = .asking then (s.bay b).link.endAsk else (s.bay b).link := by rw [State.loseAsk_bay]

@[simp] theorem State.unreachQueue_bay_state (b : BayNo) : ((s.unreachQueue b).bay b).state = (s.bay b).state := by
  rw [State.unreachQueue_bay, if_pos rfl]
@[simp] theorem State.unreachQueue_bay_contact (b : BayNo) : ((s.unreachQueue b).bay b).contact = (s.bay b).contact := by
  rw [State.unreachQueue_bay, if_pos rfl]
@[simp] theorem State.unreachQueue_bay_present (b : BayNo) : ((s.unreachQueue b).bay b).present = (s.bay b).present := by
  rw [State.unreachQueue_bay, if_pos rfl]
@[simp] theorem State.unreachQueue_bay_debounce (b : BayNo) : ((s.unreachQueue b).bay b).debounce = (s.bay b).debounce := by
  rw [State.unreachQueue_bay, if_pos rfl]
@[simp] theorem State.unreachQueue_bay_identity (b : BayNo) : ((s.unreachQueue b).bay b).identity = (s.bay b).identity := by
  rw [State.unreachQueue_bay, if_pos rfl]
@[simp] theorem State.unreachQueue_bay_signOns (b : BayNo) : ((s.unreachQueue b).bay b).signOns = (s.bay b).signOns := by
  rw [State.unreachQueue_bay, if_pos rfl]
@[simp] theorem State.unreachQueue_bay_supply (b : BayNo) : ((s.unreachQueue b).bay b).supply = (s.bay b).supply := by
  rw [State.unreachQueue_bay, if_pos rfl]
@[simp] theorem State.unreachQueue_bay_cal (b : BayNo) : ((s.unreachQueue b).bay b).cal = (s.bay b).cal := by
  rw [State.unreachQueue_bay, if_pos rfl]
@[simp] theorem State.unreachQueue_bay_link (b : BayNo) : ((s.unreachQueue b).bay b).link = (s.bay b).link := by
  rw [State.unreachQueue_bay, if_pos rfl]
@[simp] theorem State.unreachQueue_bay_queue (b : BayNo) : ((s.unreachQueue b).bay b).queue = [] := by
  rw [State.unreachQueue_bay, if_pos rfl]

end

/-! ### One bay on its own -/

/-- What goes with the supply of a bay (R2, R8, R20, R41), as propositions. -/
structure Bay.SupplyAgrees (x : Bay) : Prop where
  mode : x.supply.mode = .off ↔ x.state.supplyOff = true
  comparator : x.supply.comparator = comparatorFor x.supply.mode
  detector : x.supply.detector = .idle ↔ x.state.supplyOff = true
  receiver : x.link.receiver = .disabled ↔ x.state.supplyOff = true
  transmitter : x.link.transmitter = .disabled ↔ x.state.supplyOff = true
  present : x.state = .vacant ↔ x.present = false
  cycleTimer : x.supply.cycleTimer.isSome = true ↔ x.state = .cycling
  wakeTimer : x.link.wakeTimer.isSome = true ↔ x.state = .waking

/-- What goes with the exchange of a bay (R19, R28, R30), as propositions. -/
structure Bay.AskAgrees (x : Bay) : Prop where
  outstanding : x.link.outstanding.isSome = true ↔ x.state = .asking
  pending : x.link.pendingAsk.isSome → x.state = .asking
  timer : x.link.answerTimer.isSome → x.state = .asking
  apart : ¬(x.link.pendingAsk.isSome ∧ x.link.answerTimer.isSome)
  nextTag : x.state = .ready ∨ x.state = .asking ∨ x.state = .benched → x.link.nextTag ≠ 0
  tag : x.link.outstanding ≠ some 0

theorem Bay.supplyConsistent_iff (x : Bay) : x.supplyConsistent ↔ x.SupplyAgrees := by
  have flags : ∀ a b : Bool, ((a == b) = true) ↔ (a = true ↔ b = true) := by decide
  simp only [Bay.supplyConsistent, Bool.and_eq_true, and_assoc, flags]
  simp only [beq_iff_eq, Bool.not_eq_true']
  exact ⟨fun ⟨h1, h2, h3, h4, h5, h6, h7, h8⟩ => ⟨h1, h2, h3, h4, h5, h6, h7, h8⟩,
    fun ⟨h1, h2, h3, h4, h5, h6, h7, h8⟩ => ⟨h1, h2, h3, h4, h5, h6, h7, h8⟩⟩

theorem Bay.askConsistent_iff (x : Bay) : x.askConsistent ↔ x.AskAgrees := by
  have flags : ∀ a b : Bool, ((a == b) = true) ↔ (a = true ↔ b = true) := by decide
  have either : ∀ a b : Bool, ((!a || b) = true) ↔ (a = true → b = true) := by decide
  have neither : ∀ a b : Bool, ((!(a && b)) = true) ↔ ¬(a = true ∧ b = true) := by decide
  simp only [Bay.askConsistent, Bool.and_eq_true, and_assoc, flags, either, neither, Bool.or_eq_true, or_assoc]
  simp only [beq_iff_eq, bne_iff_ne]
  exact ⟨fun ⟨h1, h2, h3, h4, h5, h6⟩ => ⟨h1, h2, h3, h4, h5, h6⟩,
    fun ⟨h1, h2, h3, h4, h5, h6⟩ => ⟨h1, h2, h3, h4, h5, h6⟩⟩

theorem Bay.queueConsistent_iff (x : Bay) :
    x.queueConsistent ↔ (x.state.available = true ∨ x.queue = []) ∧ x.queue.length ≤ 8 := by
  simp [Bay.queueConsistent]

/-! ### A bay and its slots -/

/-- The slots of a bay in the gather table. -/
def State.slotsOf (s : State) (b : BayNo) (i : GatherNo) : Slot := (s.gather i).slot b

/-- A bay's record agrees with itself and with the bay's slots. -/
structure Bay.Agrees (x : Bay) (slots : GatherNo → Slot) : Prop where
  supply : x.SupplyAgrees
  ask : x.AskAgrees
  available : x.state.available = true ∨ x.queue = []
  short : x.queue.length ≤ 8
  nodup : x.queue.Nodup
  queued : ∀ i, i ∈ x.queue ↔ (slots i).stage = .queued
  asking : x.state = .asking ↔ ∃ i, (slots i).stage = .sent
  unique : ∀ i j, (slots i).stage = .sent → (slots j).stage = .sent → i = j
  sentTag : ∀ i, (slots i).stage = .sent → (slots i).tag = x.link.outstanding
  window : x.window.isOpen → x.state = .asking ∧ x.link.answerTimer.isSome

/-- A column of the part agrees: the bay with its slots, with the converter's tie and with the start-up. -/
structure State.ColumnAgrees (s : State) (b : BayNo) : Prop where
  bay : (s.bay b).Agrees (s.slotsOf b)
  tie : s.converter.tiedTo = some b → (s.bay b).window.isOpen
  startup : s.startup.isSome → (s.bay b).state = .vacant ∧ (s.bay b).debounce = none

/-- The tables agree exactly when the gathers are consistent and every column agrees. -/
theorem State.tableAgrees_iff (s : State) : s.tableAgrees ↔ s.gathersConsistent ∧ ∀ b, s.ColumnAgrees b := by
  constructor
  · rintro ⟨hstart, hbays, hgathers, hqueues, hasks, hwindows⟩
    refine ⟨hgathers, fun b => ?_⟩
    obtain ⟨hsupply, hask, hqueue⟩ := hbays b
    obtain ⟨hnodup, hqueued⟩ := hqueues b
    obtain ⟨hasking, hunique, htag⟩ := hasks b
    obtain ⟨hwindow, htie⟩ := hwindows b
    obtain ⟨havailable, hshort⟩ := (Bay.queueConsistent_iff _).1 hqueue
    exact ⟨⟨(Bay.supplyConsistent_iff _).1 hsupply, (Bay.askConsistent_iff _).1 hask, havailable, hshort, hnodup, hqueued,
      hasking, hunique, htag, hwindow⟩, htie, fun hs => hstart hs b⟩
  · rintro ⟨hgathers, h⟩
    refine ⟨fun hs b => (h b).startup hs, fun b => ?_, hgathers, fun b => ⟨(h b).bay.nodup, (h b).bay.queued⟩,
      fun b => ⟨(h b).bay.asking, (h b).bay.unique, (h b).bay.sentTag⟩, fun b => ⟨(h b).bay.window, (h b).tie⟩⟩
    exact ⟨(Bay.supplyConsistent_iff _).2 (h b).bay.supply, (Bay.askConsistent_iff _).2 (h b).bay.ask,
      (Bay.queueConsistent_iff _).2 ⟨(h b).bay.available, (h b).bay.short⟩⟩

theorem State.tableAgrees.gathers {s : State} (h : s.tableAgrees) : s.gathersConsistent := (s.tableAgrees_iff.1 h).1

theorem State.tableAgrees.column {s : State} (h : s.tableAgrees) (b : BayNo) : s.ColumnAgrees b :=
  (s.tableAgrees_iff.1 h).2 b

theorem State.tableAgrees.bay {s : State} (h : s.tableAgrees) (b : BayNo) : (s.bay b).Agrees (s.slotsOf b) :=
  (h.column b).bay

/-- The agreement is about bays, gathers, converter and start-up alone. -/
theorem State.tableAgrees_congr {s t : State} (h : s.tableAgrees) (hb : t.bays = s.bays) (hg : t.gathers = s.gathers)
    (hc : t.converter = s.converter) (hs : t.startup = s.startup) : t.tableAgrees := by
  rw [State.tableAgrees_iff] at h ⊢
  have hbay : ∀ b, t.bay b = s.bay b := fun b => by rw [State.bay_eq_get, hb]; rfl
  have hslots : ∀ b, t.slotsOf b = s.slotsOf b := fun b => by
    funext i; rw [State.slotsOf, State.gather_eq_get, hg]; rfl
  refine ⟨State.gathersConsistent_congr h.1 hg, fun b => ⟨?_, ?_, ?_⟩⟩
  · rw [hbay, hslots]; exact (h.2 b).bay
  · rw [hbay, hc]; exact (h.2 b).tie
  · rw [hbay, hs]; exact (h.2 b).startup

/-- A command at one bay keeps the agreement when that bay's own column and the gathers agree after it. -/
theorem State.tableAgrees_of_onlyAt {b : BayNo} {s t : State} (h : s.tableAgrees) (ho : s.OnlyAt b t)
    (hg : t.gathersConsistent) (hb : (t.bay b).Agrees (t.slotsOf b))
    (ht : t.converter.tiedTo = some b → (t.bay b).window.isOpen)
    (hseat : s.startup = none ∨
      (t.bay b).present = (s.bay b).present ∧ (t.bay b).debounce = (s.bay b).debounce) : t.tableAgrees := by
  refine t.tableAgrees_iff.2 ⟨hg, fun d => ?_⟩
  by_cases hd : d = b
  · subst hd
    refine ⟨hb, ht, fun hs => ?_⟩
    rw [ho.startup] at hs
    obtain ⟨hvacant, hdebounce⟩ := (h.column d).startup hs
    rcases hseat with hnone | ⟨hpresent, hdeb⟩
    · rw [hnone] at hs; simp at hs
    · refine ⟨hb.supply.present.2 ?_, hdeb.trans hdebounce⟩
      rw [hpresent]
      exact (h.bay d).supply.present.1 hvacant
  · have col := h.column d
    have hslots : t.slotsOf d = s.slotsOf d := funext fun i => ho.slots d hd i
    refine ⟨by rw [ho.bays d hd, hslots]; exact col.bay, fun htie => ?_, fun hs => ?_⟩
    · rw [ho.bays d hd]
      exact (ho.ties d hd htie).elim col.tie id
    · rw [ho.bays d hd]
      exact col.startup (by rwa [ho.startup] at hs)

/-! ### Changes that leave a bay's agreement alone -/

/-- The exchange and the timers of a link are as they were, but for an ask that is no longer pending. -/
structure Link.SameExchange (after before : Link) : Prop where
  receiver : after.receiver = .disabled ↔ before.receiver = .disabled
  transmitter : after.transmitter = .disabled ↔ before.transmitter = .disabled
  wakeTimer : after.wakeTimer.isSome = before.wakeTimer.isSome
  outstanding : after.outstanding = before.outstanding
  answerTimer : after.answerTimer.isSome = before.answerTimer.isSome
  pending : after.pendingAsk.isSome → before.pendingAsk.isSome
  nextTag : after.nextTag = before.nextTag

theorem Link.SameExchange.refl (l : Link) : l.SameExchange l := ⟨.rfl, .rfl, rfl, rfl, rfl, id, rfl⟩

/-- A bay agrees with its slots whatever its contact, identity, counts, calibration pair and ring are. -/
theorem Bay.Agrees.congr {x y : Bay} {slots : GatherNo → Slot} (h : x.Agrees slots) (hstate : y.state = x.state)
    (hpresent : y.present = x.present) (hsupply : y.supply.mode = x.supply.mode ∧
      y.supply.comparator = x.supply.comparator ∧ (y.supply.detector = .idle ↔ x.supply.detector = .idle) ∧
      y.supply.cycleTimer.isSome = x.supply.cycleTimer.isSome)
    (hlink : y.link.SameExchange x.link) (hqueue : y.queue = x.queue)
    (hwindow : y.window.isOpen → x.window.isOpen) : y.Agrees slots := by
  obtain ⟨hmode, hcomparator, hdetector, hcycle⟩ := hsupply
  refine ⟨⟨?_, ?_, ?_, ?_, ?_, ?_, ?_, ?_⟩, ⟨?_, ?_, ?_, ?_, ?_, ?_⟩, ?_, ?_, ?_, ?_, ?_, h.unique, ?_, ?_⟩
  · rw [hmode, hstate]; exact h.supply.mode
  · rw [hcomparator, hmode]; exact h.supply.comparator
  · rw [hdetector, hstate]; exact h.supply.detector
  · rw [hlink.receiver, hstate]; exact h.supply.receiver
  · rw [hlink.transmitter, hstate]; exact h.supply.transmitter
  · rw [hstate, hpresent]; exact h.supply.present
  · rw [hcycle, hstate]; exact h.supply.cycleTimer
  · rw [hlink.wakeTimer, hstate]; exact h.supply.wakeTimer
  · rw [hlink.outstanding, hstate]; exact h.ask.outstanding
  · rw [hstate]; exact h.ask.pending ∘ hlink.pending
  · rw [hlink.answerTimer, hstate]; exact h.ask.timer
  · rw [hlink.answerTimer]; exact fun hp => h.ask.apart ⟨hlink.pending hp.1, hp.2⟩
  · rw [hstate, hlink.nextTag]; exact h.ask.nextTag
  · rw [hlink.outstanding]; exact h.ask.tag
  · rw [hstate, hqueue]; exact h.available
  · rw [hqueue]; exact h.short
  · rw [hqueue]; exact h.nodup
  · rw [hqueue]; exact h.queued
  · rw [hstate]; exact h.asking
  · rw [hlink.outstanding]; exact h.sentTag
  · rw [hstate, hlink.answerTimer]; exact h.window ∘ hwindow

theorem Bay.Agrees.modLink {x : Bay} {slots : GatherNo → Slot} (h : x.Agrees slots) (f : Link → Link)
    (hf : (f x.link).SameExchange x.link) : (x.modLink f).Agrees slots :=
  h.congr rfl rfl ⟨rfl, rfl, .rfl, rfl⟩ hf rfl id

/-- A change of one bay's record that keeps its agreement and its seat keeps that of the tables. -/
theorem State.tableAgrees.modBay {s : State} (h : s.tableAgrees) (b : BayNo) (f : Bay → Bay)
    (hf : (f (s.bay b)).Agrees (s.slotsOf b))
    (hring : (f (s.bay b)).ring.base = (s.bay b).ring.base ∧ (f (s.bay b)).ring.length = (s.bay b).ring.length)
    (hwindow : (f (s.bay b)).window = (s.bay b).window)
    (hseat : s.startup = none ∨
      (f (s.bay b)).present = (s.bay b).present ∧ (f (s.bay b)).debounce = (s.bay b).debounce) :
    (s.modBay b f).tableAgrees := by
  refine State.tableAgrees_of_onlyAt h (.modBay s b f hring) (State.gathersConsistent_congr h.gathers rfl) ?_ ?_ ?_
  · rw [State.bay_modBay, if_pos rfl]; exact hf
  · simpa [hwindow] using (h.column b).tie
  · simpa using hseat

/-- The link of a bay changes and its exchange does not. -/
theorem State.tableAgrees.modLink {s : State} (h : s.tableAgrees) (b : BayNo) (f : Link → Link)
    (hf : (f (s.bay b).link).SameExchange (s.bay b).link) : (s.modBay b (fun x => x.modLink f)).tableAgrees :=
  h.modBay b _ ((h.bay b).modLink f hf) ⟨rfl, rfl⟩ rfl (.inr ⟨rfl, rfl⟩)

theorem State.tableAgrees.answer {s : State} (h : s.tableAgrees) (c : Instr) (status : Status) (body : List Byte) :
    (s.answer c status body).tableAgrees :=
  State.tableAgrees_congr h (by simp) (by simp) (by simp) (by simp)

theorem State.tableAgrees.raise {s : State} (h : s.tableAgrees) (p : Place) : (s.raise p).tableAgrees :=
  State.tableAgrees_congr h (by simp) (by simp) (by simp) (by simp)

theorem State.tableAgrees.beginFrame {s : State} (h : s.tableAgrees) (b : BayNo) : (s.beginFrame b).tableAgrees := by
  unfold State.beginFrame
  dsimp only
  split
  · rename_i hidle
    split
    · exact h.modLink b _ ⟨.rfl, by simp [hidle.2], rfl, rfl, rfl, id, rfl⟩
    · split
      · exact h
      · exact h.modLink b _ ⟨.rfl, by simp [hidle.2], rfl, rfl, rfl, by simp, rfl⟩
  · exact h

/-! ### A bay whose exchange is over -/

/-- A bay that is not ASKING, with its link quiet, its window closed and no slot SENT for it, agrees with its slots when
its supply does and its queue holds its QUEUED slots. -/
theorem Bay.agrees_of_quiet {x : Bay} {slots : GatherNo → Slot} (hsupply : x.SupplyAgrees) (hstate : x.state ≠ .asking)
    (hquiet : x.link.quiet) (hwindow : x.window = .closed)
    (htag : x.state = .ready ∨ x.state = .benched → x.link.nextTag ≠ 0)
    (havailable : x.state.available = true ∨ x.queue = []) (hshort : x.queue.length ≤ 8) (hnodup : x.queue.Nodup)
    (hqueued : ∀ i, i ∈ x.queue ↔ (slots i).stage = .queued) (hsent : ∀ i, (slots i).stage ≠ .sent) :
    x.Agrees slots := by
  obtain ⟨hpending, hout, htimer⟩ := hquiet
  refine ⟨hsupply, ⟨?_, ?_, ?_, ?_, ?_, ?_⟩, havailable, hshort, hnodup, hqueued, ?_, ?_, ?_, ?_⟩
  · simp [hout, hstate]
  · simp [hpending]
  · simp [htimer]
  · simp [hpending]
  · rintro (hr | ha | hb)
    exacts [htag (.inl hr), absurd ha hstate, htag (.inr hb)]
  · simp [hout]
  · simp [hstate, hsent]
  · exact fun i _ hi => absurd hi (hsent i)
  · exact fun i hi => absurd hi (hsent i)
  · simp [hwindow, Window.isOpen]

/-- A supply that is off agrees with a state in which it is off. -/
theorem Bay.supplyAgrees_of_off {x : Bay} (hoff : x.supply.switchedOff) (hstate : x.state.supplyOff = true)
    (hreceiver : x.link.receiver = .disabled) (htransmitter : x.link.transmitter = .disabled)
    (hwake : x.link.wakeTimer = none) (hpresent : x.state = .vacant ↔ x.present = false)
    (hcycle : x.supply.cycleTimer.isSome = true ↔ x.state = .cycling) : x.SupplyAgrees := by
  obtain ⟨hmode, hcomparator, hdetector⟩ := hoff
  refine ⟨by simp [hmode, hstate], by simp [hmode, hcomparator, comparatorFor], by simp [hdetector, hstate],
    by simp [hreceiver, hstate], by simp [htransmitter, hstate], hpresent, hcycle, ?_⟩
  have : x.state ≠ .waking := fun h => by simp [h, BayState.supplyOff] at hstate
  simp [hwake, this]

theorem Bay.Agrees.quiet {x : Bay} {slots : GatherNo → Slot} (h : x.Agrees slots) (hs : x.state ≠ .asking) :
    x.link.quiet := by
  have absent : ∀ {α : Type} (o : Option α), (o.isSome → x.state = .asking) → o = none := fun o ho =>
    Option.not_isSome_iff_eq_none.1 fun hsome => hs (ho hsome)
  exact ⟨absent _ h.ask.pending, absent _ h.ask.outstanding.1, absent _ h.ask.timer⟩

theorem Window.closed_of_not_open {w : Window} (h : ¬w.isOpen) : w = .closed := by
  cases w with
  | closed => rfl
  | opened a => simp [Window.isOpen] at h

theorem Bay.Agrees.window_closed {x : Bay} {slots : GatherNo → Slot} (h : x.Agrees slots) (hs : x.state ≠ .asking) :
    x.window = .closed := Window.closed_of_not_open fun ho => hs (h.window ho).1

theorem Bay.Agrees.cycleTimer_none {x : Bay} {slots : GatherNo → Slot} (h : x.Agrees slots) (hs : x.state ≠ .cycling) :
    x.supply.cycleTimer = none := Option.not_isSome_iff_eq_none.1 fun hsome => hs (h.supply.cycleTimer.1 hsome)

theorem Bay.Agrees.wakeTimer_none {x : Bay} {slots : GatherNo → Slot} (h : x.Agrees slots) (hs : x.state ≠ .waking) :
    x.link.wakeTimer = none := Option.not_isSome_iff_eq_none.1 fun hsome => hs (h.supply.wakeTimer.1 hsome)

/-! ### The exchange of a bay before an event that ends it -/

/-- A bay's slots, queue and window go with its state, whatever its link and supply hold by now. -/
structure State.ExchangeAt (s : State) (b : BayNo) : Prop where
  ask : s.AskAt b
  queue : s.QueueAt b
  window : (s.bay b).window.isOpen → (s.bay b).state = .asking
  tie : s.converter.tiedTo = some b → (s.bay b).window.isOpen

theorem State.tableAgrees.exchangeAt {s : State} (h : s.tableAgrees) (b : BayNo) : s.ExchangeAt b :=
  ⟨⟨(h.bay b).asking, (h.bay b).unique⟩, ⟨(h.bay b).nodup, (h.bay b).queued⟩, fun ho => ((h.bay b).window ho).1,
    (h.column b).tie⟩

theorem State.ExchangeAt.modBay {s : State} {b : BayNo} (h : s.ExchangeAt b) (f : Bay → Bay)
    (hstate : (f (s.bay b)).state = (s.bay b).state) (hqueue : (f (s.bay b)).queue = (s.bay b).queue)
    (hwindow : (f (s.bay b)).window = (s.bay b).window) : (s.modBay b f).ExchangeAt b :=
  ⟨h.ask.modBay f hstate, h.queue.modBay f hqueue, by simpa [hstate, hwindow] using h.window,
    by simpa [hwindow] using h.tie⟩

theorem Converter.untie_tiedTo (c : Converter) (b : BayNo) : (c.untie b).tiedTo ≠ some b := by
  cases c with
  | idle => simp [Converter.untie, Converter.tiedTo]
  | converting g ends tied =>
    simp only [Converter.untie, Converter.tiedTo]
    split <;> simp_all

/-- Once the ask is lost the window is closed, and the conversion in progress is not tied to the bay (R114, R117). -/
theorem State.ExchangeAt.loseAsk {s : State} {b : BayNo} (h : s.ExchangeAt b) :
    ((s.loseAsk b).bay b).window = .closed ∧ (s.loseAsk b).converter.tieEnded s.converter b ∧
      (s.loseAsk b).converter.tiedTo ≠ some b := by
  have hend : (s.loseAsk b).converter = s.converter.untie b := by
    rw [State.loseAsk_converter h.ask]
    split
    · rfl
    · rename_i ha
      exact (Converter.untie_of_notTied _ b fun ht => ha (h.window (h.tie ht))).symm
  refine ⟨?_, by rw [hend]; exact Converter.untie_tieEnded _ b, by rw [hend]; exact Converter.untie_tiedTo _ b⟩
  rw [State.loseAsk_window h.ask]
  split
  · rfl
  · rename_i ha
    exact Window.closed_of_not_open fun ho => ha (h.window ho)

end Sys2Proof.Machine
end

section
/-! SUPPORT. Every command at one bay acts at that bay alone: the other columns and the consistency of the gathers are kept
(R1, R19, R41, R64, R132, R161). -/

namespace Sys2Proof.Machine

/-- Something was done at bay b: no other column was touched, and the gathers are consistent if they were. -/
structure State.ActsAt (b : BayNo) (s t : State) : Prop where
  only : s.OnlyAt b t
  gathers : s.gathersConsistent → t.gathersConsistent

namespace State.ActsAt

variable {b : BayNo} {s t u : State}

theorem refl (b : BayNo) (s : State) : ActsAt b s s := ⟨.refl b s, id⟩

theorem trans (h : ActsAt b s t) (h' : ActsAt b t u) : ActsAt b s u := ⟨h.only.trans h'.only, h'.gathers ∘ h.gathers⟩

/-- An act that leaves the gather table as it is. -/
theorem of_only (h : ActsAt b s t) (ho : s.OnlyAt b u) (hg : u.gathers = t.gathers) : ActsAt b s u :=
  ⟨ho, fun hs => State.gathersConsistent_congr (h.gathers hs) hg⟩

theorem modBay {f : Bay → Bay} (h : ActsAt b s t)
    (hf : ∀ x, (f x).ring.base = x.ring.base ∧ (f x).ring.length = x.ring.length) :
    ActsAt b s (t.modBay b f) := h.of_only (h.only.trans (.modBay t b f (hf _))) rfl

theorem modLink {f : Link → Link} (h : ActsAt b s t) : ActsAt b s (t.modBay b (fun x => x.modLink f)) :=
  h.modBay fun _ => ⟨rfl, rfl⟩

theorem answer {c : Instr} {status : Status} {body : List Byte} (h : ActsAt b s t) :
    ActsAt b s (t.answer c status body) := h.of_only (h.only.answer c status body) (by simp)

theorem raise {p : Place} (h : ActsAt b s t) (hp : ∀ d, d ≠ b → p.bay ≠ some d) : ActsAt b s (t.raise p) :=
  h.of_only (h.only.raise hp) (by simp)

theorem clearNotice {p : Place} (h : ActsAt b s t) (hp : ∀ d, d ≠ b → p.bay ≠ some d) : ActsAt b s (t.clearNotice p) :=
  h.of_only (h.only.clearNotice hp) rfl

theorem writeRecord {kind : RecordKind} {own : List Byte} (h : ActsAt b s t) (hown : own.length ≤ 85) :
    ActsAt b s (t.writeRecord b kind own) := h.of_only (h.only.writeRecord kind own hown) (by simp)

theorem beginFrame (h : ActsAt b s t) : ActsAt b s (t.beginFrame b) := h.of_only h.only.beginFrame (by simp)

theorem startWake (h : ActsAt b s t) : ActsAt b s (t.startWake b) := h.of_only h.only.startWake rfl

theorem loseAsk (h : ActsAt b s t) : ActsAt b s (t.loseAsk b) :=
  h.trans ⟨(t.loseAsk_ends b).only, (t.loseAsk_ends b).gathers⟩

theorem unreachQueue (h : ActsAt b s t) : ActsAt b s (t.unreachQueue b) :=
  h.trans ⟨(t.unreachQueue_ends b).only, (t.unreachQueue_ends b).gathers⟩

theorem dropQueue {e : Ending} (h : ActsAt b s t) (he : e.evaluated = false) : ActsAt b s (t.dropQueue b e) :=
  h.trans ⟨(t.dropQueue_ends b he).only, (t.dropQueue_ends b he).gathers⟩

theorem emptyTunnels (h : ActsAt b s t) : ActsAt b s (t.emptyTunnels b) :=
  have emptied := h.modLink (f := fun l => { l with tunnelOut := none, tunnelIn := none })
  emptied.of_only emptied.only.tunnelInFalls rfl

/-- A place of the bay itself is no other bay's. -/
theorem raiseOwn {p : Place} (h : ActsAt b s t) (hp : p.bay = some b) : ActsAt b s (t.raise p) :=
  h.raise fun d hd => by rw [hp]; simpa using Ne.symm hd

theorem clearOwn {p : Place} (h : ActsAt b s t) (hp : p.bay = some b) : ActsAt b s (t.clearNotice p) :=
  h.clearNotice fun d hd => by rw [hp]; simpa using Ne.symm hd

theorem clearBayNotices (h : ActsAt b s t) : ActsAt b s (t.clearBayNotices b) :=
  .clearOwn (.clearOwn (.clearOwn (.clearOwn h rfl) rfl) rfl) rfl

end State.ActsAt

/-- The end of a supply cycle does not reach the ring (R53). -/
theorem Bay.abandonCycle_ring (x : Bay) : x.abandonCycle.ring = x.ring := by
  unfold Bay.abandonCycle
  split <;> rfl

section
variable (s : State) (b : BayNo)

/-! ### Bays (chapter 1) -/

theorem eventPresenceContactChange_acts (closed : Bool) : s.ActsAt b (eventPresenceContactChange b closed s) := by
  unfold eventPresenceContactChange
  split
  · exact .refl b s
  · exact .modBay (.refl b s) fun _ => ⟨rfl, rfl⟩

theorem State.arrive_acts : s.ActsAt b (s.arrive b) :=
  .raiseOwn (.modBay (.refl b s) fun _ => ⟨rfl, rfl⟩) rfl

theorem State.remove_acts : s.ActsAt b (s.remove b) :=
  .raiseOwn (.modBay (.emptyTunnels (.unreachQueue (.loseAsk (.modBay (.refl b s) fun x => by
    simp [Bay.stopTimers, Bay.switchOff, Bay.abandonCycle_ring])))) fun _ => ⟨rfl, rfl⟩) rfl

theorem eventDebounceExpiry_acts : s.ActsAt b (eventDebounceExpiry b s) := by
  have stopped : s.ActsAt b (s.modBay b (fun x => { x with debounce := none })) := .modBay (.refl b s) fun _ => ⟨rfl, rfl⟩
  unfold eventDebounceExpiry
  dsimp only
  split
  · split
    · exact stopped
    · split
      · exact stopped.trans (State.arrive_acts _ b)
      · exact stopped.trans (State.remove_acts _ b)
  · exact .refl b s

theorem State.signOn_acts (a : SignOn) (h : a.serial.length ≤ 24) : s.ActsAt b (s.signOn b a) :=
  .beginFrame (.raiseOwn (.writeRecord (.modBay (.loseAsk (.refl b s)) fun _ => ⟨rfl, rfl⟩) (signOnFields_length _ _ h)) rfl)

theorem eventSignOnAccepted_acts (frame : BayFrame) : s.ActsAt b (eventSignOnAccepted b frame s) := by
  unfold eventSignOnAccepted
  split
  · split
    · exact .refl b s
    · rename_i a ha
      exact .trans (.modLink (.refl b s)) (State.signOn_acts _ b a (readSignOn_serial ha))
  · exact .refl b s

theorem State.goDark_acts : s.ActsAt b (s.goDark b) :=
  .raiseOwn (.unreachQueue (.modBay (.refl b s) fun _ => ⟨rfl, rfl⟩)) rfl

theorem eventWakeTimerExpiry_acts : s.ActsAt b (eventWakeTimerExpiry b s) := by
  have stopped : s.ActsAt b (s.modBay b Bay.stopWake) := .modBay (.refl b s) fun _ => ⟨rfl, rfl⟩
  unfold eventWakeTimerExpiry
  dsimp only
  split
  · split
    · exact stopped.trans (State.goDark_acts _ b)
    · exact stopped
  · exact .refl b s

theorem State.resetBay_acts : s.ActsAt b (s.resetBay b) := by
  unfold State.resetBay
  exact .modBay (.clearBayNotices (.modBay (.emptyTunnels (.dropQueue (.loseAsk (.modBay (.refl b s)
    fun _ => ⟨rfl, rfl⟩)) rfl)) fun _ => ⟨rfl, rfl⟩)) fun _ => ⟨rfl, rfl⟩

variable {bay : Byte} {b : BayNo}

theorem requestReleaseBay_acts (hb : bayOf bay = some b) : s.ActsAt b (requestReleaseBay bay s) := by
  unfold requestReleaseBay
  rw [hb]
  have refused : ∀ body, s.ActsAt b (s.answer (.releaseBay bay) .wrongState body) := fun body =>
    .answer (.refl b s)
  dsimp only
  split
  · exact .answer (.beginFrame (.modBay (.refl b s) fun _ => ⟨rfl, rfl⟩))
  · exact .answer (.startWake (.refl b s))
  · exact .answer (.modBay (.refl b s) fun _ => ⟨rfl, rfl⟩)
  all_goals exact refused _

theorem requestResetBay_acts (hb : bayOf bay = some b) : s.ActsAt b (requestResetBay bay s) := by
  unfold requestResetBay
  rw [hb]
  exact (s.resetBay_acts b).answer

theorem requestBayStatus_acts (hb : bayOf bay = some b) : s.ActsAt b (requestBayStatus bay s) := by
  unfold requestBayStatus
  rw [hb]
  exact .answer (.refl b s)

end

/-! ### Bay supply (chapter 3) -/

section
variable (s : State) (b : BayNo)

theorem State.supplyOff_acts : s.ActsAt b (s.supplyOff b) := by
  unfold State.supplyOff
  exact .modBay (.unreachQueue (.loseAsk (.modBay (.refl b s) fun _ => ⟨rfl, rfl⟩))) fun _ => ⟨rfl, rfl⟩

theorem State.cycleOff_acts : s.ActsAt b (s.cycleOff b) :=
  .unreachQueue (.modBay (.modBay (.refl b s) fun x => by simp [Bay.abandonCycle_ring]) fun _ => ⟨rfl, rfl⟩)

theorem State.setSupply_acts {mode : SupplyMode} {t : State} (h : s.setSupply b mode = some t) : s.ActsAt b t := by
  unfold State.setSupply at h
  split at h <;> simp only [Option.some.injEq, reduceCtorEq] at h <;> subst h
  · exact .refl b _
  · exact .startWake (.modBay (.refl b s) fun _ => ⟨rfl, rfl⟩)
  · exact s.cycleOff_acts b
  · exact .modBay (.refl b s) fun _ => ⟨rfl, rfl⟩
  · exact s.supplyOff_acts b
  · exact .modBay (.refl b s) fun _ => ⟨rfl, rfl⟩

theorem State.takeTrip_acts (mode : OnMode) : s.ActsAt b (s.takeTrip b mode) :=
  .raiseOwn (.modBay (.unreachQueue (.loseAsk (.modBay (.writeRecord (.modBay (.modBay (.refl b s)
    fun _ => ⟨rfl, rfl⟩) fun _ => ⟨rfl, rfl⟩) (supplyFields_length .trip mode)) fun _ => ⟨rfl, rfl⟩)))
    fun _ => ⟨rfl, rfl⟩) rfl

theorem eventTrip_acts (milliamps : Nat) : s.ActsAt b (eventTrip b milliamps s) := by
  unfold eventTrip
  split
  · exact .refl b s
  · split
    · exact s.takeTrip_acts b _
    · exact .refl b s

theorem State.takeSag_acts (mode : OnMode) : s.ActsAt b (s.takeSag b mode) :=
  .startWake (.loseAsk (.modLink (.writeRecord (.modBay (.refl b s) fun _ => ⟨rfl, rfl⟩) (supplyFields_length .sag mode))))

theorem eventSag_acts : s.ActsAt b (eventSag b s) := by
  unfold eventSag
  split
  · exact .refl b s
  · split
    · exact s.takeSag_acts b _
    · exact .refl b s

theorem eventRailRiseClear_acts : s.ActsAt b (eventRailRiseClear b s) := by
  unfold eventRailRiseClear
  split
  · exact .modBay (.refl b s) fun _ => ⟨rfl, rfl⟩
  · exact .refl b s

theorem State.cycle_acts (off : Nat) (saved mode : OnMode) : s.ActsAt b (s.cycle b off saved mode) := by
  unfold State.cycle
  exact .modBay (.loseAsk (.modBay (.writeRecord (.modBay (.refl b s) fun _ => ⟨rfl, rfl⟩) (supplyFields_length .cycleOff mode)) fun _ => ⟨rfl, rfl⟩)) fun _ => ⟨rfl, rfl⟩

theorem State.restoreSupply_acts : s.ActsAt b (s.restoreSupply b) :=
  .startWake (.writeRecord (.modBay (.refl b s) fun _ => ⟨rfl, rfl⟩) (supplyFields_length .cycleOn _))

theorem eventCycleTimerExpiry_acts : s.ActsAt b (eventCycleTimerExpiry b s) := by
  have stopped : s.ActsAt b (s.modBay b (fun x => x.modSupply (fun p => { p with cycleTimer := none }))) :=
    .modBay (.refl b s) fun _ => ⟨rfl, rfl⟩
  unfold eventCycleTimerExpiry
  dsimp only
  split
  · split
    · exact stopped.trans (State.restoreSupply_acts _ b)
    · exact stopped
  · exact .refl b s

variable {bay : Byte} {b : BayNo}

theorem requestSetSupply_acts (mode : Byte) (hb : bayOf bay = some b) : s.ActsAt b (requestSetSupply bay mode s) := by
  unfold requestSetSupply
  rw [hb]
  split
  · rename_i hb' _
    obtain rfl := Option.some.inj hb'
    split
    · exact .answer (.refl b s)
    · rename_i ht
      exact (s.setSupply_acts b ht).answer
  · exact .answer (.refl b s)

theorem requestCycleBay_acts (offMs : BitVec 16) (restore : Option Byte) (hb : bayOf bay = some b) :
    s.ActsAt b (requestCycleBay bay offMs restore s) := by
  unfold requestCycleBay
  rw [hb]
  split
  · rename_i hb' _
    obtain rfl := Option.some.inj hb'
    split
    · exact .answer (.refl b s)
    · exact (s.cycle_acts b _ _ _).answer
    · exact (s.cycle_acts b _ _ _).answer
    · exact (s.cycle_acts b _ _ _).answer
    · exact (s.cycle_acts b _ _ _).answer
    · exact .answer (.refl b s)
  · exact .answer (.refl b s)

end

/-! ### The bay link (chapter 2) -/

section
variable (s : State) (b : BayNo)

theorem eventBaySyncReceived_acts (byte : Byte) : s.ActsAt b (eventBaySyncReceived b byte s) :=
  (State.ActsAt.refl b s).modLink

theorem State.huntAgain_acts : s.ActsAt b (s.huntAgain b) := (State.ActsAt.refl b s).modLink

theorem State.followAsk_acts (i : GatherNo) : s.ActsAt b (s.followAsk b i) := by
  unfold State.followAsk
  dsimp only
  split
  · exact .dropQueue (.modBay (.refl b s) fun _ => ⟨rfl, rfl⟩) rfl
  · split
    · exact (State.ActsAt.refl b s).startWake
    · exact .modBay (.refl b s) fun _ => ⟨rfl, rfl⟩

theorem State.endAsk_acts {e : Ending} (he : e.evaluated) {a : Option Answer} (ha : payloadFits a) :
    s.ActsAt b (s.endAsk b e a) := by
  have quiet := (State.ActsAt.refl b s).modLink (f := Link.endAsk)
  unfold State.endAsk
  dsimp only
  split
  · exact .modBay quiet fun _ => ⟨rfl, rfl⟩
  · rename_i i _
    have ends := State.completeEvaluated_ends (s.modBay b (fun x => x.modLink Link.endAsk)) b i a he ha
    exact (quiet.trans ⟨ends.only, ends.gathers⟩).trans (State.followAsk_acts _ b i)

theorem State.countStale_acts : s.ActsAt b (s.countStale b) := (State.ActsAt.refl b s).modLink

theorem eventAnswerAccepted_acts (frame : BayFrame) : s.ActsAt b (eventAnswerAccepted b frame s) := by
  unfold eventAnswerAccepted
  split
  · split
    · exact .refl b s
    · rename_i a ha
      split
      · exact (s.huntAgain_acts b).trans (State.endAsk_acts _ b rfl (payloadFits_readAnswer ha))
      · exact (s.huntAgain_acts b).trans (State.countStale_acts _ b)
  · exact .refl b s

theorem State.tunnelArrives_acts (block : List Byte) : s.ActsAt b (s.tunnelArrives b block) := by
  unfold State.tunnelArrives
  split
  · have stored := (State.ActsAt.refl b s).modLink (f := fun l => { l with tunnelIn := some block })
    exact stored.of_only stored.only.tunnelInRises rfl
  · exact (State.ActsAt.refl b s).modLink

theorem eventTunnelInAccepted_acts (frame : BayFrame) : s.ActsAt b (eventTunnelInAccepted b frame s) := by
  unfold eventTunnelInAccepted
  split
  · exact (s.huntAgain_acts b).trans (State.tunnelArrives_acts _ b _)
  · exact .refl b s

/-- A change of the link, or none. -/
theorem State.modLink_or_acts (p : Prop) [Decidable p] (f : Link → Link) :
    s.ActsAt b (if p then s.modBay b (fun x => x.modLink f) else s) := by
  split
  · exact .modLink (.refl b s)
  · exact .refl b s

theorem eventBayFrameRejected_acts (frame : BayFrame) : s.ActsAt b (eventBayFrameRejected b frame s) :=
  s.modLink_or_acts b _ _

theorem eventBayFrameLengthDiscard_acts (kind tag length : Byte) :
    s.ActsAt b (eventBayFrameLengthDiscard b kind tag length s) := s.modLink_or_acts b _ _

theorem eventBayFrameGapExpiry_acts : s.ActsAt b (eventBayFrameGapExpiry b s) := s.modLink_or_acts b _ _

theorem eventBayCharacterFault_acts : s.ActsAt b (eventBayCharacterFault b s) := (State.ActsAt.refl b s).modLink

theorem eventSyncGapExpiry_acts : s.ActsAt b (eventSyncGapExpiry b s) := s.modLink_or_acts b _ _

/-- A slot QUEUED at its bay becomes SENT: the counts of the summary follow (R70, R85). -/
theorem Gather.sendSlot_consistent {g : Gather} {b : BayNo} (tag : Byte) (h : g.consistent ∧ g.summaryConsistent)
    (hq : (g.slot b).stage = .queued) : (g.sendSlot b tag).consistent ∧ (g.sendSlot b tag).summaryConsistent := by
  obtain ⟨hcons, hsum⟩ := h
  obtain ⟨hopen, hslots, hfree⟩ := g.consistent_iff.1 hcons
  have hslot : ∀ c, (g.sendSlot b tag).slot c =
      if b = c then { g.slot b with stage := .sent, tag := some tag } else g.slot c := fun c => g.slot_setSlot b c _
  have here : (g.sendSlot b tag).slot b = { g.slot b with stage := .sent, tag := some tag } := by rw [hslot, if_pos rfl]
  have others : ∀ c, c ≠ b → (g.sendSlot b tag).slot c = g.slot c := fun c hc => by rw [hslot, if_neg (Ne.symm hc)]
  have hstate : g.state = .opened := Gather.opened_of_endable hcons ((Slot.endable_iff _).2 (.inl hq))
  have kept : ∀ c, ((g.sendSlot b tag).slot c).verdict = (g.slot c).verdict ∧
      ((g.sendSlot b tag).slot c).ending = (g.slot c).ending := fun c => by
    rw [hslot]
    split
    · rename_i hc; subst hc; exact ⟨rfl, rfl⟩
    · exact ⟨rfl, rfl⟩
  have sum := g.summaryConsistent_iff.1 hsum
  refine ⟨(Gather.consistent_iff _).2 ⟨iff_of_true hstate ?_, fun c => ?_, ?_⟩,
    (Gather.summaryConsistent_iff _).2 ⟨?_, ?_, ?_, ?_, ?_, ?_, ?_⟩⟩
  · exact (Gather.hasOpenSlot_iff _).2 ⟨b, by rw [here]; rfl⟩
  · by_cases hc : c = b
    · subst hc
      obtain ⟨hout, hok⟩ := hslots c
      have hin : inSet g.bays c = true := by rw [← Bool.not_eq_false, ← hout, hq]; decide
      rw [here]
      refine ⟨iff_of_false (by simp) (by show ¬inSet g.bays c = false; simp [hin]), ?_⟩
      simpa only [Slot.consistent, hq, show (Stage.queued == Stage.final) = (Stage.sent == Stage.final) from rfl] using hok
    · rw [others c hc]; exact hslots c
  · exact fun hf => absurd (hstate.symm.trans hf) (by decide)
  · have := countBays_update (p := fun c => (g.slot c).stage == .queued)
      (q := fun c => ((g.sendSlot b tag).slot c).stage == .queued) (b := b) (fun c hc => by simp only [others c hc])
    simp only [here, hq, beq_iff_eq, reduceCtorEq, if_true, if_false, Nat.add_zero] at this
    show g.summary.queued - 1 = countBays _
    rw [sum.queued, Gather.stageCount, ← this, Nat.add_sub_cancel]
  · have := countBays_update (p := fun c => (g.slot c).stage == .sent)
      (q := fun c => ((g.sendSlot b tag).slot c).stage == .sent) (b := b) (fun c hc => by simp only [others c hc])
    simp only [here, hq, beq_iff_eq, reduceCtorEq, if_true, if_false, Nat.add_zero] at this
    show g.summary.sent + 1 = countBays _
    rw [sum.sent, Gather.stageCount, this]
  · exact fun e => (sum.endings e).trans (countBays_congr fun c => by rw [(kept c).2]).symm
  · exact fun c => (sum.passSet c).trans (by rw [(kept c).1])
  · exact fun c => (sum.failSet c).trans (by rw [(kept c).1])
  · exact sum.passCount.trans (countBays_congr fun c => by rw [(kept c).1]).symm
  · exact sum.failCount.trans (countBays_congr fun c => by rw [(kept c).1]).symm

/-- A slot QUEUED for the bay becomes SENT under a tag. -/
theorem State.sendSlot_acts (i : GatherNo) (tag : Byte) (hq : ((s.gather i).slot b).stage = .queued) :
    s.ActsAt b (s.modGather i (fun g => g.sendSlot b tag)) := by
  refine ⟨State.modGather_onlyAt s i b _ fun d hd => ?_, fun hg => ?_⟩
  · exact ((s.gather i).slot_setSlot b d _).trans (if_neg (Ne.symm hd))
  · refine State.gathersConsistent_of_entry (i := i) hg (fun j hj => by simp [Ne.symm hj]) ?_
    rw [State.gather_modGather, if_pos rfl]
    exact Gather.sendSlot_consistent _ (hg i) hq

/-- A dispatch, but for the frame that may begin after it. -/
def State.dispatched (s : State) (b : BayNo) (i : GatherNo) (rest : List GatherNo) : State :=
  (s.modGather i (fun g => g.sendSlot b (s.bay b).link.nextTag)).modBay b (fun x => { x with
    queue := rest
    state := .asking
    link := { x.link with
      nextTag := nextAskTag (s.bay b).link.nextTag
      outstanding := some (s.bay b).link.nextTag
      pendingAsk := some
        { tag := (s.bay b).link.nextTag, command := (s.gather i).command, args := (s.gather i).args } } })

theorem State.dispatchHead_eq (i : GatherNo) (rest : List GatherNo) :
    s.dispatchHead b i rest = (s.dispatched b i rest).beginFrame b := rfl

theorem State.dispatched_acts (i : GatherNo) (rest : List GatherNo) (hq : ((s.gather i).slot b).stage = .queued) :
    s.ActsAt b (s.dispatched b i rest) := by
  unfold State.dispatched
  exact .modBay (s.sendSlot_acts b i _ hq) fun _ => ⟨rfl, rfl⟩

theorem State.dispatchHead_acts (i : GatherNo) (rest : List GatherNo)
    (hq : ((s.gather i).slot b).stage = .queued) : s.ActsAt b (s.dispatchHead b i rest) := by
  rw [State.dispatchHead_eq]
  exact (s.dispatched_acts b i rest hq).beginFrame

theorem eventDispatch_acts : s.ActsAt b (eventDispatch b s) := by
  unfold eventDispatch
  split
  · split
    · exact .refl b s
    · split
      · rename_i hq
        exact s.dispatchHead_acts b _ _ hq
      · exact .modBay (.refl b s) fun _ => ⟨rfl, rfl⟩
  · exact .refl b s

/-- The send time of a slot does not touch the consistency of its entry (R71). -/
theorem Gather.sendTime_consistent {g k : Gather} {b : BayNo} {time : Option Time}
    (h : g.consistent ∧ g.summaryConsistent) (hstate : k.state = g.state) (hbays : k.bays = g.bays)
    (hsummary : k.summary = g.summary) (hslots : ∀ c, k.slot c = if b = c then { g.slot b with sendTime := time } else g.slot c) :
    k.consistent ∧ k.summaryConsistent := by
  have kept : ∀ c, (k.slot c).stage = (g.slot c).stage ∧ (k.slot c).verdict = (g.slot c).verdict ∧
      (k.slot c).ending = (g.slot c).ending ∧ (k.slot c).consistent = (g.slot c).consistent := fun c => by
    rw [hslots]
    split
    · rename_i hc; subst hc; exact ⟨rfl, rfl, rfl, rfl⟩
    · exact ⟨rfl, rfl, rfl, rfl⟩
  have stage := fun c => (kept c).1
  have verdict := fun c => (kept c).2.1
  have ending := fun c => (kept c).2.2.1
  have ok := fun c => (kept c).2.2.2
  simpa only [Gather.consistent, Gather.summaryConsistent, Gather.hasOpenSlot, Slot.endable, Gather.stageCount,
    Gather.endingCount, hstate, hbays, hsummary, stage, verdict, ending, ok] using h

/-- A gather with the send time of a slot reported (R71). -/
def Gather.sentAt (g : Gather) (b : BayNo) (clock : Time) : Gather :=
  { g.setSlot b { g.slot b with sendTime := some clock } with
    firstSend := match g.firstSend with
      | none => some clock
      | some t => some t }

theorem Gather.sentAt_slot (g : Gather) (b c : BayNo) (clock : Time) :
    (g.sentAt b clock).slot c = if b = c then { g.slot b with sendTime := some clock } else g.slot c :=
  g.slot_setSlot b c _

theorem State.recordSend_eq (i : GatherNo) : s.recordSend b i =
    if ((s.modGather i (fun g => g.sentAt b s.clock)).gather i).measure
    then (s.modGather i (fun g => g.sentAt b s.clock)).openWindow b
    else s.modGather i (fun g => g.sentAt b s.clock) := rfl

theorem State.recordSend_acts (i : GatherNo) : s.ActsAt b (s.recordSend b i) := by
  have timed : s.ActsAt b (s.modGather i (fun g => g.sentAt b s.clock)) := by
    refine ⟨State.modGather_onlyAt s i b _ fun d hd => ?_, fun hg => ?_⟩
    · exact ((s.gather i).sentAt_slot b d _).trans (if_neg (Ne.symm hd))
    · refine State.gathersConsistent_of_entry (i := i) hg (fun j hj => by simp [Ne.symm hj]) ?_
      rw [State.gather_modGather, if_pos rfl]
      exact Gather.sendTime_consistent (hg i) rfl rfl rfl fun c => (s.gather i).sentAt_slot b c _
  rw [State.recordSend_eq]
  split
  · exact timed.of_only timed.only.openWindow (by simp)
  · exact timed

theorem State.askLeft_acts : s.ActsAt b (s.askLeft b) := by
  unfold State.askLeft
  split
  · exact .refl b s
  · exact ((State.ActsAt.refl b s).modLink).trans (State.recordSend_acts _ b _)

theorem eventAskSent_acts : s.ActsAt b (eventAskSent b s) := by
  have left := (State.ActsAt.refl b s).modLink (f := Link.frameLeft)
  unfold eventAskSent
  dsimp only
  split
  · split
    · exact (left.trans (State.askLeft_acts _ b)).beginFrame
    · exact left.beginFrame
  · exact .refl b s

theorem eventTunnelOutSent_acts : s.ActsAt b (eventTunnelOutSent b s) := by
  unfold eventTunnelOutSent
  split
  · exact ((State.ActsAt.refl b s).modLink).beginFrame
  · exact .refl b s

theorem eventAnswerTimerExpiry_acts : s.ActsAt b (eventAnswerTimerExpiry b s) := by
  unfold eventAnswerTimerExpiry
  split
  · split
    · exact s.endAsk_acts b rfl payloadFits_none
    · exact (State.ActsAt.refl b s).modLink
  · exact .refl b s

variable {bay : Byte} {b : BayNo}

theorem requestSetLineRate_acts (rate : Byte) (hb : bayOf bay = some b) : s.ActsAt b (requestSetLineRate bay rate s) := by
  unfold requestSetLineRate
  rw [hb]
  split
  · rename_i hb' _
    obtain rfl := Option.some.inj hb'
    split
    · exact ((State.ActsAt.refl b s).modLink).answer
    · exact .answer (.refl b s)
  · exact .answer (.refl b s)

theorem requestPutTunnel_acts (block : List Byte) (hb : bayOf bay = some b) :
    s.ActsAt b (requestPutTunnel bay block s) := by
  unfold requestPutTunnel
  rw [hb]
  dsimp only
  split
  · exact .answer (.refl b s)
  · split
    · exact .answer (.refl b s)
    · split
      · exact .answer (.refl b s)
      · exact (((State.ActsAt.refl b s).modLink).beginFrame).answer

theorem requestGetTunnel_acts (hb : bayOf bay = some b) : s.ActsAt b (requestGetTunnel bay s) := by
  unfold requestGetTunnel
  rw [hb]
  have taken := (State.ActsAt.refl b s).modLink (f := fun l => { l with tunnelIn := none })
  exact (taken.of_only taken.only.tunnelInFalls rfl).answer

theorem requestPeekTunnel_acts (hb : bayOf bay = some b) : s.ActsAt b (requestPeekTunnel bay s) := by
  unfold requestPeekTunnel
  rw [hb]
  exact .answer (.refl b s)

/-! ### Rings and calibration (chapters 6 and 7) -/

theorem requestReadResults_acts (max : Byte) (hb : bayOf bay = some b) : s.ActsAt b (requestReadResults bay max s) := by
  unfold requestReadResults
  rw [hb]
  exact .answer (.modBay (.refl b s) fun _ => ⟨rfl, rfl⟩)

theorem requestRingStatus_acts (hb : bayOf bay = some b) : s.ActsAt b (requestRingStatus bay s) := by
  unfold requestRingStatus
  rw [hb]
  exact .answer (.refl b s)

theorem requestClearDrops_acts (drops overwrites : BitVec 16) (hb : bayOf bay = some b) :
    s.ActsAt b (requestClearDrops bay drops overwrites s) := by
  unfold requestClearDrops
  rw [hb]
  have lowered : s.ActsAt b (s.modBay b (fun x => { x with ring := x.ring.lowerCounts drops overwrites })) :=
    .modBay (.refl b s) fun _ => ⟨rfl, rfl⟩
  refine .answer ?_
  unfold State.clearLosses
  dsimp only
  split
  · exact lowered.of_only lowered.only.ringFullFalls rfl
  · exact lowered

theorem requestWriteCal_acts (gain offset : BitVec 16) (hb : bayOf bay = some b) :
    s.ActsAt b (requestWriteCal bay gain offset s) := by
  unfold requestWriteCal
  rw [hb]
  dsimp only
  split
  · exact .answer (.refl b s)
  · exact .answer (.modBay (.refl b s) fun _ => ⟨rfl, rfl⟩)

theorem requestReadCal_acts (hb : bayOf bay = some b) : s.ActsAt b (requestReadCal bay s) := by
  unfold requestReadCal
  rw [hb]
  exact .answer (.refl b s)

end

end Sys2Proof.Machine
end

section
/-! PROOFS. A command at one bay leaves every other bay's column alone. -/

namespace Sys2Proof.Machine

/-- Outside the ring windows' overlap, which is empty, what acts at bay b keeps the column of bay d. -/
theorem State.OnlyAt.columnKept {b d : BayNo} {s t : State} (h : s.OnlyAt b t) (hd : d ≠ b)
    (hrings : s.ringsConsistent) : s.columnKept t d := by
  obtain ⟨hconsistent, hapart⟩ := hrings
  have hstore : (s.bay b).ring.base + (s.bay b).ring.length ≤ 4096 := by
    have := hconsistent b
    simp only [Ring.consistent, Bool.and_eq_true, decide_eq_true_eq] at this
    exact this.2
  refine ⟨h.bays d hd, h.slots d hd, fun address ha => h.cells hstore address ?_, ?_⟩
  · have hmeet := hapart d b hd
    rw [State.inWindow_iff] at ha
    rw [Bool.eq_false_iff]
    intro hb
    rw [State.inWindow_iff] at hb
    simp only [windowsMeet, Bool.and_eq_false_iff, decide_eq_false_iff_not] at hmeet
    omega
  · have n := h.notices d hd
    exact ⟨n.bayFault, n.bayDark, n.presence, n.ringFull, n.tunnelIn, n.signedOn⟩

/-- A request that waits reaches no column. -/
theorem State.keepWaiting_acts (s : State) (b : BayNo) (c : Instr) : s.ActsAt b (s.keepWaiting c) := by
  rw [State.keepWaiting_eq]
  exact ⟨⟨rfl, fun _ _ => rfl, fun _ _ _ => rfl, fun _ _ => .refl _ _, ⟨rfl, rfl⟩, fun _ _ _ => rfl, fun _ _ h => .inl h⟩,
    fun h => h⟩

/-- An event that comes first acts where it acts on the state as it stands. -/
theorem State.acts_of_event {s t : State} {b : BayNo} {c : Instr} {f : State → State} (hc : s.comesFirst c)
    (hf : s.ActsAt b (f s)) (ht : Host.Outcome.next (φ := Fault) (ρ := Refusal) (f (s.before c)) = .next t) :
    s.ActsAt b t := by
  obtain rfl := Host.Outcome.next.inj ht
  rwa [s.before_of_comesFirst c hc]

/-- So does a request, or else it waits. -/
theorem State.acts_of_request {s t : State} {b : BayNo} {c : Instr} {f : State → State} (hc : s.comesFirst c)
    (hf : s.ActsAt b (f s)) (ht : Host.Outcome.next (φ := Fault) (ρ := Refusal) (s.serve c f) = .next t) :
    s.ActsAt b t := by
  obtain rfl := Host.Outcome.next.inj ht
  cases hs : s.startup with
  | none => rw [s.serve_of_up c f hs, s.before_of_comesFirst c hc]; exact hf
  | some _ => rw [s.serve_of_startup c f (by simp [hs])]; exact s.keepWaiting_acts b c

/-- Every command at one bay acts at that bay alone; SET_RING moves the bay's window and stands apart. -/
theorem exec_acts {c : Instr} {s t : State} {b : BayNo} (hcol : columnOf c = some b) (hc : s.comesFirst c)
    (hset : ∀ bay base length mode, c ≠ .setRing bay base length mode) (ht : exec c s = .next t) : s.ActsAt b t := by
  cases c
  case setRing => exact absurd rfl (hset _ _ _ _)
  case bayStatus => exact State.acts_of_request hc (requestBayStatus_acts s hcol) ht
  case setSupply => exact State.acts_of_request hc (requestSetSupply_acts s _ hcol) ht
  case cycleBay => exact State.acts_of_request hc (requestCycleBay_acts s _ _ hcol) ht
  case releaseBay => exact State.acts_of_request hc (requestReleaseBay_acts s hcol) ht
  case resetBay => exact State.acts_of_request hc (requestResetBay_acts s hcol) ht
  case setLineRate => exact State.acts_of_request hc (requestSetLineRate_acts s _ hcol) ht
  case putTunnel => exact State.acts_of_request hc (requestPutTunnel_acts s _ hcol) ht
  case getTunnel => exact State.acts_of_request hc (requestGetTunnel_acts s hcol) ht
  case peekTunnel => exact State.acts_of_request hc (requestPeekTunnel_acts s hcol) ht
  case readResults => exact State.acts_of_request hc (requestReadResults_acts s _ hcol) ht
  case clearDrops => exact State.acts_of_request hc (requestClearDrops_acts s _ _ hcol) ht
  case ringStatus => exact State.acts_of_request hc (requestRingStatus_acts s hcol) ht
  case writeCal => exact State.acts_of_request hc (requestWriteCal_acts s _ _ hcol) ht
  case readCal => exact State.acts_of_request hc (requestReadCal_acts s hcol) ht
  case signOnAccepted => cases hcol; exact State.acts_of_event hc (eventSignOnAccepted_acts s b _) ht
  case answerAccepted => cases hcol; exact State.acts_of_event hc (eventAnswerAccepted_acts s b _) ht
  case tunnelInAccepted => cases hcol; exact State.acts_of_event hc (eventTunnelInAccepted_acts s b _) ht
  case bayFrameRejected => cases hcol; exact State.acts_of_event hc (eventBayFrameRejected_acts s b _) ht
  case bayFrameLengthDiscard => cases hcol; exact State.acts_of_event hc (eventBayFrameLengthDiscard_acts s b _ _ _) ht
  case bayFrameGapExpiry => cases hcol; exact State.acts_of_event hc (eventBayFrameGapExpiry_acts s b) ht
  case bayCharacterFault => cases hcol; exact State.acts_of_event hc (eventBayCharacterFault_acts s b) ht
  case syncGapExpiry => cases hcol; exact State.acts_of_event hc (eventSyncGapExpiry_acts s b) ht
  case dispatch => cases hcol; exact State.acts_of_event hc (eventDispatch_acts s b) ht
  case askSent => cases hcol; exact State.acts_of_event hc (eventAskSent_acts s b) ht
  case tunnelOutSent => cases hcol; exact State.acts_of_event hc (eventTunnelOutSent_acts s b) ht
  case answerTimerExpiry => cases hcol; exact State.acts_of_event hc (eventAnswerTimerExpiry_acts s b) ht
  case wakeTimerExpiry => cases hcol; exact State.acts_of_event hc (eventWakeTimerExpiry_acts s b) ht
  case cycleTimerExpiry => cases hcol; exact State.acts_of_event hc (eventCycleTimerExpiry_acts s b) ht
  case presenceContactChange => cases hcol; exact State.acts_of_event hc (eventPresenceContactChange_acts s b _) ht
  case debounceExpiry => cases hcol; exact State.acts_of_event hc (eventDebounceExpiry_acts s b) ht
  case trip => cases hcol; exact State.acts_of_event hc (eventTrip_acts s b _) ht
  case sag => cases hcol; exact State.acts_of_event hc (eventSag_acts s b) ht
  case railRiseClear => cases hcol; exact State.acts_of_event hc (eventRailRiseClear_acts s b) ht
  case baySyncReceived => cases hcol; exact State.acts_of_event hc (eventBaySyncReceived_acts s b _) ht
  all_goals cases hcol

/-! ### SET_RING -/

/-- SET_RING changes the mode and window of the ring of its own bay, and no byte (R143, R144). -/
theorem requestSetRing_cases (s : State) {bay : Byte} {b : BayNo} (hb : bayOf bay = some b) (base length : BitVec 16)
    (mode : Byte) : ∃ r st body, requestSetRing bay base length mode s =
      (s.modBay b (fun x => { x with ring := r })).answer (.setRing bay base length mode) st body := by
  have refused : ∀ st body, s.answer (.setRing bay base length mode) st body =
      (s.modBay b (fun x => { x with ring := (s.bay b).ring })).answer (.setRing bay base length mode) st body :=
    fun st body => by
      rw [show s.modBay b (fun x => { x with ring := (s.bay b).ring }) = s from s.setBay_self b]
  have set : ∀ m, s.modBay b (fun x => { x with ring := x.ring.setWindow base.toNat length.toNat m }) =
      s.modBay b (fun x => { x with ring := (s.bay b).ring.setWindow base.toNat length.toNat m }) := fun _ => rfl
  unfold requestSetRing
  split
  · exact ⟨_, _, _, refused _ _⟩
  · rename_i c m hok
    have hc : c = b := by
      unfold State.ringChecks at hok
      rw [hb] at hok
      dsimp only at hok
      repeat' split at hok
      all_goals cases hok
      rfl
    subst hc
    exact ⟨_, _, _, by rw [set m]⟩

theorem requestSetRing_columnKept (s : State) {bay : Byte} {b d : BayNo} (hb : bayOf bay = some b) (hd : d ≠ b)
    (base length : BitVec 16) (mode : Byte) : s.columnKept (requestSetRing bay base length mode s) d := by
  obtain ⟨r, st, body, e⟩ := requestSetRing_cases s hb base length mode
  rw [e]
  simp [State.columnKept, Ne.symm hd]

/-- Settles O59: a command at one bay acts at that bay alone (exec_acts), and what does keeps every other column. -/
theorem aBayDoesNotTouchAnother : Obligations.ABayDoesNotTouchAnother := by
  intro c s t b d hcol hd hc hrings ht
  by_cases hset : ∃ bay base length mode, c = .setRing bay base length mode
  · obtain ⟨bay, base, length, mode, rfl⟩ := hset
    obtain rfl := Host.Outcome.next.inj ht
    cases hs : s.startup with
    | none =>
      rw [s.serve_of_up _ _ hs, s.before_of_comesFirst _ hc]
      exact requestSetRing_columnKept s hcol hd base length mode
    | some _ =>
      rw [s.serve_of_startup _ _ (by simp [hs])]
      exact (s.keepWaiting_acts b _).only.columnKept hd hrings
  · exact (exec_acts hcol hc (fun bay base length mode e => hset ⟨bay, base, length, mode, e⟩) ht).only.columnKept hd hrings

end Sys2Proof.Machine
end

section
/-! SUPPORT. Agreement by parts: a supply that is on, a bay that changes state alone, and a bay whose ask has ended. -/

namespace Sys2Proof.Machine

/-! ### A supply that is on -/

/-- What goes with a supply that is on (R2, R20, R41). -/
structure Bay.SupplyOn (x : Bay) : Prop where
  mode : x.supply.mode ≠ .off
  comparator : x.supply.comparator = comparatorFor x.supply.mode
  detector : x.supply.detector ≠ .idle
  receiver : x.link.receiver ≠ .disabled
  transmitter : x.link.transmitter ≠ .disabled
  present : x.present = true
  cycleTimer : x.supply.cycleTimer = none

theorem BayState.ne_of_supplyOn {st : BayState} (h : st.supplyOff = false) :
    st ≠ .vacant ∧ st ≠ .unpowered ∧ st ≠ .cycling ∧ st ≠ .faulted := by
  cases st <;> simp [BayState.supplyOff] at h ⊢

theorem BayState.ne_of_supplyOff {st : BayState} (h : st.supplyOff = true) :
    st ≠ .asking ∧ st ≠ .waking ∧ st ≠ .ready ∧ st ≠ .benched ∧ st ≠ .dark := by
  cases st <;> simp [BayState.supplyOff] at h ⊢

theorem Bay.SupplyAgrees.on {x : Bay} (h : x.SupplyAgrees) (hs : x.state.supplyOff = false) : x.SupplyOn := by
  obtain ⟨hvacant, _, hcycling, _⟩ := BayState.ne_of_supplyOn hs
  have hoff : ¬x.state.supplyOff = true := by simp [hs]
  exact ⟨hoff ∘ h.mode.1, h.comparator, hoff ∘ h.detector.1, hoff ∘ h.receiver.1, hoff ∘ h.transmitter.1,
    Bool.not_eq_false _ ▸ fun hp => hvacant (h.present.2 hp),
    Option.not_isSome_iff_eq_none.1 fun hc => hcycling (h.cycleTimer.1 hc)⟩

theorem Bay.SupplyOn.agrees {x : Bay} (h : x.SupplyOn) (hs : x.state.supplyOff = false)
    (hwake : x.link.wakeTimer.isSome = true ↔ x.state = .waking) : x.SupplyAgrees := by
  obtain ⟨hvacant, _, hcycling, _⟩ := BayState.ne_of_supplyOn hs
  exact ⟨by simp [h.mode, hs], h.comparator, by simp [h.detector, hs], by simp [h.receiver, hs],
    by simp [h.transmitter, hs], by simp [hvacant, h.present], by simp [h.cycleTimer, hcycling], hwake⟩

/-- A supply mode other than OFF is that of a supply that is on. -/
theorem Bay.SupplyAgrees.supplyOn_of_mode {x : Bay} (h : x.SupplyAgrees) {m : OnMode} (hm : x.supply.mode = .on m) :
    x.state.supplyOff = false := by
  rw [← Bool.not_eq_true, ← h.mode, hm]
  simp

/-! ### A bay that changes its state alone -/

/-- A bay goes from one state to another that agrees with the same supply, link, queue and window. -/
theorem Bay.Agrees.moveTo {x y : Bay} {slots : GatherNo → Slot} (h : x.Agrees slots) (hx : x.state ≠ .asking)
    (hy : y.state ≠ .asking) (hsupply : y.supply = x.supply) (hlink : y.link = x.link) (hqueue : y.queue = x.queue)
    (hwindow : y.window = x.window) (hoff : y.state.supplyOff = x.state.supplyOff)
    (hpresent : y.state = .vacant ↔ y.present = false) (hcycling : y.state = .cycling ↔ x.state = .cycling)
    (hwaking : y.state = .waking ↔ x.state = .waking)
    (htag : y.state = .ready ∨ y.state = .benched → y.link.nextTag ≠ 0)
    (havailable : y.state.available = true ∨ y.queue = []) : y.Agrees slots := by
  have agrees : y.SupplyAgrees := by
    refine ⟨?_, ?_, ?_, ?_, ?_, hpresent, ?_, ?_⟩ <;> simp only [hsupply, hlink, hoff, hcycling, hwaking]
    exacts [h.supply.mode, h.supply.comparator, h.supply.detector, h.supply.receiver, h.supply.transmitter,
      h.supply.cycleTimer, h.supply.wakeTimer]
  refine Bay.agrees_of_quiet agrees hy ?_ ?_ htag havailable ?_ ?_ ?_ ?_
  · rw [hlink]; exact h.quiet hx
  · rw [hwindow]; exact h.window_closed hx
  · rw [hqueue]; exact h.short
  · rw [hqueue]; exact h.nodup
  · rw [hqueue]; exact h.queued
  · exact fun i hi => hx (h.asking.2 ⟨i, hi⟩)

/-- A bay that takes no queued slots has none. -/
theorem Bay.Agrees.queue_nil {x : Bay} {slots : GatherNo → Slot} (h : x.Agrees slots)
    (hs : x.state.available = false) : x.queue = [] := h.available.resolve_left (by simp [hs])

/-! ### A bay whose ask has ended -/

/-- No slot is SENT for the bay, its queue holds its QUEUED slots, its window is closed and no conversion is tied to
it. -/
structure State.AskOver (s : State) (b : BayNo) : Prop where
  sent : ∀ i, ((s.gather i).slot b).stage ≠ .sent
  queue : s.QueueAt b
  window : (s.bay b).window = .closed
  tie : s.converter.tiedTo ≠ some b

theorem State.ExchangeAt.askOver {s : State} {b : BayNo} (h : s.ExchangeAt b) : (s.loseAsk b).AskOver b := by
  obtain ⟨hwindow, _, htie⟩ := h.loseAsk
  have hslots := State.loseAsk_slotsMeet h.ask
  exact ⟨fun i => by rw [hslots.stage i]; split <;> simp_all, h.queue.of_slotsMeet hslots (by simp), hwindow, htie⟩

theorem State.tableAgrees.askOver {s : State} (h : s.tableAgrees) {b : BayNo} (hs : (s.bay b).state ≠ .asking) :
    s.AskOver b :=
  have exchange := h.exchangeAt b
  ⟨exchange.ask.not_sent hs, exchange.queue, (h.bay b).window_closed hs,
    fun ht => by have := exchange.tie ht; simp [(h.bay b).window_closed hs, Window.isOpen] at this⟩

namespace State.AskOver

variable {s t : State} {b : BayNo}

/-- It is about the bay's queue and window, the slots and the converter alone. -/
theorem congr (h : s.AskOver b) (hg : ∀ i, (t.gather i).slot b = (s.gather i).slot b)
    (hq : (t.bay b).queue = (s.bay b).queue) (hw : (t.bay b).window = (s.bay b).window)
    (hc : t.converter = s.converter) : t.AskOver b :=
  ⟨fun i => by rw [hg]; exact h.sent i,
    ⟨by rw [hq]; exact h.queue.nodup, fun i => by rw [hq, hg]; exact h.queue.queued i⟩, by rw [hw]; exact h.window,
    by rw [hc]; exact h.tie⟩

theorem modBay {f : Bay → Bay} (h : s.AskOver b) (hq : ∀ x, (f x).queue = x.queue) (hw : ∀ x, (f x).window = x.window) :
    (s.modBay b f).AskOver b := h.congr (fun _ => rfl) (by simp [hq]) (by simp [hw]) rfl

theorem writeRecord {kind : RecordKind} {own : List Byte} (h : s.AskOver b) : (s.writeRecord b kind own).AskOver b :=
  h.congr (fun _ => by simp) (by simp) (by simp) (by simp)

theorem raise {p : Place} (h : s.AskOver b) : (s.raise p).AskOver b :=
  h.congr (fun _ => by simp) (by simp) (by simp) (by simp)

theorem beginFrame (h : s.AskOver b) : (s.beginFrame b).AskOver b := by
  obtain ⟨_, _, _, e⟩ := s.beginFrame_bay b b
  rw [if_pos rfl] at e
  exact h.congr (fun _ => by simp [State.gather_eq_get]) (by rw [e]) (by rw [e]) (by simp)

theorem startWake (h : s.AskOver b) : (s.startWake b).AskOver b :=
  h.congr (fun _ => rfl) (by simp) (by simp) rfl

theorem unreachQueue (h : s.AskOver b) : (s.unreachQueue b).AskOver b := by
  have hslots := State.unreachQueue_slotsMeet h.queue
  refine ⟨fun i => ?_, ⟨by simp, fun i => ?_⟩, (State.unreachQueue_window h.queue).trans h.window, ?_⟩
  · rw [hslots.stage i]
    have := h.sent i
    split <;> simp_all
  · rw [hslots.stage i]
    split <;> simp_all
  · rw [State.unreachQueue_converter h.queue]; exact h.tie

theorem dropQueue {e : Ending} (h : s.AskOver b) (he : e.evaluated = false) : (s.dropQueue b e).AskOver b := by
  have hslots := State.dropQueue_slotsMeet he h.queue
  refine ⟨fun i => ?_, ⟨by simp, fun i => ?_⟩, by simpa using h.window, by simpa using h.tie⟩
  · rw [hslots.stage i]
    have := h.sent i
    split <;> simp_all
  · rw [hslots.stage i]
    split <;> simp_all

end State.AskOver

/-- A command at one bay that leaves the bay without an ask keeps the agreement, when what is left of the bay's record
agrees with its new state. -/
theorem State.tableAgrees_of_askOver {b : BayNo} {s t : State} (h : s.tableAgrees) (ha : s.ActsAt b t)
    (hover : t.AskOver b) (hsupply : (t.bay b).SupplyAgrees) (hstate : (t.bay b).state ≠ .asking)
    (hquiet : (t.bay b).link.quiet)
    (htag : (t.bay b).state = .ready ∨ (t.bay b).state = .benched → (t.bay b).link.nextTag ≠ 0)
    (hqueue : (t.bay b).queue = [] ∨ (t.bay b).state.available = true ∧ (t.bay b).queue = (s.bay b).queue)
    (hseat : s.startup = none ∨ (t.bay b).present = (s.bay b).present ∧ (t.bay b).debounce = (s.bay b).debounce) :
    t.tableAgrees := by
  refine State.tableAgrees_of_onlyAt h ha.only (ha.gathers h.gathers) ?_ (fun ht => absurd ht hover.tie) hseat
  refine Bay.agrees_of_quiet hsupply hstate hquiet hover.window htag ?_ ?_ hover.queue.nodup hover.queue.queued hover.sent
  · exact hqueue.elim .inr fun ⟨ha, _⟩ => .inl ha
  · rcases hqueue with hq | ⟨_, hq⟩
    · simp [hq]
    · rw [hq]; exact (h.bay b).short

/-- The link of a bay whose ask was ended, if it had one, has no exchange left (R34). -/
theorem Link.quiet_endAsk_ite {l : Link} {p : Prop} [Decidable p] (h : ¬p → l.quiet) :
    (if p then l.endAsk else l).quiet := by
  split
  · exact ⟨rfl, rfl, rfl⟩
  · rename_i hp; exact h hp

end Sys2Proof.Machine
end

section
/-! SUPPORT. The events and requests of chapter 1 keep the tables in agreement. -/

namespace Sys2Proof.Machine

/-! ### Parts of a bay -/

theorem Bay.abandonCycle_eq (x : Bay) : x.abandonCycle = { x with supply := { x.supply with
    cycleTimer := if x.state = .cycling then none else x.supply.cycleTimer
    saved := if x.state = .cycling then .full else x.supply.saved } } := by
  unfold Bay.abandonCycle Bay.modSupply
  split <;> rfl

@[simp] theorem Bay.outOfService_supplyOff (x : Bay) : x.outOfService.state.supplyOff = true := by
  unfold Bay.outOfService
  dsimp only
  split <;> rfl

@[simp] theorem State.emptyTunnels_bay (s : State) (b c : BayNo) : (s.emptyTunnels b).bay c =
    if b = c then (s.bay b).modLink (fun l => { l with tunnelOut := none, tunnelIn := none }) else s.bay c := by
  simp [State.emptyTunnels]

theorem State.AskOver.emptyTunnels {s : State} {b : BayNo} (h : s.AskOver b) : (s.emptyTunnels b).AskOver b :=
  h.congr (fun _ => by simp [State.emptyTunnels]) (by simp) (by simp) rfl

/-- What only clears notices, records a send or composes a reply leaves the bays' records alone. -/
@[simp] theorem State.clearBayNotices_bay (s : State) (b c : BayNo) : (s.clearBayNotices b).bay c = s.bay c := by
  simp [State.clearBayNotices]

theorem State.AskOver.clearBayNotices {s : State} {b : BayNo} (h : s.AskOver b) : (s.clearBayNotices b).AskOver b :=
  h.congr (fun _ => by simp [State.clearBayNotices]) (by simp) (by simp) (by simp [State.clearBayNotices])

variable {s : State} {b : BayNo}

/-! ### Presence (R3 to R5) -/

theorem eventPresenceContactChange_agrees (h : s.tableAgrees) (closed : Bool) :
    (eventPresenceContactChange b closed s).tableAgrees := by
  unfold eventPresenceContactChange
  split
  · exact h
  · refine h.modBay b _ ((h.bay b).congr rfl rfl ⟨rfl, rfl, .rfl, rfl⟩ (.refl _) rfl id) ⟨rfl, rfl⟩ rfl ?_
    cases hs : s.startup with
    | none => exact .inl rfl
    | some _ => exact .inr ⟨rfl, by simp [Bay.contactTo]⟩

theorem State.arrive_agrees (h : s.tableAgrees) (hs : s.startup = none) (hp : (s.bay b).present = false) :
    (s.arrive b).tableAgrees := by
  have hvacant := (h.bay b).supply.present.2 hp
  refine State.tableAgrees.raise (h.modBay b _ ?_ ⟨rfl, rfl⟩ rfl (.inl hs)) _
  refine (h.bay b).moveTo (by simp [hvacant]) (by simp) rfl rfl rfl rfl ?_ ?_ ?_ ?_ (by simp)
    (.inr ((h.bay b).queue_nil ?_)) <;> simp [hvacant, BayState.supplyOff, BayState.available]

/-- The record of a bay whose ask was lost and whose queue then ended: link, queue, ring and window alone differ. -/
theorem State.loseAsk_unreachQueue_bay (s : State) (b : BayNo) : ∃ r w, ((s.loseAsk b).unreachQueue b).bay b =
    { s.bay b with
      link := if (s.bay b).state = .asking then (s.bay b).link.endAsk else (s.bay b).link
      queue := [], ring := r, window := w } := by
  refine ⟨(((s.loseAsk b).unreachQueue b).bay b).ring, (((s.loseAsk b).unreachQueue b).bay b).window, ?_⟩
  conv_lhs => rw [State.unreachQueue_bay, if_pos rfl, State.loseAsk_bay]

/-- The record of a bay after a removal (R5). -/
theorem State.remove_bay (s : State) (b : BayNo) : ∃ r w, (s.remove b).bay b = { s.bay b with
    state := .vacant
    present := false
    identity := none
    queue := []
    supply := { (s.bay b).supply with
      mode := .off, comparator := .idle, detector := .idle
      cycleTimer := if (s.bay b).state = .cycling then none else (s.bay b).supply.cycleTimer
      saved := if (s.bay b).state = .cycling then .full else (s.bay b).supply.saved }
    link := { (s.bay b).link with
      receiver := .disabled, gap := none, transmitter := .disabled, frameOut := [], pendingAsk := none,
      wakeTimer := none, answerTimer := none, tunnelOut := none, tunnelIn := none
      outstanding := if (s.bay b).state = .asking then none else (s.bay b).link.outstanding }
    window := w
    ring := r } := by
  obtain ⟨r, w, e⟩ := (s.modBay b fun x => x.abandonCycle.switchOff.stopTimers).loseAsk_unreachQueue_bay b
  refine ⟨r, w, ?_⟩
  simp only [State.remove, State.raise_bay, State.bay_modBay, if_true, State.emptyTunnels_bay, e]
  by_cases ha : (s.bay b).state = .asking <;>
    simp [ha, Bay.abandonCycle_eq, Bay.stopTimers, Bay.switchOff, Bay.modLink, Bay.modSupply, Link.disable, Link.endAsk]

theorem State.remove_askOver (h : s.ExchangeAt b) : (s.remove b).AskOver b :=
  .raise (.modBay (.emptyTunnels (.unreachQueue (State.ExchangeAt.askOver (h.modBay _ (by
    simp [Bay.abandonCycle_eq, Bay.switchOff, Bay.stopTimers]) (by
    simp [Bay.abandonCycle_eq, Bay.switchOff, Bay.stopTimers]) (by
    simp [Bay.abandonCycle_eq, Bay.switchOff, Bay.stopTimers]))))) (fun _ => rfl) fun _ => rfl)

theorem State.remove_agrees (h : s.tableAgrees) (hs : s.startup = none) : (s.remove b).tableAgrees := by
  obtain ⟨r, w, e⟩ := s.remove_bay b
  refine State.tableAgrees_of_askOver h (s.remove_acts b) (State.remove_askOver (h.exchangeAt b)) ?_ ?_ ?_ ?_ (.inl ?_) (.inl hs) <;> rw [e]
  · refine Bay.supplyAgrees_of_off ⟨rfl, rfl, rfl⟩ rfl rfl rfl rfl (by simp) ?_
    have := (h.bay b).supply.cycleTimer
    by_cases hc : (s.bay b).state = .cycling <;> simp_all
  · simp
  · refine ⟨rfl, ?_, rfl⟩
    by_cases ha : (s.bay b).state = .asking
    · simp [ha]
    · simp [ha, ((h.bay b).quiet ha).2.1]
  · simp

theorem eventDebounceExpiry_agrees (h : s.tableAgrees) : (eventDebounceExpiry b s).tableAgrees := by
  unfold eventDebounceExpiry
  dsimp only
  split
  · rename_i hran
    have hs : s.startup = none := by
      by_contra hne
      have hnone := ((h.column b).startup (Option.isSome_iff_ne_none.2 hne)).2
      simp [hnone, ranOut] at hran
    have stopped : (s.modBay b (fun x => { x with debounce := none })).tableAgrees :=
      h.modBay b _ ((h.bay b).congr rfl rfl ⟨rfl, rfl, .rfl, rfl⟩ (.refl _) rfl id) ⟨rfl, rfl⟩ rfl (.inl hs)
    split
    · exact stopped
    · rename_i hne
      split
      · rename_i hc
        exact State.arrive_agrees stopped hs (by simpa [hc] using hne)
      · exact State.remove_agrees stopped hs
  · exact h

end Sys2Proof.Machine
end

section
/-! SUPPORT. Sign-on, waking, release and reset of a bay keep the tables in agreement (R6 to R9, R13, R14). -/

namespace Sys2Proof.Machine

/-! ### Frames at the receiver (R23 to R27) -/

/-- A frame is accepted only by a receiver that has it in assembly. -/
theorem Link.receiver_of_fits {l : Link} {bytes : List Byte} (h : l.fits bytes) : ∃ got, l.receiver = .inFrame got := by
  unfold Link.fits Link.assembling at h
  cases hr : l.receiver with
  | inFrame got => exact ⟨got, rfl⟩
  | _ => simp [hr] at h

theorem Link.receiver_of_frameEnds {l : Link} {f : BayFrame} (h : l.frameEnds f) : ∃ got, l.receiver = .inFrame got := by
  simp only [Link.frameEnds, Bool.and_eq_true, and_assoc] at h
  exact Link.receiver_of_fits h.1

theorem Link.receiver_of_accepts {l : Link} {kind : Byte} {f : BayFrame} (h : l.accepts kind f) :
    ∃ got, l.receiver = .inFrame got := by
  simp only [Link.accepts, Bool.and_eq_true, and_assoc] at h
  exact Link.receiver_of_frameEnds h.1

theorem Link.hunt_sameExchange {l : Link} (h : l.receiver ≠ .disabled) : l.hunt.SameExchange l :=
  ⟨by simp [Link.hunt, h], .rfl, rfl, rfl, rfl, id, rfl⟩

theorem Link.discard_sameExchange {l : Link} (h : l.receiver ≠ .disabled) : l.discard.SameExchange l :=
  ⟨by simp [Link.discard, Link.hunt, h], .rfl, rfl, rfl, rfl, id, rfl⟩

variable {s : State} {b : BayNo}

theorem State.huntAgain_agrees (h : s.tableAgrees) (hr : (s.bay b).link.receiver ≠ .disabled) :
    (s.huntAgain b).tableAgrees := h.modLink b _ (Link.hunt_sameExchange hr)

/-! ### Sign-on (R6, R7) -/

/-- An accepted sign-on, but for the frame that may begin after it. -/
def State.signedOn (s : State) (b : BayNo) (a : SignOn) : State :=
  (((s.loseAsk b).modBay b (fun x => { x.stopWake with
    state := x.state.afterSignOn
    identity := some { serial := a.serial, version := a.version, time := (s.loseAsk b).clock }
    signOns := satInc x.signOns
    link := { x.stopWake.link with nextTag := 1 } })).writeRecord b .signOn
      (signOnFields a (identityChanged ((s.loseAsk b).bay b).identity a.serial))).raise (.signedOn b)

theorem State.signOn_eq (s : State) (b : BayNo) (a : SignOn) : s.signOn b a = (s.signedOn b a).beginFrame b := rfl

theorem State.signedOn_bay (s : State) (b : BayNo) (a : SignOn) : ∃ r w, (s.signedOn b a).bay b = { s.bay b with
    state := (s.bay b).state.afterSignOn
    identity := some { serial := a.serial, version := a.version, time := s.clock }
    signOns := satInc (s.bay b).signOns
    link := { (if (s.bay b).state = .asking then (s.bay b).link.endAsk else (s.bay b).link) with
      wakeTimer := none, nextTag := 1 }
    ring := r, window := w } :=
  ⟨_, _, by
    simp only [State.signedOn, State.raise_bay, State.writeRecord_bay, State.bay_modBay, if_true]
    rw [State.loseAsk_bay, State.loseAsk_clock]
    rfl⟩

theorem State.signedOn_askOver (h : s.ExchangeAt b) (a : SignOn) : (s.signedOn b a).AskOver b :=
  .raise (.writeRecord (.modBay h.askOver (fun _ => rfl) fun _ => rfl))

theorem State.signedOn_acts (s : State) (b : BayNo) (a : SignOn) (h : a.serial.length ≤ 24) :
    s.ActsAt b (s.signedOn b a) :=
  .raiseOwn (.writeRecord (.modBay (.loseAsk (.refl b s)) fun _ => ⟨rfl, rfl⟩) (signOnFields_length _ _ h)) rfl

theorem BayState.afterSignOn_of_on {st : BayState} (h : st.supplyOff = false) :
    st.afterSignOn = if st = .benched then .benched else .ready := by
  cases st <;> simp [BayState.supplyOff] at h ⊢ <;> rfl

theorem State.signOn_agrees (h : s.tableAgrees) (hon : (s.bay b).state.supplyOff = false) {a : SignOn}
    (hlen : a.serial.length ≤ 24) : (s.signOn b a).tableAgrees := by
  rw [State.signOn_eq]
  obtain ⟨r, w, e⟩ := s.signedOn_bay b a
  have on := (h.bay b).supply.on hon
  have hafter := BayState.afterSignOn_of_on hon
  have hoff : (s.bay b).state.afterSignOn.supplyOff = false := by rw [hafter]; split <;> rfl
  have hne : (s.bay b).state.afterSignOn ≠ .waking ∧ (s.bay b).state.afterSignOn ≠ .asking := by
    rw [hafter]; split <;> simp
  have hquiet : ¬(s.bay b).state = .asking → (s.bay b).link.quiet := (h.bay b).quiet
  have hkept : ∀ l : Link, (if (s.bay b).state = .asking then l.endAsk else l).receiver = l.receiver ∧
      (if (s.bay b).state = .asking then l.endAsk else l).transmitter = l.transmitter := fun l => by
    split <;> exact ⟨rfl, rfl⟩
  refine State.tableAgrees.beginFrame (State.tableAgrees_of_askOver h (s.signedOn_acts b a hlen)
    (State.signedOn_askOver (h.exchangeAt b) a) ?_ ?_ ?_ ?_ ?_ (.inr ?_)) b <;> rw [e]
  · refine Bay.SupplyOn.agrees ⟨on.mode, on.comparator, on.detector, ?_, ?_, on.present, on.cycleTimer⟩ hoff ?_
    · simpa [(hkept _).1] using on.receiver
    · simpa [(hkept _).2] using on.transmitter
    · simp [hne.1]
  · exact hne.2
  · obtain ⟨hp, ho, ht⟩ := Link.quiet_endAsk_ite hquiet
    exact ⟨hp, ho, ht⟩
  · simp
  · by_cases hb : (s.bay b).state = .benched
    · exact .inl ((h.bay b).queue_nil (by simp [hb, BayState.available]))
    · exact .inr ⟨by simp [hafter, hb, BayState.available], rfl⟩
  · exact ⟨rfl, rfl⟩

theorem eventSignOnAccepted_agrees (h : s.tableAgrees) (f : BayFrame) : (eventSignOnAccepted b f s).tableAgrees := by
  unfold eventSignOnAccepted
  split
  · rename_i hacc
    obtain ⟨got, hr⟩ := Link.receiver_of_accepts hacc
    have hreceiver : (s.bay b).link.receiver ≠ .disabled := by simp [hr]
    split
    · exact h
    · rename_i a ha
      refine State.signOn_agrees (State.huntAgain_agrees h hreceiver) ?_ (readSignOn_serial ha)
      have hoff := fun hoff => hreceiver ((h.bay b).supply.receiver.2 hoff)
      simpa [State.huntAgain] using hoff
  · exact h

/-! ### Waking and going dark (R8, R9) -/

theorem State.goDark_bay (s : State) (b : BayNo) : ∃ r w, (s.goDark b).bay b =
    { s.bay b with state := .dark, queue := [], ring := r, window := w } :=
  ⟨_, _, by
    simp only [State.goDark, State.raise_bay]
    rw [State.unreachQueue_bay, if_pos rfl]
    simp only [State.bay_modBay, if_true]
    rfl⟩

theorem ranOut_isSome {timer : Option Time} {clock : Time} (h : ranOut timer clock) : timer.isSome = true := by
  cases timer with
  | none => simp [ranOut] at h
  | some _ => rfl

theorem State.goDark_askOver (h : s.AskOver b) : (s.goDark b).AskOver b :=
  .raise (.unreachQueue (.modBay h (fun _ => rfl) fun _ => rfl))

theorem eventWakeTimerExpiry_of_waking (hs : (s.bay b).state = .waking) (hran : ranOut (s.bay b).link.wakeTimer s.clock) :
    eventWakeTimerExpiry b s = (s.modBay b Bay.stopWake).goDark b := by
  unfold eventWakeTimerExpiry
  simp only [hran, hs, if_true]

theorem eventWakeTimerExpiry_agrees (h : s.tableAgrees) : (eventWakeTimerExpiry b s).tableAgrees := by
  by_cases hran : ranOut (s.bay b).link.wakeTimer s.clock
  · have hs := (h.bay b).supply.wakeTimer.1 (ranOut_isSome hran)
    have on := (h.bay b).supply.on (by simp [hs, BayState.supplyOff])
    have hquiet := (h.bay b).quiet (by simp [hs])
    obtain ⟨r, w, e⟩ := (s.modBay b Bay.stopWake).goDark_bay b
    simp only [State.bay_modBay, if_true] at e
    refine State.tableAgrees_of_askOver h (eventWakeTimerExpiry_acts s b) ?_ ?_ ?_ ?_ ?_ ?_ ?_ <;>
      rw [eventWakeTimerExpiry_of_waking hs hran]
    · exact State.goDark_askOver (.modBay (h.askOver (by simp [hs])) (fun _ => rfl) fun _ => rfl)
    all_goals rw [e]
    · exact Bay.SupplyOn.agrees ⟨on.mode, on.comparator, on.detector, on.receiver, on.transmitter, on.present,
        on.cycleTimer⟩ rfl (by simp [Bay.stopWake])
    · simp
    · exact hquiet
    · simp
    · exact .inl rfl
    · exact .inr ⟨rfl, rfl⟩
  · unfold eventWakeTimerExpiry
    rw [if_neg hran]
    exact h

/-- A bay whose supply is on and whose ask is over starts to wake. -/
theorem State.startWake_agrees (h : s.tableAgrees) (hon : (s.bay b).state.supplyOff = false)
    (hs : (s.bay b).state ≠ .asking) : (s.startWake b).tableAgrees := by
  have on := (h.bay b).supply.on hon
  refine State.tableAgrees_of_askOver h (.startWake (.refl b s)) (.modBay (h.askOver hs) (fun _ => rfl) fun _ => rfl)
    ?_ ?_ ?_ ?_ ?_ (.inr ?_) <;> simp only [State.startWake_bay, if_true]
  · exact Bay.SupplyOn.agrees ⟨on.mode, on.comparator, on.detector, on.receiver, on.transmitter, on.present,
      on.cycleTimer⟩ rfl (by simp)
  · simp
  · exact (h.bay b).quiet hs
  · simp
  · exact .inr ⟨rfl, trivial⟩
  · exact ⟨trivial, trivial⟩

/-! ### Release and reset (R13, R14) -/

theorem requestReleaseBay_agrees (h : s.tableAgrees) (bay : Byte) : (requestReleaseBay bay s).tableAgrees := by
  unfold requestReleaseBay
  split
  · exact h.answer _ _ _
  · rename_i b _
    split
    case h_1 hs =>
      refine State.tableAgrees.answer (State.tableAgrees.beginFrame (h.modBay b _ ?_ ⟨rfl, rfl⟩ rfl (.inr ⟨rfl, rfl⟩)) b) _ _ _
      have hpresent := (h.bay b).supply.on (by simp [hs, BayState.supplyOff])
      have htag := (h.bay b).ask.nextTag (.inr (.inr hs))
      refine (h.bay b).moveTo ?_ ?_ rfl rfl rfl rfl ?_ ?_ ?_ ?_ (fun _ => htag) (.inl rfl) <;>
        simp [hs, BayState.supplyOff, hpresent.present]
    case h_2 hs => exact State.tableAgrees.answer (State.startWake_agrees h (by simp [hs, BayState.supplyOff]) (by simp [hs])) _ _ _
    case h_3 hs =>
      refine State.tableAgrees.answer (h.modBay b _ ?_ ⟨rfl, rfl⟩ rfl (.inr ⟨rfl, rfl⟩)) _ _ _
      have hpresent : (s.bay b).present = true := by
        rw [← Bool.not_eq_false, ← (h.bay b).supply.present]; simp [hs]
      refine (h.bay b).moveTo ?_ ?_ rfl rfl rfl rfl ?_ ?_ ?_ ?_ ?_ (.inr ((h.bay b).queue_nil ?_)) <;>
        simp [hs, BayState.supplyOff, BayState.available, hpresent]
    all_goals exact h.answer _ _ _

theorem State.loseAsk_bay_parts (s : State) (b : BayNo) : ∃ r w, (s.loseAsk b).bay b = { s.bay b with
    link := if (s.bay b).state = .asking then (s.bay b).link.endAsk else (s.bay b).link
    ring := r, window := w } := ⟨_, _, s.loseAsk_bay b⟩

/-- The record of a bay after RESET_BAY (R14). -/
theorem State.resetBay_bay (s : State) (b : BayNo) : ∃ r w, (s.resetBay b).bay b = { s.bay b with
    state := if (s.bay b).present then .unpowered else .vacant
    identity := none
    signOns := 0
    queue := []
    supply := Supply.reset
    link := { Link.reset with
      lineRate := (s.bay b).link.lineRate
      outstanding := if (s.bay b).state = .asking then none else (s.bay b).link.outstanding }
    window := w
    ring := r } := by
  obtain ⟨r, w, e⟩ := (s.modBay b fun x => x.switchOff.stopTimers.modSupply fun p =>
    { p with cycleTimer := none, saved := .full }).loseAsk_bay_parts b
  refine ⟨r, w, ?_⟩
  simp only [State.resetBay, State.bay_modBay, if_true, State.clearBayNotices_bay, State.emptyTunnels_bay,
    State.dropQueue_bay, e]
  by_cases ha : (s.bay b).state = .asking <;>
    simp [ha, Bay.outOfService, Bay.clearHistory, Bay.stopTimers, Bay.switchOff, Bay.modLink, Bay.modSupply,
      Link.disable, Link.endAsk, Link.reset, Supply.reset]

theorem State.resetBay_askOver (h : s.ExchangeAt b) : (s.resetBay b).AskOver b := by
  unfold State.resetBay
  exact .modBay (.clearBayNotices (.modBay (.emptyTunnels (.dropQueue (State.ExchangeAt.askOver
    (h.modBay _ rfl rfl rfl)) rfl)) (fun _ => rfl) fun _ => rfl)) (fun _ => rfl) fun _ => rfl

theorem State.resetBay_agrees (h : s.tableAgrees) : (s.resetBay b).tableAgrees := by
  obtain ⟨r, w, e⟩ := s.resetBay_bay b
  have hoff : (if (s.bay b).present then BayState.unpowered else BayState.vacant).supplyOff = true := by split <;> rfl
  obtain ⟨hasking, _, hready, hbenched, _⟩ := BayState.ne_of_supplyOff hoff
  refine State.tableAgrees_of_askOver h (s.resetBay_acts b) (State.resetBay_askOver (h.exchangeAt b)) ?_ ?_ ?_ ?_
    (.inl ?_) (.inr ?_) <;> rw [e]
  · refine Bay.supplyAgrees_of_off ⟨rfl, rfl, rfl⟩ hoff rfl rfl rfl ?_ ?_
    · cases (s.bay b).present <;> simp
    · cases (s.bay b).present <;> simp [Supply.reset]
  · exact hasking
  · refine ⟨rfl, ?_, rfl⟩
    by_cases ha : (s.bay b).state = .asking
    · simp [ha]
    · simp [ha, ((h.bay b).quiet ha).2.1]
  · rintro (hr | hb)
    exacts [absurd hr hready, absurd hb hbenched]
  · exact ⟨rfl, rfl⟩

theorem requestResetBay_agrees (h : s.tableAgrees) (bay : Byte) : (requestResetBay bay s).tableAgrees := by
  unfold requestResetBay
  split
  · exact h.answer _ _ _
  · exact State.tableAgrees.answer (State.resetBay_agrees h) _ _ _

end Sys2Proof.Machine
end

section
/-! SUPPORT. The commands of the bay supply keep the tables in agreement (chapter 3). -/

namespace Sys2Proof.Machine

variable {s : State} {b : BayNo}

/-- A bay agrees with its slots under another supply that agrees with it. -/
theorem Bay.Agrees.withSupply {x : Bay} {slots : GatherNo → Slot} (h : x.Agrees slots) (f : Supply → Supply)
    (hs : (x.modSupply f).SupplyAgrees) : (x.modSupply f).Agrees slots :=
  ⟨hs, ⟨h.ask.outstanding, h.ask.pending, h.ask.timer, h.ask.apart, h.ask.nextTag, h.ask.tag⟩, h.available, h.short,
    h.nodup, h.queued, h.asking, h.unique, h.sentTag, h.window⟩

theorem State.tableAgrees.modSupply (h : s.tableAgrees) (b : BayNo) (f : Supply → Supply)
    (hs : ((s.bay b).modSupply f).SupplyAgrees) : (s.modBay b (fun x => x.modSupply f)).tableAgrees :=
  h.modBay b _ ((h.bay b).withSupply f hs) ⟨rfl, rfl⟩ rfl (.inr ⟨rfl, rfl⟩)

/-- A bay whose supply goes off while it holds a phone. -/
theorem Bay.supplyAgrees_off {x : Bay} {st : BayState} (hst : st = .unpowered ∨ st = .faulted)
    (hstate : x.state = st) (hoff : x.supply.switchedOff) (hreceiver : x.link.receiver = .disabled)
    (htransmitter : x.link.transmitter = .disabled) (hwake : x.link.wakeTimer = none) (hpresent : x.present = true)
    (hcycle : x.supply.cycleTimer = none) : x.SupplyAgrees := by
  subst hstate
  refine Bay.supplyAgrees_of_off hoff ?_ hreceiver htransmitter hwake ?_ ?_ <;>
    rcases hst with h | h <;> simp [h, BayState.supplyOff, hpresent, hcycle]

theorem Bay.Agrees.present_of_ne_vacant {x : Bay} {slots : GatherNo → Slot} (h : x.Agrees slots)
    (hs : x.state ≠ .vacant) : x.present = true := by
  rw [← Bool.not_eq_false, ← h.supply.present]
  exact hs

/-! ### SET_SUPPLY (R43 to R46) -/

/-- The record of a bay after SET_SUPPLY OFF in a powered state (R45). -/
theorem State.supplyOff_bay (s : State) (b : BayNo) : ∃ r w, (s.supplyOff b).bay b = { s.bay b with
    state := .unpowered
    queue := []
    supply := { (s.bay b).supply with mode := .off, comparator := .idle, detector := .idle }
    link := { (s.bay b).link.disable with
      wakeTimer := none
      answerTimer := if (s.bay b).state = .asking then none else (s.bay b).link.answerTimer
      outstanding := if (s.bay b).state = .asking then none else (s.bay b).link.outstanding }
    window := w
    ring := r } := by
  obtain ⟨r, w, e⟩ := (s.modBay b fun x => x.switchOff.stopWake).loseAsk_unreachQueue_bay b
  refine ⟨r, w, ?_⟩
  simp only [State.supplyOff, State.bay_modBay, if_true, e]
  by_cases ha : (s.bay b).state = .asking <;>
    simp [ha, Bay.stopWake, Bay.switchOff, Bay.modLink, Bay.modSupply, Link.disable, Link.endAsk]

theorem State.supplyOff_agrees (h : s.tableAgrees) (hon : (s.bay b).state.supplyOff = false) :
    (s.supplyOff b).tableAgrees := by
  obtain ⟨r, w, e⟩ := s.supplyOff_bay b
  have on := (h.bay b).supply.on hon
  have ended : (s.supplyOff b).AskOver b := by
    unfold State.supplyOff
    exact .modBay (.unreachQueue (State.ExchangeAt.askOver ((h.exchangeAt b).modBay _ rfl rfl rfl))) (fun _ => rfl)
      fun _ => rfl
  refine State.tableAgrees_of_askOver h (s.supplyOff_acts b) ended ?_ ?_ ?_ ?_ (.inl ?_) (.inr ?_) <;> rw [e]
  · exact Bay.supplyAgrees_off (.inl rfl) rfl ⟨rfl, rfl, rfl⟩ rfl rfl rfl on.present on.cycleTimer
  · simp
  · by_cases ha : (s.bay b).state = .asking
    · simp only [ha, if_true]; exact ⟨rfl, rfl, rfl⟩
    · obtain ⟨_, hout, htimer⟩ := (h.bay b).quiet ha
      simp only [ha, if_false]; exact ⟨rfl, hout, htimer⟩
  · simp
  · exact ⟨rfl, rfl⟩

/-- The record of a bay after SET_SUPPLY OFF in CYCLING (R46). -/
theorem State.cycleOff_bay (hs : (s.bay b).state = .cycling) : ∃ r w, (s.cycleOff b).bay b = { s.bay b with
    state := .unpowered
    queue := []
    supply := { (s.bay b).supply with cycleTimer := none, saved := .full }
    window := w
    ring := r } :=
  ⟨_, _, by
    simp only [State.cycleOff]
    rw [State.unreachQueue_bay, if_pos rfl]
    simp only [State.bay_modBay, if_true, Bay.abandonCycle_eq, hs]
    rfl⟩

theorem State.cycleOff_agrees (h : s.tableAgrees) (hs : (s.bay b).state = .cycling) : (s.cycleOff b).tableAgrees := by
  obtain ⟨r, w, e⟩ := State.cycleOff_bay hs
  have hne : (s.bay b).state ≠ .asking := by simp [hs]
  have hoff : (s.bay b).state.supplyOff = true := by rw [hs]; rfl
  have supply := (h.bay b).supply
  have hmode := supply.mode.2 hoff
  have ended : (s.cycleOff b).AskOver b :=
    .unreachQueue (.modBay (.modBay (h.askOver hne) (by simp [Bay.abandonCycle_eq]) (by simp [Bay.abandonCycle_eq]))
      (fun _ => rfl) fun _ => rfl)
  refine State.tableAgrees_of_askOver h (s.cycleOff_acts b) ended ?_ ?_ ?_ ?_ (.inl ?_) (.inr ?_) <;> rw [e]
  · exact Bay.supplyAgrees_off (.inl rfl) rfl ⟨hmode, by rw [supply.comparator, hmode]; rfl, supply.detector.2 hoff⟩
      (supply.receiver.2 hoff) (supply.transmitter.2 hoff) ((h.bay b).wakeTimer_none (by simp [hs]))
      ((h.bay b).present_of_ne_vacant (by simp [hs])) rfl
  · simp
  · exact (h.bay b).quiet hne
  · simp
  · exact ⟨rfl, rfl⟩

/-- A bay that is not ASKING is switched on and starts to wake (R43, R54). -/
theorem State.switchOn_startWake_agrees {t : State} (h : s.tableAgrees) (ha : s.ActsAt b t) (hover : t.AskOver b)
    (m : OnMode) {r : Ring} {expiry : Time} (hs : (s.bay b).state = .unpowered ∨ (s.bay b).state = .cycling)
    (e : t.bay b = { (s.bay b).switchOn m with
      state := .waking
      supply := { ((s.bay b).switchOn m).supply with cycleTimer := none }
      link := { ((s.bay b).switchOn m).link with wakeTimer := some expiry }
      ring := r }) : t.tableAgrees := by
  have hne : (s.bay b).state ≠ .asking ∧ (s.bay b).state ≠ .vacant := by rcases hs with hs | hs <;> simp [hs]
  refine State.tableAgrees_of_askOver h ha hover ?_ ?_ ?_ ?_ (.inr ⟨?_, ?_⟩) (.inr ?_) <;> rw [e]
  · exact Bay.SupplyOn.agrees ⟨by simp [Bay.switchOn, Bay.modSupply], rfl, by simp [Bay.switchOn, Bay.modSupply],
      by simp [Bay.switchOn, Bay.modLink, Bay.modSupply, Link.enable],
      by simp [Bay.switchOn, Bay.modLink, Bay.modSupply, Link.enable], (h.bay b).present_of_ne_vacant hne.2, rfl⟩ rfl
      (by simp)
  · simp
  · exact (h.bay b).quiet hne.1
  · simp
  · rfl
  · rfl
  · exact ⟨rfl, rfl⟩

theorem State.switchOn_agrees (h : s.tableAgrees) (hs : (s.bay b).state = .unpowered) (m : OnMode) :
    ((s.modBay b (fun x => x.switchOn m)).startWake b).tableAgrees := by
  have hnone := (h.bay b).cycleTimer_none (by simp [hs])
  refine State.switchOn_startWake_agrees h (.startWake (.modBay (.refl b s) fun _ => ⟨rfl, rfl⟩))
    (.modBay (.modBay (h.askOver (by simp [hs])) (fun _ => rfl) fun _ => rfl) (fun _ => rfl) fun _ => rfl) m (.inl hs)
    (r := (s.bay b).ring) (expiry := expiryAfter s.clock (s.wakeTimeout.toNat * 1000)) ?_
  simp [Bay.switchOn, Bay.modLink, Bay.modSupply, hnone]

theorem State.changeMode_agrees (h : s.tableAgrees) (hon : (s.bay b).state.supplyOff = false) (m : OnMode) :
    (s.modBay b (fun x => x.changeMode m)).tableAgrees := by
  have on := (h.bay b).supply.on hon
  exact h.modSupply b _ (Bay.SupplyOn.agrees ⟨by simp [Bay.modSupply], rfl, on.detector, on.receiver, on.transmitter,
    on.present, on.cycleTimer⟩ hon (h.bay b).supply.wakeTimer)

theorem State.setSupply_agrees (h : s.tableAgrees) {mode : SupplyMode} {t : State} (ht : s.setSupply b mode = some t) :
    t.tableAgrees := by
  unfold State.setSupply at ht
  split at ht <;> simp only [Option.some.injEq, reduceCtorEq] at ht <;> subst ht
  case h_3 => exact h
  case h_4 hs => exact State.switchOn_agrees h hs _
  case h_5 hs => exact State.cycleOff_agrees h hs
  case h_6 =>
    have supply := (h.bay b).supply
    exact h.modSupply b _ ⟨supply.mode, supply.comparator, supply.detector, supply.receiver, supply.transmitter,
      supply.present, supply.cycleTimer, supply.wakeTimer⟩
  all_goals
    have hon : (s.bay b).state.supplyOff = false := by
      cases hst : (s.bay b).state <;> simp_all [BayState.supplyOff]
  · exact State.supplyOff_agrees h hon
  · exact State.changeMode_agrees h hon _

theorem requestSetSupply_agrees (h : s.tableAgrees) (bay mode : Byte) : (requestSetSupply bay mode s).tableAgrees := by
  unfold requestSetSupply
  split
  · split
    · exact h.answer _ _ _
    · rename_i ht
      exact State.tableAgrees.answer (State.setSupply_agrees h ht) _ _ _
  · exact h.answer _ _ _

/-! ### Trip and sag (R47, R49, R50) -/

/-- The record of a bay after a trip (R47). -/
theorem State.takeTrip_bay (s : State) (b : BayNo) (mode : OnMode) : ∃ r w, (s.takeTrip b mode).bay b = { s.bay b with
    state := .faulted
    queue := []
    supply := { (s.bay b).supply with
      mode := .off, comparator := .idle, detector := .idle, trips := satInc (s.bay b).supply.trips }
    link := { (s.bay b).link.disable with
      wakeTimer := none
      answerTimer := if (s.bay b).state = .asking then none else (s.bay b).link.answerTimer
      outstanding := if (s.bay b).state = .asking then none else (s.bay b).link.outstanding }
    window := w
    ring := r } := by
  obtain ⟨r, w, e⟩ := ((((s.modBay b Bay.switchOff).modBay b (fun x =>
    x.modSupply (fun p => { p with trips := satInc p.trips }))).writeRecord b .supply (supplyFields .trip mode)).modBay b
    Bay.stopWake).loseAsk_unreachQueue_bay b
  refine ⟨r, w, ?_⟩
  simp only [State.takeTrip, State.raise_bay, State.bay_modBay, if_true, e, State.writeRecord_bay]
  by_cases ha : (s.bay b).state = .asking <;>
    simp [ha, Bay.stopWake, Bay.switchOff, Bay.modLink, Bay.modSupply, Link.disable, Link.endAsk]

theorem State.ExchangeAt.writeRecord (h : s.ExchangeAt b) (kind : RecordKind) (own : List Byte) :
    (s.writeRecord b kind own).ExchangeAt b :=
  ⟨⟨by simpa using h.ask.asking, by simpa using h.ask.unique⟩, ⟨by simpa using h.queue.nodup, by simpa using h.queue.queued⟩,
    by simpa using h.window, by simpa using h.tie⟩

theorem State.takeTrip_agrees (h : s.tableAgrees) (hon : (s.bay b).state.supplyOff = false) (mode : OnMode) :
    (s.takeTrip b mode).tableAgrees := by
  obtain ⟨r, w, e⟩ := s.takeTrip_bay b mode
  have on := (h.bay b).supply.on hon
  have before := (((h.exchangeAt b).modBay Bay.switchOff rfl rfl rfl).modBay
    (fun x => x.modSupply (fun p => { p with trips := satInc p.trips })) rfl rfl rfl).writeRecord .supply
    (supplyFields .trip mode)
  have ended : (s.takeTrip b mode).AskOver b :=
    .raise (.modBay (.unreachQueue (State.ExchangeAt.askOver (before.modBay _ rfl rfl rfl))) (fun _ => rfl) fun _ => rfl)
  refine State.tableAgrees_of_askOver h (s.takeTrip_acts b mode) ended ?_ ?_ ?_ ?_ (.inl ?_) (.inr ?_) <;> rw [e]
  · exact Bay.supplyAgrees_off (.inr rfl) rfl ⟨rfl, rfl, rfl⟩ rfl rfl rfl on.present on.cycleTimer
  · simp
  · by_cases ha : (s.bay b).state = .asking
    · simp only [ha, if_true]; exact ⟨rfl, rfl, rfl⟩
    · obtain ⟨_, hout, htimer⟩ := (h.bay b).quiet ha
      simp only [ha, if_false]; exact ⟨rfl, hout, htimer⟩
  · simp
  · exact ⟨rfl, rfl⟩

theorem eventTrip_agrees (h : s.tableAgrees) (milliamps : Nat) : (eventTrip b milliamps s).tableAgrees := by
  unfold eventTrip
  split
  · exact h
  · rename_i m hm
    split
    · exact State.takeTrip_agrees h ((h.bay b).supply.supplyOn_of_mode hm) m
    · exact h

/-- The record of a bay after a sag (R50). -/
theorem State.takeSag_bay (s : State) (b : BayNo) (mode : OnMode) : ∃ r w, (s.takeSag b mode).bay b = { s.bay b with
    state := .waking
    supply := { (s.bay b).supply with detector := .low, sags := satInc (s.bay b).supply.sags }
    link := { (if (s.bay b).state = .asking then (s.bay b).link.cut.endAsk else (s.bay b).link.cut) with
      wakeTimer := some (expiryAfter s.clock (s.wakeTimeout.toNat * 1000)) }
    window := w
    ring := r } := by
  obtain ⟨r, w, e⟩ := (((s.modBay b (fun x =>
    x.modSupply (fun p => { p with detector := .low, sags := satInc p.sags }))).writeRecord b .supply
      (supplyFields .sag mode)).modBay b (fun x => x.modLink Link.cut)).loseAsk_bay_parts b
  refine ⟨r, w, ?_⟩
  simp only [State.takeSag, State.startWake_bay, if_true, e]
  by_cases ha : (s.bay b).state = .asking <;> simp [ha, Bay.modLink, Bay.modSupply, Link.cut, Link.endAsk]

theorem State.takeSag_agrees (h : s.tableAgrees) (hon : (s.bay b).state.supplyOff = false) (mode : OnMode) :
    (s.takeSag b mode).tableAgrees := by
  obtain ⟨r, w, e⟩ := s.takeSag_bay b mode
  have on := (h.bay b).supply.on hon
  have before := ((h.exchangeAt b).modBay (fun x => x.modSupply (fun p =>
    { p with detector := .low, sags := satInc p.sags })) rfl rfl rfl).writeRecord .supply (supplyFields .sag mode)
  have ended : (s.takeSag b mode).AskOver b :=
    .startWake (State.ExchangeAt.askOver (before.modBay _ rfl rfl rfl))
  have hkept : ∀ l : Link, (if (s.bay b).state = .asking then l.endAsk else l).receiver = l.receiver ∧
      (if (s.bay b).state = .asking then l.endAsk else l).transmitter = l.transmitter := fun l => by
    split <;> exact ⟨rfl, rfl⟩
  refine State.tableAgrees_of_askOver h (s.takeSag_acts b mode) ended ?_ ?_ ?_ ?_ (.inr ⟨?_, ?_⟩) (.inr ?_) <;> rw [e]
  · refine Bay.SupplyOn.agrees ⟨on.mode, on.comparator, by simp, ?_, ?_, on.present, on.cycleTimer⟩ rfl (by simp)
    · simp [(hkept _).1, Link.cut]
    · simp [(hkept _).2, Link.cut]
  · simp
  · obtain ⟨hp, ho, ht⟩ := Link.quiet_endAsk_ite (l := (s.bay b).link.cut) (h.bay b).quiet
    exact ⟨hp, ho, ht⟩
  · simp
  · rfl
  · exact ⟨rfl, rfl⟩

theorem eventSag_agrees (h : s.tableAgrees) : (eventSag b s).tableAgrees := by
  unfold eventSag
  split
  · exact h
  · rename_i m hm
    split
    · exact State.takeSag_agrees h ((h.bay b).supply.supplyOn_of_mode hm) m
    · exact h

theorem eventRailRiseClear_agrees (h : s.tableAgrees) : (eventRailRiseClear b s).tableAgrees := by
  unfold eventRailRiseClear
  split
  · rename_i hlow
    exact h.modBay b _ ((h.bay b).congr rfl rfl ⟨rfl, rfl, by simp [Bay.modSupply, hlow], rfl⟩ (.refl _) rfl id) ⟨rfl, rfl⟩ rfl
      (.inr ⟨rfl, rfl⟩)
  · exact h

/-! ### Power cycling (R52 to R54) -/

/-- The record of a bay after CYCLE_BAY (R53). -/
theorem State.cycle_bay (s : State) (b : BayNo) (off : Nat) (saved mode : OnMode) :
    ∃ r w, (s.cycle b off saved mode).bay b = { s.bay b with
      state := .cycling
      supply := { (s.bay b).supply with
        mode := .off, comparator := .idle, detector := .idle
        saved := saved, cycleTimer := some (expiryAfter s.clock (off * 1000)) }
      link := { (s.bay b).link.disable with
        wakeTimer := none
        answerTimer := if (s.bay b).state = .asking then none else (s.bay b).link.answerTimer
        outstanding := if (s.bay b).state = .asking then none else (s.bay b).link.outstanding }
      window := w
      ring := r } := by
  obtain ⟨r, w, e⟩ := (((s.modBay b (fun x => x.switchOff.modSupply (fun p =>
    { p with saved := saved, cycleTimer := some (expiryAfter s.clock (off * 1000)) }))).writeRecord b .supply
      (supplyFields .cycleOff mode)).modBay b Bay.stopWake).loseAsk_bay_parts b
  refine ⟨r, w, ?_⟩
  simp only [State.cycle, State.bay_modBay, if_true, e, State.writeRecord_bay]
  by_cases ha : (s.bay b).state = .asking <;>
    simp [ha, Bay.stopWake, Bay.switchOff, Bay.modLink, Bay.modSupply, Link.disable, Link.endAsk]

theorem State.cycle_agrees (h : s.tableAgrees) (hon : (s.bay b).state.supplyOff = false) (off : Nat)
    (saved mode : OnMode) : (s.cycle b off saved mode).tableAgrees := by
  obtain ⟨r, w, e⟩ := s.cycle_bay b off saved mode
  have on := (h.bay b).supply.on hon
  have before := ((h.exchangeAt b).modBay (fun x => x.switchOff.modSupply (fun p =>
    { p with saved := saved, cycleTimer := some (expiryAfter s.clock (off * 1000)) })) rfl rfl rfl).writeRecord .supply
    (supplyFields .cycleOff mode)
  have ended : (s.cycle b off saved mode).AskOver b := by
    unfold State.cycle
    exact .modBay (State.ExchangeAt.askOver (before.modBay _ rfl rfl rfl)) (fun _ => rfl) fun _ => rfl
  refine State.tableAgrees_of_askOver h (s.cycle_acts b off saved mode) ended ?_ ?_ ?_ ?_ (.inr ⟨?_, ?_⟩) (.inr ?_) <;>
    rw [e]
  · exact Bay.supplyAgrees_of_off ⟨rfl, rfl, rfl⟩ rfl rfl rfl rfl (by simp [on.present]) (by simp)
  · simp
  · by_cases ha : (s.bay b).state = .asking
    · simp only [ha, if_true]; exact ⟨rfl, rfl, rfl⟩
    · obtain ⟨_, hout, htimer⟩ := (h.bay b).quiet ha
      simp only [ha, if_false]; exact ⟨rfl, hout, htimer⟩
  · simp
  · rfl
  · exact ⟨rfl, rfl⟩

theorem requestCycleBay_agrees (h : s.tableAgrees) (bay : Byte) (offMs : BitVec 16) (restore : Option Byte) :
    (requestCycleBay bay offMs restore s).tableAgrees := by
  have cycled : ∀ {b : BayNo} {m : OnMode} (saved : OnMode), (s.bay b).supply.mode = .on m → ∀ off c st body,
      ((s.cycle b off saved m).answer c st body).tableAgrees := fun saved hm _ _ _ _ =>
    (State.cycle_agrees h ((h.bay _).supply.supplyOn_of_mode hm) _ saved _).answer _ _ _
  unfold requestCycleBay
  split
  · split
    · exact h.answer _ _ _
    · rename_i hm; exact cycled _ hm _ _ _ _
    · rename_i hm; exact cycled _ hm _ _ _ _
    · rename_i hm; exact cycled _ hm _ _ _ _
    · rename_i hm; exact cycled _ hm _ _ _ _
    · exact h.answer _ _ _
  · exact h.answer _ _ _

/-- The record of a bay after the end of its cycle (R54). -/
theorem State.restoreSupply_bay (s : State) (b : BayNo) : (s.restoreSupply b).bay b =
    { (s.bay b).switchOn (s.bay b).supply.saved with
      state := .waking
      link := { ((s.bay b).switchOn (s.bay b).supply.saved).link with
        wakeTimer := some (expiryAfter s.clock (s.wakeTimeout.toNat * 1000)) }
      ring := (s.bay b).ring.afterWrite } := by
  simp [State.restoreSupply, Bay.switchOn, Bay.modLink, Bay.modSupply]

theorem State.restoreSupply_askOver (h : s.AskOver b) : (s.restoreSupply b).AskOver b :=
  .startWake (.writeRecord (.modBay h (fun _ => rfl) fun _ => rfl))

theorem eventCycleTimerExpiry_of_cycling (hs : (s.bay b).state = .cycling)
    (hran : ranOut (s.bay b).supply.cycleTimer s.clock) : eventCycleTimerExpiry b s =
      (s.modBay b (fun x => x.modSupply (fun p => { p with cycleTimer := none }))).restoreSupply b := by
  unfold eventCycleTimerExpiry
  simp only [hran, hs, if_true]

theorem eventCycleTimerExpiry_agrees (h : s.tableAgrees) : (eventCycleTimerExpiry b s).tableAgrees := by
  have acts := eventCycleTimerExpiry_acts s b
  by_cases hran : ranOut (s.bay b).supply.cycleTimer s.clock
  · have hs := (h.bay b).supply.cycleTimer.1 (ranOut_isSome hran)
    rw [eventCycleTimerExpiry_of_cycling hs hran] at acts ⊢
    have stopped := (h.askOver (b := b) (by simp [hs])).modBay
      (f := fun x => x.modSupply (fun p => { p with cycleTimer := none })) (fun _ => rfl) fun _ => rfl
    refine State.switchOn_startWake_agrees h acts (State.restoreSupply_askOver stopped) (s.bay b).supply.saved (.inr hs)
      (r := (s.bay b).ring.afterWrite) (expiry := expiryAfter s.clock (s.wakeTimeout.toNat * 1000)) ?_
    rw [State.restoreSupply_bay]
    simp [Bay.switchOn, Bay.modLink, Bay.modSupply]
  · unfold eventCycleTimerExpiry
    rw [if_neg hran]
    exact h

end Sys2Proof.Machine
end

section
/-! SUPPORT. The commands of the bay link keep the tables in agreement (chapter 2). -/

namespace Sys2Proof.Machine

variable {s : State} {b : BayNo}

/-! ### Reception (R23 to R27) -/

theorem Link.receive_sameExchange (l : Link) (byte : Byte) (clock : Time) : (l.receive byte clock).SameExchange l := by
  have moved : ∀ r gap, r ≠ .disabled → l.receiver ≠ .disabled →
      ({ l with receiver := r, gap := gap } : Link).SameExchange l := fun r gap hr hl =>
    ⟨by simp [hr, hl], .rfl, rfl, rfl, rfl, id, rfl⟩
  have same := Link.SameExchange.refl l
  unfold Link.receive
  split
  case h_1 => exact same
  case h_2 hl =>
    split
    · exact moved _ _ (by simp) (by simp [hl])
    · exact same
  case h_3 hl =>
    split
    · exact moved _ _ (by simp) (by simp [hl])
    · split
      · exact ⟨.rfl, .rfl, rfl, rfl, rfl, id, rfl⟩
      · exact moved _ _ (by simp) (by simp [hl])
  case h_4 hl =>
    split
    · exact same
    · exact moved _ _ (by simp) (by simp [hl])

theorem eventBaySyncReceived_agrees (h : s.tableAgrees) (byte : Byte) : (eventBaySyncReceived b byte s).tableAgrees :=
  h.modLink b _ (Link.receive_sameExchange _ _ _)

theorem Link.characterFault_sameExchange (l : Link) : l.characterFault.SameExchange l := by
  unfold Link.characterFault
  split
  case h_1 hl => exact Link.discard_sameExchange (by simp [hl])
  case h_2 hl => exact Link.hunt_sameExchange (by simp [hl])
  all_goals exact .refl l

theorem eventBayCharacterFault_agrees (h : s.tableAgrees) : (eventBayCharacterFault b s).tableAgrees :=
  h.modLink b _ (Link.characterFault_sameExchange _)

/-- A frame is discarded only at a receiver that is enabled. -/
theorem State.discard_agrees (h : s.tableAgrees) {p : Prop} [Decidable p] (hp : p → (s.bay b).link.receiver ≠ .disabled) :
    (if p then s.modBay b (fun x => x.modLink Link.discard) else s).tableAgrees := by
  split
  · rename_i hdiscard
    exact h.modLink b _ (Link.discard_sameExchange (hp hdiscard))
  · exact h

theorem eventBayFrameRejected_agrees (h : s.tableAgrees) (f : BayFrame) : (eventBayFrameRejected b f s).tableAgrees := by
  refine State.discard_agrees h fun hp => ?_
  rw [Bool.and_eq_true] at hp
  obtain ⟨got, hr⟩ := Link.receiver_of_frameEnds hp.1
  simp [hr]

theorem eventBayFrameLengthDiscard_agrees (h : s.tableAgrees) (kind tag length : Byte) :
    (eventBayFrameLengthDiscard b kind tag length s).tableAgrees := by
  refine State.discard_agrees h fun hp => ?_
  rw [Bool.and_eq_true] at hp
  obtain ⟨got, hr⟩ := Link.receiver_of_fits hp.1
  simp [hr]

theorem eventBayFrameGapExpiry_agrees (h : s.tableAgrees) : (eventBayFrameGapExpiry b s).tableAgrees := by
  refine State.discard_agrees h fun hp hr => ?_
  simp [Link.assembling, hr] at hp

theorem eventSyncGapExpiry_agrees (h : s.tableAgrees) : (eventSyncGapExpiry b s).tableAgrees := by
  unfold eventSyncGapExpiry
  split
  · rename_i hsync
    exact h.modLink b _ (Link.hunt_sameExchange (by simp [hsync.1]))
  · exact h

/-! ### Tunnels (R36 to R39) -/

theorem State.tableAgrees.tunnelInRises (h : s.tableAgrees) (b : BayNo) : (s.tunnelInRises b).tableAgrees :=
  State.tableAgrees_congr h rfl rfl rfl rfl

theorem State.tableAgrees.tunnelInFalls (h : s.tableAgrees) (b : BayNo) : (s.tunnelInFalls b).tableAgrees :=
  State.tableAgrees_congr h rfl rfl rfl rfl

theorem State.tunnelArrives_agrees (h : s.tableAgrees) (block : List Byte) : (s.tunnelArrives b block).tableAgrees := by
  unfold State.tunnelArrives
  split
  · exact .tunnelInRises (h.modLink b _ ⟨.rfl, .rfl, rfl, rfl, rfl, id, rfl⟩) b
  · exact h.modLink b _ ⟨.rfl, .rfl, rfl, rfl, rfl, id, rfl⟩

theorem eventTunnelInAccepted_agrees (h : s.tableAgrees) (f : BayFrame) : (eventTunnelInAccepted b f s).tableAgrees := by
  unfold eventTunnelInAccepted
  split
  · rename_i hacc
    obtain ⟨got, hr⟩ := Link.receiver_of_accepts hacc
    exact State.tunnelArrives_agrees (State.huntAgain_agrees h (by simp [hr])) _
  · exact h

theorem eventTunnelOutSent_agrees (h : s.tableAgrees) : (eventTunnelOutSent b s).tableAgrees := by
  unfold eventTunnelOutSent
  split
  · rename_i hsending
    exact .beginFrame (h.modLink b _ ⟨.rfl, by simp [Link.frameLeft, hsending], rfl, rfl, rfl, id, rfl⟩) b
  · exact h

theorem requestSetLineRate_agrees (h : s.tableAgrees) (bay rate : Byte) :
    (requestSetLineRate bay rate s).tableAgrees := by
  unfold requestSetLineRate
  split
  · split
    · exact (h.modLink _ _ ⟨.rfl, .rfl, rfl, rfl, rfl, id, rfl⟩).answer _ _ _
    · exact h.answer _ _ _
  · exact h.answer _ _ _

theorem requestPutTunnel_agrees (h : s.tableAgrees) (bay : Byte) (block : List Byte) :
    (requestPutTunnel bay block s).tableAgrees := by
  unfold requestPutTunnel
  repeat' split
  case isFalse => exact ((h.modLink _ _ ⟨.rfl, .rfl, rfl, rfl, rfl, id, rfl⟩).beginFrame _).answer _ _ _
  all_goals exact h.answer _ _ _

theorem requestGetTunnel_agrees (h : s.tableAgrees) (bay : Byte) : (requestGetTunnel bay s).tableAgrees := by
  unfold requestGetTunnel
  split
  · exact h.answer _ _ _
  · exact ((h.modLink _ _ ⟨.rfl, .rfl, rfl, rfl, rfl, id, rfl⟩).tunnelInFalls _).answer _ _ _

/-! ### Dispatch (R69, R70) -/

theorem nextAskTag_ne_zero (tag : Byte) : nextAskTag tag ≠ 0 := by
  unfold nextAskTag
  split
  · decide
  · bv_omega

theorem State.dispatched_agrees (h : s.tableAgrees) {i : GatherNo} {rest : List GatherNo}
    (hs : (s.bay b).state = .ready) (hqueue : (s.bay b).queue = i :: rest) : (s.dispatched b i rest).tableAgrees := by
  have x := h.bay b
  have hiq : ((s.gather i).slot b).stage = .queued := (x.queued i).1 (by simp [hqueue])
  have on := x.supply.on (by simp [hs, BayState.supplyOff])
  have hwake := x.wakeTimer_none (by simp [hs])
  obtain ⟨_, _, htimer⟩ := x.quiet (by simp [hs])
  have hwindow := x.window_closed (by simp [hs])
  have hunsent : ∀ j, ((s.gather j).slot b).stage ≠ .sent := (h.exchangeAt b).ask.not_sent (by simp [hs])
  have hnodup : i ∉ rest ∧ rest.Nodup := by rw [← List.nodup_cons, ← hqueue]; exact x.nodup
  have hin : ∀ j, j = i ∨ j ∈ rest ↔ ((s.gather j).slot b).stage = .queued := fun j => by
    rw [← List.mem_cons, ← hqueue]
    exact x.queued j
  have hlen : rest.length + 1 ≤ 8 := by have := x.short; rwa [hqueue] at this
  have hslot : ∀ j, (s.dispatched b i rest).slotsOf b j =
      if j = i then { (s.gather i).slot b with stage := .sent, tag := some (s.bay b).link.nextTag }
      else (s.gather j).slot b := fun j => by
    simp only [State.slotsOf, State.dispatched, State.modBay_gather, State.gather_modGather]
    by_cases hj : i = j
    · subst hj
      rw [if_pos rfl, if_pos rfl]
      exact ((s.gather i).slot_setSlot b b _).trans (if_pos rfl)
    · simp [hj, Ne.symm hj]
  have hstage : ∀ j, ((s.dispatched b i rest).slotsOf b j).stage = .sent ↔ j = i := fun j => by
    rw [hslot]
    split
    · simpa
    · rename_i hj; simp [hj, hunsent j]
  refine State.tableAgrees_of_onlyAt h (s.dispatched_acts b i rest hiq).only
    ((s.dispatched_acts b i rest hiq).gathers h.gathers) ?_ ?_ (.inr ?_) <;>
    simp only [State.dispatched, State.bay_modBay, if_true, State.modBay_converter, State.modGather_converter,
      State.modGather_bay]
  · refine ⟨Bay.SupplyOn.agrees ⟨on.mode, on.comparator, on.detector, on.receiver, on.transmitter, on.present,
      on.cycleTimer⟩ rfl (by simp [hwake]), ⟨by simp, by simp, by simp [htimer], by simp [htimer],
      fun _ => nextAskTag_ne_zero _, ?_⟩, .inl rfl, ?_, hnodup.2, fun j => ?_, ?_, ?_, fun j hj => ?_, ?_⟩
    · simpa using x.ask.nextTag (.inl hs)
    · exact Nat.le_of_succ_le hlen
    · show j ∈ rest ↔ ((s.dispatched b i rest).slotsOf b j).stage = .queued
      rw [hslot]
      split
      · rename_i hj; subst hj; simp [hnodup.1]
      · rename_i hj; rw [← hin j]; simp [hj]
    · simpa using ⟨i, (hstage i).2 rfl⟩
    · exact fun j k hj hk => ((hstage j).1 hj).trans ((hstage k).1 hk).symm
    · have hji := (hstage j).1 hj
      show ((s.dispatched b i rest).slotsOf b j).tag = _
      rw [hslot, if_pos hji]
    · simp [hwindow, Window.isOpen]
  · simpa [hwindow, Window.isOpen] using (h.column b).tie
  · exact ⟨trivial, trivial⟩

theorem eventDispatch_agrees (h : s.tableAgrees) : (eventDispatch b s).tableAgrees := by
  unfold eventDispatch
  split
  · rename_i hmay
    split
    · exact h
    · rename_i i rest hqueue
      have hs : (s.bay b).state = .ready := by
        simp only [State.mayDispatch, Bool.and_eq_true, beq_iff_eq] at hmay
        exact hmay.1.1
      have hiq : ((s.gather i).slot b).stage = .queued := ((h.bay b).queued i).1 (by simp [hqueue])
      rw [if_pos hiq, State.dispatchHead_eq]
      exact (State.dispatched_agrees h hs hqueue).beginFrame b
  · exact h

/-! ### Sending (R30, R71) -/

/-- Of its slots a bay's agreement rests on stages and tags alone. -/
theorem Bay.Agrees.congr_slots {x : Bay} {slots slots' : GatherNo → Slot} (h : x.Agrees slots)
    (hs : ∀ i, (slots' i).stage = (slots i).stage ∧ (slots' i).tag = (slots i).tag) : x.Agrees slots' := by
  have stage := fun i => (hs i).1
  have tag := fun i => (hs i).2
  exact ⟨h.supply, h.ask, h.available, h.short, h.nodup, by simpa only [stage] using h.queued,
    by simpa only [stage] using h.asking, by simpa only [stage] using h.unique,
    by simpa only [stage, tag] using h.sentTag, h.window⟩

theorem State.recordSend_slot (s : State) (b : BayNo) (i j : GatherNo) :
    ((s.recordSend b i).slotsOf b j).stage = (s.slotsOf b j).stage ∧
      ((s.recordSend b i).slotsOf b j).tag = (s.slotsOf b j).tag := by
  have read : (s.recordSend b i).slotsOf b j = if i = j then
      { (s.gather i).slot b with sendTime := some s.clock } else (s.gather j).slot b := by
    have timed : ((s.modGather i (fun g => g.sentAt b s.clock)).gather j).slot b = if i = j then
        { (s.gather i).slot b with sendTime := some s.clock } else (s.gather j).slot b := by
      rw [State.gather_modGather]
      split
      · exact ((s.gather i).sentAt_slot b b _).trans (if_pos rfl)
      · rfl
    rw [State.recordSend_eq]
    split
    · simpa [State.slotsOf, State.gather_eq_get] using timed
    · exact timed
  rw [read]
  split
  · rename_i hij; subst hij; exact ⟨rfl, rfl⟩
  · exact ⟨rfl, rfl⟩

theorem State.recordSend_bay (s : State) (b : BayNo) (i : GatherNo) : ∃ w, (s.recordSend b i).bay b =
    { s.bay b with window := w } := by
  rw [State.recordSend_eq]
  split
  · exact ⟨.opened .cleared, by simp⟩
  · exact ⟨(s.bay b).window, rfl⟩

/-- A conversion is tied to the bay by this only when its window is open. -/
theorem State.recordSend_tie (s : State) (b : BayNo) (i : GatherNo)
    (ht : (s.recordSend b i).converter.tiedTo = some b) :
    ((s.recordSend b i).bay b).window.isOpen ∨ s.converter.tiedTo = some b ∧
      ((s.recordSend b i).bay b).window = (s.bay b).window := by
  rw [State.recordSend_eq] at ht ⊢
  split
  · exact .inl (by simp [Window.isOpen])
  · rename_i hm
    rw [if_neg hm] at ht
    exact .inr ⟨ht, rfl⟩

/-- A bay whose ask has just left awaits its answer. -/
theorem Bay.Agrees.startAnswerTimer {x : Bay} {slots : GatherNo → Slot} (h : x.Agrees slots)
    (hs : x.state = .asking) (hp : x.link.pendingAsk = none) (expiry : Time) (w : Window) :
    ({ x.modLink (fun l => { l with answerTimer := some expiry }) with window := w } : Bay).Agrees slots :=
  ⟨⟨h.supply.mode, h.supply.comparator, h.supply.detector, h.supply.receiver, h.supply.transmitter, h.supply.present,
      h.supply.cycleTimer, h.supply.wakeTimer⟩,
    ⟨h.ask.outstanding, h.ask.pending, fun _ => hs, by simp [Bay.modLink, hp], h.ask.nextTag, h.ask.tag⟩,
    h.available, h.short, h.nodup, h.queued, h.asking, h.unique, h.sentTag, fun _ => ⟨hs, rfl⟩⟩

theorem State.askLeft_agrees (h : s.tableAgrees) (hs : (s.bay b).sendsOutstanding) : (s.askLeft b).tableAgrees := by
  simp only [Bay.sendsOutstanding, Bool.and_eq_true, beq_iff_eq, Option.isNone_iff_eq_none] at hs
  obtain ⟨⟨hasking, hpending⟩, _⟩ := hs
  have acts := s.askLeft_acts b
  obtain ⟨i, hi, _⟩ := (h.exchangeAt b).ask.exists_sent hasking
  unfold State.askLeft at acts ⊢
  simp only [hi] at acts ⊢
  generalize hu : s.modBay b (fun x => x.modLink (fun l =>
    { l with answerTimer := some (expiryAfter s.clock ((s.gather i).timeoutMs.toNat * 1000)) })) = u at acts ⊢
  have hbay : u.bay b = (s.bay b).modLink (fun l =>
      { l with answerTimer := some (expiryAfter s.clock ((s.gather i).timeoutMs.toNat * 1000)) }) := by
    rw [← hu, State.bay_modBay, if_pos rfl]
  have hslots : u.slotsOf b = s.slotsOf b := by rw [← hu]; rfl
  obtain ⟨w, e⟩ := u.recordSend_bay b i
  refine State.tableAgrees_of_onlyAt h acts.only (acts.gathers h.gathers) ?_ (fun ht => ?_) (.inr ?_)
  · rw [e, hbay]
    exact ((h.bay b).startAnswerTimer hasking hpending _ w).congr_slots fun j => by
      rw [← hslots]; exact u.recordSend_slot b i j
  · rcases u.recordSend_tie b i ht with ho | ⟨htie, hw⟩
    · exact ho
    · rw [hw, hbay]
      exact (h.column b).tie (by rw [← hu] at htie; exact htie)
  · rw [e, hbay]
    exact ⟨rfl, rfl⟩

theorem eventAskSent_agrees (h : s.tableAgrees) : (eventAskSent b s).tableAgrees := by
  unfold eventAskSent
  split
  · rename_i hsending
    have left : (s.modBay b (fun x => x.modLink Link.frameLeft)).tableAgrees :=
      h.modLink b _ ⟨.rfl, by simp [Link.frameLeft, hsending], rfl, rfl, rfl, id, rfl⟩
    dsimp only
    split
    · rename_i hout
      exact .beginFrame (State.askLeft_agrees left (by rwa [State.bay_modBay, if_pos rfl])) b
    · exact .beginFrame left b
  · exact h

/-! ### The end of an ask (R31 to R34, R77 to R79) -/

/-- The completion of the SENT slot of a bay ends its ask. -/
theorem State.completeEvaluated_askOver (h : s.ExchangeAt b) {i : GatherNo} (hi : ((s.gather i).slot b).stage = .sent)
    (e : Ending) (a : Option Answer) : (s.completeEvaluated b i e a).AskOver b := by
  have hopen : ((s.gather i).slot b).endable := (Slot.endable_iff _).2 (.inr hi)
  have hslot : ∀ j, ((s.completeEvaluated b i e a).gather j).slot b =
      if i = j then s.slotJudged b i e a else (s.gather j).slot b := fun j => by
    simp [State.completeEvaluated_slot, hopen]
  have hqueue : ((s.completeEvaluated b i e a).bay b).queue = (s.bay b).queue := by rw [State.completeEvaluated_bay]
  refine ⟨fun j => ?_, ⟨by rw [hqueue]; exact h.queue.nodup, fun j => ?_⟩, ?_, ?_⟩
  · rw [hslot]
    split
    · simp
    · rename_i hj; exact fun hsent => hj (h.ask.unique i j hi hsent)
  · rw [hqueue, h.queue.queued j, hslot]
    split
    · rename_i hj; subst hj; simp [hi]
    · rfl
  · rw [State.completeEvaluated_window, if_pos hi]
  · rw [State.completeEvaluated_converter, if_pos hi]; exact Converter.untie_tiedTo _ _

/-- An ASKING bay without its ask goes on to READY, BENCHED or WAKING. -/
theorem State.tableAgrees_of_ended_ask {t : State} (h : s.tableAgrees) (hs : (s.bay b).state = .asking)
    (ha : s.ActsAt b t) (hover : t.AskOver b) {st : BayState} {q : List GatherNo} {wake : Option Time} {r : Ring}
    {w : Window} (hst : st = .ready ∨ st = .benched ∨ st = .waking) (hwake : wake.isSome = true ↔ st = .waking)
    (hq : q = [] ∨ st.available = true ∧ q = (s.bay b).queue)
    (e : t.bay b = { s.bay b with
      state := st, queue := q, link := { (s.bay b).link.endAsk with wakeTimer := wake }, ring := r, window := w }) :
    t.tableAgrees := by
  have on := (h.bay b).supply.on (by simp [hs, BayState.supplyOff])
  have hoff : st.supplyOff = false := by rcases hst with hst | hst | hst <;> rw [hst] <;> rfl
  have hne : st ≠ .asking := by rcases hst with hst | hst | hst <;> simp [hst]
  refine State.tableAgrees_of_askOver h ha hover ?_ ?_ ?_ ?_ ?_ (.inr ?_) <;> rw [e]
  · exact Bay.SupplyOn.agrees ⟨on.mode, on.comparator, on.detector, on.receiver, on.transmitter, on.present,
      on.cycleTimer⟩ hoff hwake
  · exact hne
  · exact ⟨rfl, rfl, rfl⟩
  · exact fun _ => (h.bay b).ask.nextTag (.inr (.inl hs))
  · exact hq
  · exact ⟨rfl, rfl⟩

theorem State.endAsk_of_asking {i : GatherNo} (hi : s.sentGather b = some i) (e : Ending) (a : Option Answer) :
    s.endAsk b e a = ((s.modBay b (fun x => x.modLink Link.endAsk)).completeEvaluated b i e a).followAsk b i := by
  unfold State.endAsk
  rw [hi]

theorem State.endAsk_agrees (h : s.tableAgrees) (hs : (s.bay b).state = .asking) {e : Ending} (he : e.evaluated)
    {a : Option Answer} (ha : payloadFits a) : (s.endAsk b e a).tableAgrees := by
  have acts := s.endAsk_acts b he ha
  obtain ⟨i, hi, hsent⟩ := (h.exchangeAt b).ask.exists_sent hs
  have hwake := (h.bay b).wakeTimer_none (by simp [hs])
  rw [State.endAsk_of_asking hi] at acts ⊢
  have ended := State.completeEvaluated_askOver ((h.exchangeAt b).modBay (fun x => x.modLink Link.endAsk) rfl rfl rfl)
    hsent e a
  have hbay := (s.modBay b (fun x => x.modLink Link.endAsk)).completeEvaluated_bay b i e a
  generalize (s.modBay b (fun x => x.modLink Link.endAsk)).completeEvaluated b i e a = u at acts ended hbay ⊢
  simp only [State.bay_modBay, if_true] at hbay
  unfold State.followAsk at acts ⊢
  dsimp only at acts ⊢
  split at acts <;> rename_i hbench
  · rw [if_pos hbench]
    refine State.tableAgrees_of_ended_ask h hs acts (.dropQueue (.modBay ended (fun _ => rfl) fun _ => rfl) rfl)
      (st := .benched) (wake := none) (.inr (.inl rfl)) (by simp) (.inl rfl) (r := (u.bay b).ring) (w := (u.bay b).window) ?_
    simp only [State.dropQueue_bay, State.bay_modBay, if_true]
    rw [hbay, ← hwake]
    rfl
  · rw [if_neg hbench]
    split at acts <;> rename_i hrestart
    · rw [if_pos hrestart]
      refine State.tableAgrees_of_ended_ask h hs acts (.startWake ended) (st := .waking)
        (wake := some (expiryAfter u.clock (u.wakeTimeout.toNat * 1000))) (.inr (.inr rfl)) (by simp)
        (.inr ⟨rfl, rfl⟩) (r := (u.bay b).ring) (w := (u.bay b).window) ?_
      rw [State.startWake_bay, if_pos rfl, hbay]
      rfl
    · rw [if_neg hrestart]
      refine State.tableAgrees_of_ended_ask h hs acts (.modBay ended (fun _ => rfl) fun _ => rfl) (st := .ready)
        (wake := none) (.inl rfl) (by simp) (.inr ⟨rfl, rfl⟩) (r := (u.bay b).ring) (w := (u.bay b).window) ?_
      rw [State.bay_modBay, if_pos rfl, hbay, ← hwake]
      rfl

theorem eventAnswerAccepted_agrees (h : s.tableAgrees) (f : BayFrame) : (eventAnswerAccepted b f s).tableAgrees := by
  unfold eventAnswerAccepted
  split
  · rename_i hacc
    obtain ⟨got, hr⟩ := Link.receiver_of_accepts hacc
    have hunting : (s.huntAgain b).tableAgrees := State.huntAgain_agrees h (by simp [hr])
    split
    · exact h
    · rename_i a ha
      split
      · rename_i hcredits
        simp only [Bay.credits, Bool.and_eq_true, beq_iff_eq] at hcredits
        exact State.endAsk_agrees hunting (by simpa [State.huntAgain] using hcredits.1.1) rfl (payloadFits_readAnswer ha)
      · exact hunting.modLink b _ ⟨.rfl, .rfl, rfl, rfl, rfl, id, rfl⟩
  · exact h

theorem eventAnswerTimerExpiry_agrees (h : s.tableAgrees) : (eventAnswerTimerExpiry b s).tableAgrees := by
  unfold eventAnswerTimerExpiry
  split
  · rename_i hran
    have hs := (h.bay b).ask.timer (ranOut_isSome hran)
    rw [if_pos hs]
    exact State.endAsk_agrees h hs rfl payloadFits_none
  · exact h

end Sys2Proof.Machine
end

section
/-! SUPPORT. The requests about gathers keep the tables in agreement (chapter 4): arming, cancelling and releasing. -/

namespace Sys2Proof.Machine

variable {s : State} {b : BayNo}

/-- Something done for each element of a list keeps the agreement when each single one does. -/
theorem State.tableAgrees_foldl {α : Type} {f : State → α → State} (hf : ∀ t a, t.tableAgrees → (f t a).tableAgrees) :
    ∀ (l : List α) (t : State), t.tableAgrees → (l.foldl f t).tableAgrees
  | [], _, h => h
  | a :: l, t, h => State.tableAgrees_foldl hf l (f t a) (hf t a h)

/-- Of the slots of a bay its agreement rests on those QUEUED and SENT alone. -/
theorem Bay.Agrees.congr_open {x : Bay} {slots slots' : GatherNo → Slot} (h : x.Agrees slots)
    (hqueued : ∀ i, (slots' i).stage = .queued ↔ (slots i).stage = .queued)
    (hsent : ∀ i, (slots' i).stage = .sent ↔ (slots i).stage = .sent)
    (htag : ∀ i, (slots i).stage = .sent → (slots' i).tag = (slots i).tag) : x.Agrees slots' :=
  ⟨h.supply, h.ask, h.available, h.short, h.nodup, fun i => (h.queued i).trans (hqueued i).symm,
    h.asking.trans (exists_congr fun i => (hsent i).symm), fun i j hi hj => h.unique i j ((hsent i).1 hi) ((hsent j).1 hj),
    fun i hi => (htag i ((hsent i).1 hi)).trans (h.sentTag i ((hsent i).1 hi)), h.window⟩

/-- A change of the gather table alone keeps the agreement when it keeps the entries consistent and the open slots as
they are. -/
theorem State.tableAgrees_of_gathers {s t : State} (h : s.tableAgrees) (hb : t.bays = s.bays)
    (hc : t.converter = s.converter) (hs : t.startup = s.startup) (hg : t.gathersConsistent)
    (hslots : ∀ i b, ((t.gather i).slot b).stage = .queued ∨ ((t.gather i).slot b).stage = .sent ∨
      ((s.gather i).slot b).stage = .queued ∨ ((s.gather i).slot b).stage = .sent →
      (t.gather i).slot b = (s.gather i).slot b) : t.tableAgrees := by
  have hbay : ∀ b, t.bay b = s.bay b := fun b => by rw [State.bay_eq_get, hb]; rfl
  refine t.tableAgrees_iff.2 ⟨hg, fun b => ⟨?_, ?_, ?_⟩⟩
  · rw [hbay]
    refine (h.bay b).congr_open (fun i => ⟨fun hi => ?_, fun hi => ?_⟩) (fun i => ⟨fun hi => ?_, fun hi => ?_⟩) fun i hi => ?_ <;>
      simp only [State.slotsOf] at hi ⊢
    · rw [← hslots i b (.inl hi)]; exact hi
    · rw [hslots i b (.inr (.inr (.inl hi)))]; exact hi
    · rw [← hslots i b (.inr (.inl hi))]; exact hi
    · rw [hslots i b (.inr (.inr (.inr hi)))]; exact hi
    · rw [hslots i b (.inr (.inr (.inr hi)))]
  · rw [hbay, hc]; exact (h.column b).tie
  · rw [hbay, hs]; exact (h.column b).startup

/-- A flag of a gather is no part of its consistency. -/
theorem Gather.consistent_of_same {g k : Gather} (hst : k.state = g.state) (hb : k.bays = g.bays) (hs : k.slots = g.slots)
    (hm : k.summary = g.summary) (h : g.consistent ∧ g.summaryConsistent) : k.consistent ∧ k.summaryConsistent :=
  ⟨Gather.consistent_congr hst hb hs h.1,
    (Gather.summaryConsistent_iff _).2 (((Gather.summaryConsistent_iff _).1 h.2).congr hs hm)⟩

/-! ### Cancelling (R82) -/

theorem State.cancelSlot_agrees (h : s.tableAgrees) (i : GatherNo) (b : BayNo) : (s.cancelSlot i b).tableAgrees := by
  unfold State.cancelSlot
  split
  · rename_i hq
    have ends := (s.modBay b (fun x => { x with queue := x.queue.filter (· ≠ i) })).completeUnevaluated_ends b i
      (e := .cancelled) rfl
    have hopen : ((s.gather i).slot b).endable := (Slot.endable_iff _).2 (.inl hq)
    have x := h.bay b
    have hslot : ∀ j, ((((s.modBay b (fun x => { x with queue := x.queue.filter (· ≠ i) })).completeUnevaluated b i
        .cancelled).slotsOf b j).stage) = if i = j then .final else ((s.gather j).slot b).stage := fun j => by
      simp only [State.slotsOf, State.completeUnevaluated_slot _ _ _ _ _ (show Ending.cancelled.evaluated = false from rfl)]
      by_cases hj : i = j
      · subst hj; simp [hopen]
      · simp [hj]
    have hother : ∀ j, ((s.gather j).slot b).stage = .sent → i ≠ j := fun j hj hij => by simp [← hij, hq] at hj
    have htag : ∀ j, i ≠ j → ((s.modBay b (fun x => { x with queue := x.queue.filter (· ≠ i) })).completeUnevaluated b i
        .cancelled).slotsOf b j = (s.gather j).slot b := fun j hj => by
      simp only [State.slotsOf, State.completeUnevaluated_slot _ _ _ _ _ (show Ending.cancelled.evaluated = false from rfl)]
      simp [hj]
    have hsent : ∀ j, (((s.modBay b (fun x => { x with queue := x.queue.filter (· ≠ i) })).completeUnevaluated b i
        .cancelled).slotsOf b j).stage = .sent ↔ ((s.gather j).slot b).stage = .sent := fun j => by
      rw [hslot]
      split
      · rename_i hij; simp [← hij, hq]
      · rfl
    refine State.tableAgrees_of_onlyAt h (.trans (.modBay s b _ ⟨rfl, rfl⟩) ends.only)
      (ends.gathers (State.gathersConsistent_congr h.gathers rfl)) ?_ ?_ (.inr ?_)
    · rw [State.completeUnevaluated_bay, State.bay_modBay, if_pos rfl]
      refine ⟨⟨x.supply.mode, x.supply.comparator, x.supply.detector, x.supply.receiver, x.supply.transmitter,
        x.supply.present, x.supply.cycleTimer, x.supply.wakeTimer⟩,
        ⟨x.ask.outstanding, x.ask.pending, x.ask.timer, x.ask.apart, x.ask.nextTag, x.ask.tag⟩, ?_, ?_,
        x.nodup.filter _, fun j => ?_, ?_, ?_, ?_, x.window⟩
      · exact x.available.imp_right fun hnil => by simp [hnil]
      · exact (List.length_filter_le _ _).trans x.short
      · rw [hslot]
        have hj : j ∈ (s.bay b).queue ↔ ((s.gather j).slot b).stage = .queued := x.queued j
        by_cases hij : i = j
        · simp [hij]
        · simp [hij, hj, Ne.symm hij]
      · exact x.asking.trans (exists_congr fun j => (hsent j).symm)
      · exact fun j k hj hk => x.unique j k ((hsent j).1 hj) ((hsent k).1 hk)
      · intro j hj
        rw [htag j (hother j ((hsent j).1 hj))]
        exact x.sentTag j ((hsent j).1 hj)
    · simpa using (h.column b).tie
    · simp
  · exact h

theorem State.cancel_agrees (h : s.tableAgrees) (i : GatherNo) : (s.cancel i).tableAgrees := by
  refine State.tableAgrees_foldl (fun t b ht => State.cancelSlot_agrees ht i b) _ _ ?_
  have hslots : ∀ j b, (((s.modGather i (fun g => { g with cancelled := true })).gather j).slot b) =
      (s.gather j).slot b := fun j b => by
    rw [State.gather_modGather]
    split
    · rename_i hj; subst hj; rfl
    · rfl
  refine State.tableAgrees_of_gathers h rfl rfl rfl ?_ fun j b _ => hslots j b
  refine State.gathersConsistent_of_entry (i := i) h.gathers (fun j hj => by simp [Ne.symm hj]) ?_
  rw [State.gather_modGather, if_pos rfl]
  exact Gather.consistent_of_same rfl rfl rfl rfl (h.gathers i)

theorem requestCancelGather_agrees (h : s.tableAgrees) (index : Byte) (serial : BitVec 16) :
    (requestCancelGather index serial s).tableAgrees := by
  unfold requestCancelGather
  split
  · exact h.answer _ _ _
  · refine State.tableAgrees.answer ?_ _ _ _
    split
    · exact State.cancel_agrees h _
    · exact h

/-! ### Releasing (R88) -/

/-- The slots and counts of a FREE entry are blank (R57). -/
theorem Gather.free_slot (b : BayNo) : Gather.free.slot b = Slot.outside := by
  simp [Gather.slot_eq_get, Gather.free, Vector.get_eq_getElem]

theorem Gather.free_consistent : Gather.free.consistent ∧ Gather.free.summaryConsistent := by
  have hnone : ∀ p : Slot → Bool, p Slot.outside = false → countBays (fun b => p (Gather.free.slot b)) = 0 := fun p hp =>
    countBays_false fun b => by rw [Gather.free_slot, hp]
  refine ⟨(Gather.consistent_iff _).2 ⟨?_, fun b => ?_, fun _ => rfl⟩, (Gather.summaryConsistent_iff _).2 ?_⟩
  · rw [Gather.hasOpenSlot_iff]
    refine iff_of_false (by simp [Gather.free]) ?_
    simp [Gather.free_slot, Slot.endable, Slot.outside]
  · rw [Gather.free_slot]
    exact ⟨iff_of_true rfl (inSet_zero b), rfl⟩
  · refine ⟨(hnone (·.stage == .queued) rfl).symm, (hnone (·.stage == .sent) rfl).symm,
      fun e => (show _ = 0 by cases e <;> rfl).trans (hnone (·.ending == some e) rfl).symm, fun b => ?_, fun b => ?_,
      (hnone (·.verdict == .pass) rfl).symm, (hnone (·.verdict == .fail) rfl).symm⟩
    · rw [Gather.free_slot]; exact inSet_zero b
    · rw [Gather.free_slot]; exact inSet_zero b

/-- The entry of a DONE gather becomes FREE. -/
theorem State.freeGather_agrees (h : s.tableAgrees) {i : GatherNo} (hi : (s.gather i).state = .done) :
    (s.setGather i .free).tableAgrees := by
  refine State.tableAgrees_of_gathers h rfl rfl rfl ?_ fun j b hj => ?_
  · refine State.gathersConsistent_of_entry (i := i) h.gathers (fun j hj => by simp [Ne.symm hj]) ?_
    rw [State.gather_setGather, if_pos rfl]
    exact Gather.free_consistent
  · rw [State.gather_setGather] at hj ⊢
    split
    · rename_i hij
      subst hij
      obtain ⟨hq, hs⟩ := Gather.slot_closed_of_not_opened (h.gathers i).1 (by simp [hi]) b
      simp [Gather.free_slot, Slot.outside, hq, hs] at hj
    · rfl

theorem requestReleaseGather_agrees (h : s.tableAgrees) (index : Byte) (serial : BitVec 16) :
    (requestReleaseGather index serial s).tableAgrees := by
  unfold requestReleaseGather
  split
  · exact h.answer _ _ _
  · split
    · rename_i hdone
      exact State.tableAgrees.answer
        (State.tableAgrees_congr (State.freeGather_agrees h hdone) (by simp) (by simp) (by simp) (by simp)) _ _ _
    · exact h.answer _ _ _

/-! ### Arming (R65 to R68) -/

/-- The bay is of the set and takes queued slots (R67). -/
def State.joins (s : State) (bays : BaySet) (b : BayNo) : Bool := inSet bays b && (s.bay b).state.available

/-! A slot at arm is QUEUED where the bay joins, and otherwise closed without a verdict. -/

theorem armedSlot_queued (member available : Bool) :
    (armedSlot member available).stage = .queued ↔ (member && available) = true := by
  cases member <;> cases available <;> decide

theorem armedSlot_not_sent (member available : Bool) : (armedSlot member available).stage ≠ .sent := by
  cases member <;> cases available <;> decide

theorem armedSlot_outside (member available : Bool) :
    (armedSlot member available).stage = .outside ↔ member = false := by
  cases member <;> cases available <;> decide

theorem armedSlot_verdict (member available : Bool) : (armedSlot member available).verdict = .none := by
  cases member <;> cases available <;> rfl

theorem armedSlot_consistent (member available : Bool) : (armedSlot member available).consistent := by
  cases member <;> cases available <;> rfl

theorem armedSlot_ending (member available : Bool) (e : Ending) :
    ((armedSlot member available).ending == some e) = (decide (e = .skipped) && (member && !available)) := by
  cases member <;> cases available <;> cases e <;> rfl

theorem State.armedGather_slot (s : State) (bays : BaySet) (command : BitVec 16) (profile : ProfileNo)
    (failMask : Indicators) (timeoutMs : BitVec 16) (options : Byte) (args : List Byte) (b : BayNo) :
    (s.armedGather bays command profile failMask timeoutMs options args).slot b =
      armedSlot (inSet bays b) (s.bay b).state.available := by
  simp [State.armedGather, Gather.slot_eq_get, Vector.get_eq_getElem]

theorem State.armedGather_summaryAgrees (s : State) (bays : BaySet) (command : BitVec 16) (profile : ProfileNo)
    (failMask : Indicators) (timeoutMs : BitVec 16) (options : Byte) (args : List Byte) :
    (s.armedGather bays command profile failMask timeoutMs options args).SummaryAgrees := by
  have slot := s.armedGather_slot bays command profile failMask timeoutMs options args
  have verdict := fun b => (congrArg Slot.verdict (slot b)).trans (armedSlot_verdict _ _)
  refine ⟨?_, ?_, fun e => ?_, fun b => ?_, fun b => ?_, ?_, ?_⟩
  · refine countBays_congr (q := s.joins bays) fun b => ?_
    rw [slot, Bool.eq_iff_iff, beq_iff_eq, armedSlot_queued]
    rfl
  · exact (countBays_false fun b => by simp [slot, armedSlot_not_sent]).symm
  · rw [Gather.endingCount, countBays_congr fun b => by rw [slot, armedSlot_ending]]
    cases e
    case skipped => rfl
    all_goals exact (countBays_false fun b => by simp).symm
  · rw [verdict]; exact inSet_zero b
  · rw [verdict]; exact inSet_zero b
  · exact (countBays_false fun b => by rw [verdict]; rfl).symm
  · exact (countBays_false fun b => by rw [verdict]; rfl).symm

/-- The entry that an arm writes: OPEN when a slot is QUEUED and DONE otherwise (R67, R68). -/
def Gather.armedEntry (g : Gather) : Gather :=
  if g.hasOpenSlot then g else { g with state := .done, lastFinal := some g.armTime }

theorem Gather.armedEntry_slot (g : Gather) (b : BayNo) : g.armedEntry.slot b = g.slot b := by
  unfold Gather.armedEntry
  split <;> rfl

theorem State.armedEntry_consistent (s : State) (bays : BaySet) (command : BitVec 16) (profile : ProfileNo)
    (failMask : Indicators) (timeoutMs : BitVec 16) (options : Byte) (args : List Byte) :
    (s.armedGather bays command profile failMask timeoutMs options args).armedEntry.consistent ∧
    (s.armedGather bays command profile failMask timeoutMs options args).armedEntry.summaryConsistent := by
  have sum := s.armedGather_summaryAgrees bays command profile failMask timeoutMs options args
  have slots : ∀ b, (((s.armedGather bays command profile failMask timeoutMs options args).slot b).stage = .outside ↔
      inSet bays b = false) ∧ ((s.armedGather bays command profile failMask timeoutMs options args).slot b).consistent :=
    fun b => by
      rw [State.armedGather_slot]
      exact ⟨armedSlot_outside _ _, armedSlot_consistent _ _⟩
  unfold Gather.armedEntry
  split
  · rename_i ho
    exact ⟨(Gather.consistent_iff _).2 ⟨iff_of_true rfl ho, slots, fun hf => nomatch hf⟩, (Gather.summaryConsistent_iff _).2 sum⟩
  · rename_i ho
    exact ⟨(Gather.consistent_iff _).2 ⟨iff_of_false (by simp) ho, slots, fun hf => nomatch hf⟩,
      (Gather.summaryConsistent_iff _).2 (sum.congr rfl rfl)⟩

theorem State.enqueue_bay (s : State) (bays : BaySet) (i : GatherNo) (b : BayNo) : (s.enqueue bays i).bay b =
    if s.joins bays b then { s.bay b with queue := (s.bay b).queue ++ [i] } else s.bay b := by
  simp only [State.enqueue, State.joins, State.bay_eq_get, Vector.get_eq_getElem, Vector.getElem_mapFinIdx]
  rfl

/-- Arming changes the queues, the entry, and counts and a notice that the tables do not hold. -/
theorem State.arming_eq (s : State) (i : GatherNo) (g : Gather) :
    (s.arm i g).bays = (s.enqueue g.bays i).bays ∧ (s.arm i g).gathers = (s.setGather i g.armedEntry).gathers ∧
    (s.arm i g).converter = s.converter ∧ (s.arm i g).startup = s.startup := by
  unfold State.arm Gather.armedEntry
  dsimp only
  split <;> simp [State.enqueue, State.setGather]

/-- A bay that takes one more queued slot. -/
theorem Bay.Agrees.enqueue {x : Bay} {slots slots' : GatherNo → Slot} (h : x.Agrees slots) {i : GatherNo}
    (havailable : x.state.available = true) (hroom : x.queue.length < 8) (hi : i ∉ x.queue)
    (hnew : (slots' i).stage = .queued) (hold : (slots i).stage ≠ .sent) (hothers : ∀ j, j ≠ i → slots' j = slots j) :
    ({ x with queue := x.queue ++ [i] } : Bay).Agrees slots' := by
  have hsent : ∀ j, (slots' j).stage = .sent ↔ (slots j).stage = .sent := fun j => by
    by_cases hj : j = i
    · subst hj; simp [hnew, hold]
    · rw [hothers j hj]
  refine ⟨⟨h.supply.mode, h.supply.comparator, h.supply.detector, h.supply.receiver, h.supply.transmitter,
    h.supply.present, h.supply.cycleTimer, h.supply.wakeTimer⟩,
    ⟨h.ask.outstanding, h.ask.pending, h.ask.timer, h.ask.apart, h.ask.nextTag, h.ask.tag⟩, .inl havailable, ?_, ?_,
    fun j => ?_, h.asking.trans (exists_congr fun j => (hsent j).symm),
    fun j k hj hk => h.unique j k ((hsent j).1 hj) ((hsent k).1 hk), fun j hj => ?_, h.window⟩
  · simpa using hroom
  · exact List.nodup_append.2 ⟨h.nodup, List.nodup_singleton i, by
      rintro j hj k hk rfl
      exact hi (by rwa [List.mem_singleton.1 hk] at hj)⟩
  · by_cases hj : j = i
    · subst hj; simp [hnew]
    · rw [hothers j hj, ← h.queued j]; simp [hj]
  · have hji : j ≠ i := fun e => by subst e; simp [hnew] at hj
    rw [hothers j hji] at hj ⊢
    exact h.sentTag j hj

theorem State.arming_agrees (h : s.tableAgrees) {i : GatherNo} {g : Gather} (hfree : (s.gather i).state = .free)
    (hroom : ∀ b, s.joins g.bays b → (s.bay b).queue.length < 8)
    (hcons : g.armedEntry.consistent ∧ g.armedEntry.summaryConsistent)
    (hqueued : ∀ b, (g.slot b).stage = .queued ↔ s.joins g.bays b) (hsent : ∀ b, (g.slot b).stage ≠ .sent) :
    (s.arm i g).tableAgrees := by
  obtain ⟨hbays, hgathers, hconv, hstart⟩ := s.arming_eq i g
  have hbay : ∀ b, (s.arm i g).bay b = (s.enqueue g.bays i).bay b := fun b => by rw [State.bay_eq_get, hbays]; rfl
  have hgather : ∀ j, (s.arm i g).gather j = if i = j then g.armedEntry else s.gather j := fun j => by
    rw [State.gather_eq_get, hgathers]
    exact s.gather_setGather i j _
  have hothers : ∀ b j, j ≠ i → (s.arm i g).slotsOf b j = s.slotsOf b j := fun b j hj => by
    rw [State.slotsOf, hgather, if_neg (Ne.symm hj)]; rfl
  have hnew : ∀ b, (s.arm i g).slotsOf b i = g.slot b := fun b => by
    rw [State.slotsOf, hgather, if_pos rfl, Gather.armedEntry_slot]
  have hold : ∀ b, ((s.gather i).slot b).stage = .outside := Gather.slot_outside_of_free (h.gathers i).1 hfree
  refine (State.tableAgrees_iff _).2 ⟨State.gathersConsistent_of_entry (i := i) h.gathers (fun j hj => ?_) ?_, fun b => ?_⟩
  · rw [hgather, if_neg (Ne.symm hj)]
  · rw [hgather, if_pos rfl]; exact hcons
  · refine ⟨?_, ?_, ?_⟩ <;> rw [hbay, State.enqueue_bay]
    · split
      · rename_i hjoin
        refine (h.bay b).enqueue (slots := s.slotsOf b) ?_ (hroom b hjoin) (fun hi => ?_) ?_ ?_ (hothers b)
        · simp only [State.joins, Bool.and_eq_true] at hjoin
          exact hjoin.2
        · have := ((h.bay b).queued i).1 hi
          simp [State.slotsOf, hold] at this
        · rw [hnew]; exact (hqueued b).2 hjoin
        · simp [State.slotsOf, hold]
      · rename_i hjoin
        refine (h.bay b).congr_open (fun j => ?_) (fun j => ?_) fun j hj => ?_
        · by_cases hj : j = i
          · subst hj; rw [hnew]; simp [hqueued, hjoin, State.slotsOf, hold]
          · rw [hothers b j hj]
        · by_cases hj : j = i
          · subst hj; rw [hnew]; simp [hsent, State.slotsOf, hold]
          · rw [hothers b j hj]
        · have hji : j ≠ i := fun e => by subst e; simp [State.slotsOf, hold] at hj
          rw [hothers b j hji]
    · rw [hconv]
      intro ht
      have := (h.column b).tie ht
      split <;> exact this
    · rw [hstart]
      intro hs
      have := (h.column b).startup hs
      split <;> exact this

theorem State.freeEntry_free {i : GatherNo} (h : s.freeEntry = some i) : (s.gather i).state = .free := by
  simpa using List.find?_some h

theorem State.room_of_not_queueFull {bays : BaySet} (h : s.queueFull bays = false) (b : BayNo) (hb : s.joins bays b) :
    (s.bay b).queue.length < 8 := by
  simp only [State.queueFull, List.any_eq_false, mem_allBays, forall_const] at h
  have := h b
  simp only [State.joins] at hb
  simpa [hb] using this

theorem State.armChecks_ok {bays : BaySet} {profile : Byte} {args : List Byte} {p : ProfileNo} {i : GatherNo}
    (h : s.armChecks bays profile args = .ok (p, i)) : s.freeEntry = some i ∧ s.queueFull bays = false := by
  unfold State.armChecks at h
  repeat' split at h
  all_goals cases h
  exact ⟨‹_›, by simpa using ‹¬s.queueFull bays = true›⟩

theorem requestArmGather_agrees (h : s.tableAgrees) (bays : BaySet) (command : BitVec 16) (profile : Byte)
    (failMask : Indicators) (timeoutMs : BitVec 16) (options : Byte) (args : List Byte) :
    (requestArmGather bays command profile failMask timeoutMs options args s).tableAgrees := by
  unfold requestArmGather
  dsimp only
  split
  · exact h.answer _ _ _
  · rename_i p i hok
    obtain ⟨hfree, hfull⟩ := State.armChecks_ok hok
    refine State.tableAgrees.answer (State.arming_agrees h (State.freeEntry_free hfree)
      (State.room_of_not_queueFull hfull) (s.armedEntry_consistent ..) (fun b => ?_) fun b => ?_) _ _ _ <;>
      rw [State.armedGather_slot]
    · exact armedSlot_queued _ _
    · exact armedSlot_not_sent _ _

end Sys2Proof.Machine
end

section
/-! SUPPORT. Station control, rings, measurement and notices keep the tables in agreement (chapters 5 to 9), and so does
whatever makes every bay and every gather blank. -/

namespace Sys2Proof.Machine

variable {s : State} {b : BayNo}

/-! ### Blank bays and gathers -/

/-- A bay without supply, exchange, queue and open window. -/
structure Bay.Blank (x : Bay) : Prop where
  supply : x.SupplyAgrees
  off : x.state.supplyOff = true
  quiet : x.link.quiet
  queue : x.queue = []
  window : x.window = .closed

/-- A bay at its reset values but for what it and its seat say of the phone. -/
theorem Bay.blank_reset (b : BayNo) {st : BayState} {contact present : Bool} {debounce : Option Time} {cal : Calibration}
    (hoff : st.supplyOff = true) (hcycling : st ≠ .cycling) (hpresent : st = .vacant ↔ present = false) :
    Bay.Blank { Bay.reset b with
      state := st, contact := contact, present := present, debounce := debounce, cal := cal } :=
  ⟨Bay.supplyAgrees_of_off ⟨rfl, rfl, rfl⟩ hoff rfl rfl rfl hpresent (by simp [Bay.reset, Supply.reset, hcycling]), hoff,
    ⟨rfl, rfl, rfl⟩, rfl, rfl⟩

/-- A part whose gathers are FREE and whose bays are blank agrees. -/
theorem State.tableAgrees_of_blank (hg : ∀ i, s.gather i = .free) (hb : ∀ b, (s.bay b).Blank)
    (hc : s.converter.tiedTo = none)
    (hs : s.startup.isSome → ∀ b, (s.bay b).state = .vacant ∧ (s.bay b).debounce = none) : s.tableAgrees := by
  refine s.tableAgrees_iff.2 ⟨fun i => by rw [hg]; exact Gather.free_consistent, fun b => ⟨?_, by simp [hc], fun h => hs h b⟩⟩
  obtain ⟨hsupply, hoff, hquiet, hqueue, hwindow⟩ := hb b
  obtain ⟨hasking, _, hready, hbenched, _⟩ := BayState.ne_of_supplyOff hoff
  have hslot : ∀ i, (s.slotsOf b i).stage = .outside := fun i => by
    rw [State.slotsOf, hg, Gather.free_slot]; rfl
  refine Bay.agrees_of_quiet hsupply hasking hquiet hwindow ?_ (.inr hqueue) ?_ ?_ ?_ ?_
  · rintro (h | h)
    exacts [absurd h hready, absurd h hbenched]
  · simp [hqueue]
  · simp [hqueue]
  · simp [hqueue, hslot]
  · simp [hslot]

/-! ### Rings and calibration (chapters 6 and 7) -/

/-- A bay agrees with its slots whatever its ring is. -/
theorem State.modRing_agrees (h : s.tableAgrees) (b : BayNo) (f : Ring → Ring) :
    (s.modBay b (fun x => { x with ring := f x.ring })).tableAgrees := by
  refine (State.tableAgrees_iff _).2 ⟨State.gathersConsistent_congr h.gathers rfl, fun d => ?_⟩
  have col := h.column d
  refine ⟨?_, ?_, ?_⟩ <;> rw [State.bay_modBay]
  · split
    · rename_i hd
      subst hd
      exact col.bay.congr rfl rfl ⟨rfl, rfl, .rfl, rfl⟩ (.refl _) rfl id
    · exact col.bay
  · intro ht
    have := col.tie ht
    split
    · rename_i hd; subst hd; exact this
    · exact this
  · intro hs
    have := col.startup hs
    split
    · rename_i hd; subst hd; exact this
    · exact this

theorem requestSetRing_agrees (h : s.tableAgrees) (bay : Byte) (base length : BitVec 16) (mode : Byte) :
    (requestSetRing bay base length mode s).tableAgrees := by
  unfold requestSetRing
  split
  · exact h.answer _ _ _
  · exact (State.modRing_agrees h _ fun r => r.setWindow base.toNat length.toNat _).answer _ _ _

theorem requestReadResults_agrees (h : s.tableAgrees) (bay max : Byte) : (requestReadResults bay max s).tableAgrees := by
  unfold requestReadResults
  split
  · exact h.answer _ _ _
  · exact (State.modRing_agrees h _ fun r => r.removeOldest _).answer _ _ _

theorem requestClearDrops_agrees (h : s.tableAgrees) (bay : Byte) (drops overwrites : BitVec 16) :
    (requestClearDrops bay drops overwrites s).tableAgrees := by
  unfold requestClearDrops State.clearLosses
  split
  · exact h.answer _ _ _
  · have lowered := fun c => State.modRing_agrees h c fun r => r.lowerCounts drops overwrites
    refine State.tableAgrees.answer ?_ _ _ _
    dsimp only
    split
    · exact State.tableAgrees_congr (lowered _) rfl rfl rfl rfl
    · exact lowered _

theorem requestWriteCal_agrees (h : s.tableAgrees) (bay : Byte) (gain offset : BitVec 16) :
    (requestWriteCal bay gain offset s).tableAgrees := by
  unfold requestWriteCal
  split
  · exact h.answer _ _ _
  · split
    · exact h.answer _ _ _
    · exact (h.modBay _ _ ((h.bay _).congr rfl rfl ⟨rfl, rfl, .rfl, rfl⟩ (.refl _) rfl id) ⟨rfl, rfl⟩ rfl
        (.inr ⟨rfl, rfl⟩)).answer _ _ _

/-! ### The end of a conversion (R115 to R117) -/

/-- A grant ties the converter to an open window. -/
theorem State.grant_agrees (h : s.tableAgrees) : s.grant.tableAgrees := by
  unfold State.grant
  split
  · rename_i c _ hnext
    refine (State.tableAgrees_iff _).2 ⟨h.gathers, fun d => ⟨(h.column d).bay, fun ht => ?_, (h.column d).startup⟩⟩
    simp only [Converter.tiedTo, if_true, Option.some.injEq] at ht
    subst ht
    exact s.nextGrant_open hnext
  · exact h

theorem State.idleConverter_agrees (h : s.tableAgrees) : ({ s with converter := .idle } : State).tableAgrees :=
  (State.tableAgrees_iff _).2 ⟨h.gathers, fun d => ⟨(h.column d).bay, (nomatch ·), (h.column d).startup⟩⟩

theorem State.creditSample_agrees (h : s.tableAgrees) (b : BayNo) (tied : Bool) (code : BitVec 12) :
    (s.creditSample b tied code).tableAgrees := by
  unfold State.creditSample
  split
  · rename_i a hopen
    refine State.tableAgrees_of_onlyAt h (.modBay s b _ ⟨rfl, rfl⟩) (State.gathersConsistent_congr h.gathers rfl) ?_ ?_
      (.inr ?_) <;> simp only [State.bay_modBay, if_true]
    · exact (h.bay b).congr rfl rfl ⟨rfl, rfl, .rfl, rfl⟩ (.refl _) rfl fun _ => by rw [hopen]; rfl
    · exact fun _ => rfl
    · exact ⟨trivial, trivial⟩
  · exact h

theorem eventConversionEnd_agrees (h : s.tableAgrees) (code : BitVec 12) : (eventConversionEnd code s).tableAgrees := by
  unfold eventConversionEnd
  split
  · exact h
  · split
    · exact State.grant_agrees (State.idleConverter_agrees (State.creditSample_agrees h _ _ _))
    · exact h

/-! ### Run state and stop line (R147 to R152) -/

theorem State.run_agrees (h : s.tableAgrees) (r : RunState) : ({ s with run := r } : State).tableAgrees :=
  State.tableAgrees_congr h rfl rfl rfl rfl

theorem requestResume_agrees (h : s.tableAgrees) : (requestResume s).tableAgrees := by
  unfold requestResume
  split
  · exact h.answer _ _ _
  · split
    · exact h.answer _ _ _
    · exact (State.tableAgrees_foldl (fun _ b ht => ht.beginFrame b) _ _ (State.run_agrees h .run)).answer _ _ _

theorem State.abortBay_acts (s : State) (b : BayNo) : s.ActsAt b (s.abortBay b) := by
  unfold State.abortBay
  split
  · exact .refl b s
  · exact .modBay (.dropQueue (.loseAsk (.modBay (.refl b s) fun x => by
      simp [Bay.abandonCycle_ring, Bay.switchOff, Bay.stopWake])) rfl) fun _ => ⟨rfl, rfl⟩

/-- The record of a bay that is not FAULTED after the abort actions (R152). -/
theorem State.abortBay_bay (hs : (s.bay b).state ≠ .faulted) : ∃ r w, (s.abortBay b).bay b = { s.bay b with
    state := if (s.bay b).present then .unpowered else .vacant
    queue := []
    supply := { (s.bay b).supply with
      mode := .off, comparator := .idle, detector := .idle
      cycleTimer := if (s.bay b).state = .cycling then none else (s.bay b).supply.cycleTimer
      saved := if (s.bay b).state = .cycling then .full else (s.bay b).supply.saved }
    link := { (s.bay b).link.disable with
      wakeTimer := none
      tunnelOut := none
      answerTimer := if (s.bay b).state = .asking then none else (s.bay b).link.answerTimer
      outstanding := if (s.bay b).state = .asking then none else (s.bay b).link.outstanding }
    window := w
    ring := r } := by
  obtain ⟨r, w, e⟩ := (s.modBay b fun x => x.abandonCycle.switchOff.stopWake).loseAsk_bay_parts b
  refine ⟨r, w, ?_⟩
  unfold State.abortBay
  simp only [hs, if_false, State.bay_modBay, if_true, State.dropQueue_bay, e]
  by_cases ha : (s.bay b).state = .asking <;>
    simp [ha, Bay.outOfService, Bay.abandonCycle_eq, Bay.stopWake, Bay.switchOff, Bay.modLink, Bay.modSupply,
      Link.disable, Link.endAsk]

theorem State.abortBay_agrees (h : s.tableAgrees) (b : BayNo) : (s.abortBay b).tableAgrees := by
  by_cases hs : (s.bay b).state = .faulted
  · unfold State.abortBay
    rw [if_pos hs]
    exact h
  · obtain ⟨r, w, e⟩ := State.abortBay_bay hs
    have hoff : (if (s.bay b).present then BayState.unpowered else BayState.vacant).supplyOff = true := by split <;> rfl
    obtain ⟨hasking, _, hready, hbenched, _⟩ := BayState.ne_of_supplyOff hoff
    have ended : (s.abortBay b).AskOver b := by
      unfold State.abortBay
      rw [if_neg hs]
      exact .modBay (.dropQueue (State.ExchangeAt.askOver ((h.exchangeAt b).modBay _ (by
        simp [Bay.abandonCycle_eq, Bay.switchOff, Bay.stopWake]) (by
        simp [Bay.abandonCycle_eq, Bay.switchOff, Bay.stopWake]) (by
        simp [Bay.abandonCycle_eq, Bay.switchOff, Bay.stopWake]))) rfl) (fun _ => rfl) fun _ => rfl
    refine State.tableAgrees_of_askOver h (s.abortBay_acts b) ended ?_ ?_ ?_ ?_ (.inl ?_) (.inr ?_) <;> rw [e]
    · refine Bay.supplyAgrees_of_off ⟨rfl, rfl, rfl⟩ hoff rfl rfl rfl ?_ ?_
      · cases (s.bay b).present <;> simp
      · have := (h.bay b).supply.cycleTimer
        by_cases hc : (s.bay b).state = .cycling <;> cases (s.bay b).present <;> simp_all
    · exact hasking
    · by_cases ha : (s.bay b).state = .asking
      · simp only [ha, if_true]; exact ⟨rfl, rfl, rfl⟩
      · obtain ⟨_, hout, htimer⟩ := (h.bay b).quiet ha
        simp only [ha, if_false]; exact ⟨rfl, hout, htimer⟩
    · rintro (hr | hb)
      exacts [absurd hr hready, absurd hb hbenched]
    · exact ⟨rfl, rfl⟩

theorem State.flagAborted_gather (s : State) (i : GatherNo) : s.flagAborted.gather i =
    { s.gather i with aborted := (s.gather i).aborted || (s.gather i).state == .opened } := by
  have read : s.flagAborted.gather i =
      if (s.gather i).state = .opened then { s.gather i with aborted := true } else s.gather i := by
    simp [State.flagAborted, State.gather_eq_get, Vector.get_eq_getElem]
    rfl
  rw [read]
  split
  · rename_i ho; simp [ho]
  · rename_i ho; rw [beq_false_of_ne ho, Bool.or_false]

theorem State.flagAborted_agrees (h : s.tableAgrees) : s.flagAborted.tableAgrees := by
  refine State.tableAgrees_of_gathers h rfl rfl rfl (fun i => ?_) fun i b _ => ?_ <;> rw [State.flagAborted_gather]
  · exact Gather.consistent_of_same rfl rfl rfl rfl (h.gathers i)
  · rfl

theorem State.abort_agrees (h : s.tableAgrees) : s.abort.tableAgrees :=
  State.tableAgrees_foldl (fun _ b ht => State.abortBay_agrees ht b) _ _ (State.flagAborted_agrees (State.run_agrees h .held))

/-- An aborted bay is FAULTED, UNPOWERED or VACANT. -/
def BayState.atRest (st : BayState) : Prop := st.supplyOff = true ∧ st ≠ .cycling

theorem State.abortBay_atRest (s : State) (b : BayNo) : ((s.abortBay b).bay b).state.atRest := by
  by_cases hs : (s.bay b).state = .faulted
  · unfold State.abortBay
    rw [if_pos hs, hs]
    exact ⟨rfl, by simp⟩
  · obtain ⟨r, w, e⟩ := State.abortBay_bay hs
    rw [e]
    exact ⟨by split <;> rfl, by split <;> simp⟩

theorem State.abortBays_atRest (b : BayNo) : ∀ (l : List BayNo) (s : State), b ∈ l ∨ (s.bay b).state.atRest →
    ((l.foldl State.abortBay s).bay b).state.atRest
  | [], s, h => h.resolve_left (by simp)
  | c :: l, s, h => by
    refine State.abortBays_atRest b l (s.abortBay c) ?_
    by_cases hc : c = b
    · subst hc; exact .inr (s.abortBay_atRest c)
    · refine h.imp (fun hb => (List.mem_cons.1 hb).resolve_left (Ne.symm hc)) fun hr => ?_
      rwa [(s.abortBay_acts c).only.bays b (Ne.symm hc)]

theorem State.abort_atRest (s : State) (b : BayNo) : (s.abort.bay b).state.atRest :=
  State.abortBays_atRest b _ _ (.inl (mem_allBays b))

theorem eventStopLineChange_agrees (h : s.tableAgrees) (asserted : Bool) :
    (eventStopLineChange asserted s).tableAgrees := by
  have raised : (({ s with stopLine := asserted } : State).raise .stopLine).tableAgrees :=
    State.tableAgrees.raise (s := { s with stopLine := asserted }) (State.tableAgrees_congr h rfl rfl rfl rfl) _
  unfold eventStopLineChange State.actOnStop
  split
  · exact h
  · dsimp only
    split
    · split
      · exact State.run_agrees raised _
      · exact State.abort_agrees raised
    · exact raised

/-! ### Station reset, power-on and the end of the start-up (R17, R158, R160) -/

theorem vector_get_ofFn {α : Type} {n : Nat} (f : Fin n → α) (i : Fin n) : (Vector.ofFn f).get i = f i := by
  simp [Vector.get_eq_getElem]

theorem vector_get_replicate {α : Type} {n : Nat} (x : α) (i : Fin n) : (Vector.replicate n x).get i = x := by
  simp [Vector.get_eq_getElem]

theorem State.stationReset_bay (s : State) (b : BayNo) : s.stationReset.bay b = (s.abort.bay b).stationReset b :=
  vector_get_ofFn _ b

theorem State.stationReset_gather (s : State) (i : GatherNo) : s.stationReset.gather i = .free := by
  have hgathers : s.stationReset.gathers = Vector.replicate 16 Gather.free := rfl
  rw [State.gather_eq_get, hgathers, vector_get_replicate]

theorem State.stationReset_startup (s : State) : s.stationReset.startup = s.abort.startup := by
  simp only [State.stationReset]

theorem Bay.stationReset_blank {x : Bay} (b : BayNo) (h : x.state.atRest) (hpresent : x.state = .vacant ↔ x.present = false) :
    (x.stationReset b).Blank := Bay.blank_reset b h.1 h.2 hpresent

theorem Bay.stationReset_seat (x : Bay) (b : BayNo) : (x.stationReset b).state = x.state ∧
    (x.stationReset b).debounce = x.debounce := ⟨rfl, rfl⟩

theorem State.stationReset_agrees (h : s.tableAgrees) : s.stationReset.tableAgrees := by
  have aborted := State.abort_agrees h
  refine State.tableAgrees_of_blank s.stationReset_gather (fun b => ?_) rfl fun hs b => ?_ <;>
    rw [State.stationReset_bay]
  · exact Bay.stationReset_blank b (s.abort_atRest b) (aborted.bay b).supply.present
  · obtain ⟨hstate, hdebounce⟩ := (s.abort.bay b).stationReset_seat b
    rw [hstate, hdebounce]
    have hup := (aborted.column b).startup
    rw [State.stationReset_startup] at hs
    exact hup hs

/-- The part after power-on, with the contact levels and calibration pairs that stand at each bay. -/
def State.poweredOn (s : State) (stopAsserted : Bool) (contacts : BaySet) (attached : Bool) : State :=
  { State.reset with
    stopLine := stopAsserted
    port := { Port.reset with attached := attached, receiver := if attached then .hunting else .disabled }
    bays := Vector.ofFn (fun b => { Bay.reset b with contact := inSet contacts b, cal := (s.bay b).cal })
    calLock := s.calLock
    railReads := s.railReads
    pending := s.pending }

theorem exec_powerOn (s : State) (stopAsserted : Bool) (contacts : BaySet) (attached : Bool) :
    exec (.powerOn stopAsserted contacts attached) s = .next (s.poweredOn stopAsserted contacts attached) := rfl

theorem State.poweredOn_bay (s : State) (stopAsserted : Bool) (contacts : BaySet) (attached : Bool) (b : BayNo) :
    (s.poweredOn stopAsserted contacts attached).bay b =
      { Bay.reset b with contact := inSet contacts b, cal := (s.bay b).cal } := vector_get_ofFn _ b

theorem State.poweredOn_agrees (s : State) (stopAsserted : Bool) (contacts : BaySet) (attached : Bool) :
    (s.poweredOn stopAsserted contacts attached).tableAgrees := by
  refine State.tableAgrees_of_blank (fun i => vector_get_replicate _ i) (fun b => ?_) rfl fun _ b => ?_ <;>
    rw [State.poweredOn_bay]
  · exact Bay.blank_reset b rfl (by simp [Bay.reset]) (by simp [Bay.reset])
  · exact ⟨rfl, rfl⟩

/-- What the port takes reaches the port alone. -/
theorem State.takeRequests_eq (s : State) : s.takeRequests = { s with port := s.takeRequests.port } := by
  unfold State.takeRequests
  split <;> rfl

theorem State.takeRequests_of_up (hs : s.startup = none) :
    s.takeRequests = s.modPort (fun p => { p with buffer := takeWaiting s.replyFlags p.buffer }) := by
  unfold State.takeRequests
  rw [hs]

theorem State.takeRequests_agrees (h : s.tableAgrees) : s.takeRequests.tableAgrees := by
  rw [State.takeRequests_eq]
  exact State.tableAgrees_congr h rfl rfl rfl rfl

/-- The part with each bay's presence taken from its contact (R17). -/
def State.startedUp (s : State) : State := { s with startup := none, bays := s.bays.map Bay.startUp }

theorem State.startedUp_bay (s : State) (b : BayNo) : s.startedUp.bay b = { s.bay b with
    present := (s.bay b).contact, debounce := none,
    state := if (s.bay b).contact then .unpowered else .vacant } := by
  simp [State.startedUp, State.bay_eq_get, Vector.get_eq_getElem, Bay.startUp, Bay.outOfService]
  rfl

theorem exec_startupDebounceEnd (hran : ranOut s.startup s.clock) :
    exec .startupDebounceEnd s = .next s.startedUp.takeRequests := by
  show execStartupDebounceEnd s = _
  unfold execStartupDebounceEnd
  rw [if_pos hran]
  rfl

theorem State.startedUp_agrees (h : s.tableAgrees) (hran : ranOut s.startup s.clock) : s.startedUp.tableAgrees := by
  refine (State.tableAgrees_iff _).2 ⟨State.gathersConsistent_congr h.gathers rfl, fun b => ?_⟩
  obtain ⟨hvacant, _⟩ := (h.column b).startup (ranOut_isSome hran)
  refine ⟨?_, ?_, fun hs => nomatch hs⟩ <;> rw [State.startedUp_bay]
  · refine (h.bay b).moveTo (by simp [hvacant]) ?_ rfl rfl rfl rfl ?_ ?_ ?_ ?_ ?_
      (.inr ((h.bay b).queue_nil (by simp [hvacant, BayState.available]))) <;>
      cases (s.bay b).contact <;> simp [hvacant, BayState.supplyOff]
  · exact (h.column b).tie

end Sys2Proof.Machine
end

section
/-! PROOFS. Every step keeps the tables in agreement: each request and each event does, and so does what a command finds
carried out before it. -/

namespace Sys2Proof.Machine

variable {s : State}

/-- A change that reaches no bay, gather, converter or start-up, with the reply composed on it. -/
theorem State.answer_agrees_of_same {u : State} (h : s.tableAgrees) (hb : u.bays = s.bays) (hg : u.gathers = s.gathers)
    (hc : u.converter = s.converter) (hs : u.startup = s.startup) (c : Instr) (status : Status) (body : List Byte) :
    (u.answer c status body).tableAgrees := (State.tableAgrees_congr h hb hg hc hs).answer c status body

theorem requestSetParam_agrees (h : s.tableAgrees) (number : Byte) (value : BitVec 32) :
    (requestSetParam number value s).tableAgrees := by
  refine State.answer_agrees_of_same h ?_ ?_ ?_ ?_ _ _ _ <;> unfold State.setParameter <;> split <;> rfl

theorem requestGatherStatus_agrees (h : s.tableAgrees) (index : Byte) (serial : BitVec 16) :
    (requestGatherStatus index serial s).tableAgrees := by
  unfold requestGatherStatus
  split <;> exact h.answer _ _ _

theorem requestGatherSlot_agrees (h : s.tableAgrees) (index : Byte) (serial : BitVec 16) (bay : Byte) :
    (requestGatherSlot index serial bay s).tableAgrees := by
  unfold requestGatherSlot
  split
  · exact h.answer _ _ _
  · split <;> exact h.answer _ _ _

theorem requestDefineProfile_agrees (h : s.tableAgrees) (profile valueMode : Byte) (m d : BitVec 16)
    (b low high : BitVec 32) (latencyMs currentMa : BitVec 16) :
    (requestDefineProfile profile valueMode m d b low high latencyMs currentMa s).tableAgrees := by
  unfold requestDefineProfile
  dsimp only
  split
  · exact h.answer _ _ _
  · refine State.answer_agrees_of_same h ?_ ?_ ?_ ?_ _ _ _ <;> rfl

theorem requestReadProfile_agrees (h : s.tableAgrees) (profile : Byte) : (requestReadProfile profile s).tableAgrees := by
  unfold requestReadProfile
  split <;> exact h.answer _ _ _

theorem requestClearStats_agrees (h : s.tableAgrees) (profile : Byte) : (requestClearStats profile s).tableAgrees := by
  unfold requestClearStats
  split
  · exact h.answer _ _ _
  · refine State.answer_agrees_of_same h ?_ ?_ ?_ ?_ _ _ _ <;> rfl

theorem requestPollNotice_agrees (h : s.tableAgrees) : (requestPollNotice s).tableAgrees := by
  unfold requestPollNotice
  split
  · exact h.answer _ _ _
  · refine State.answer_agrees_of_same h ?_ ?_ ?_ ?_ _ _ _ <;> rfl

theorem requestUnlockCal_agrees (h : s.tableAgrees) : (requestUnlockCal s).tableAgrees := by
  unfold requestUnlockCal
  split
  · refine State.answer_agrees_of_same h ?_ ?_ ?_ ?_ _ _ _ <;> rfl
  · exact h.answer _ _ _

theorem requestStationReset_agrees (h : s.tableAgrees) : (requestStationReset s).tableAgrees := by
  unfold requestStationReset
  exact (State.stationReset_agrees h).answer _ _ _

/-! Requests that only read one bay. -/

theorem requestBayStatus_agrees (h : s.tableAgrees) (bay : Byte) : (requestBayStatus bay s).tableAgrees := by
  unfold requestBayStatus
  split <;> exact h.answer _ _ _

theorem requestPeekTunnel_agrees (h : s.tableAgrees) (bay : Byte) : (requestPeekTunnel bay s).tableAgrees := by
  unfold requestPeekTunnel
  split <;> exact h.answer _ _ _

theorem requestRingStatus_agrees (h : s.tableAgrees) (bay : Byte) : (requestRingStatus bay s).tableAgrees := by
  unfold requestRingStatus
  split <;> exact h.answer _ _ _

theorem requestReadCal_agrees (h : s.tableAgrees) (bay : Byte) : (requestReadCal bay s).tableAgrees := by
  unfold requestReadCal
  split <;> exact h.answer _ _ _

/-- A request carried out keeps the agreement; no other command is carried out (R175). -/
theorem State.carryOut_agrees (h : s.tableAgrees) (c : Instr) : (s.carryOut c).tableAgrees := by
  cases c
  case identify => exact h.answer _ _ _
  case getParam => exact h.answer _ _ _
  case setParam => exact requestSetParam_agrees h _ _
  case readClock => exact h.answer _ _ _
  case hold => refine State.answer_agrees_of_same h ?_ ?_ ?_ ?_ _ _ _ <;> rfl
  case resume => exact requestResume_agrees h
  case stationReset => exact requestStationReset_agrees h
  case bayStatus => exact requestBayStatus_agrees h _
  case setSupply => exact requestSetSupply_agrees h _ _
  case cycleBay => exact requestCycleBay_agrees h _ _ _
  case releaseBay => exact requestReleaseBay_agrees h _
  case resetBay => exact requestResetBay_agrees h _
  case setLineRate => exact requestSetLineRate_agrees h _ _
  case putTunnel => exact requestPutTunnel_agrees h _ _
  case getTunnel => exact requestGetTunnel_agrees h _
  case peekTunnel => exact requestPeekTunnel_agrees h _
  case armGather => exact requestArmGather_agrees h _ _ _ _ _ _ _
  case gatherStatus => exact requestGatherStatus_agrees h _ _
  case gatherSlot => exact requestGatherSlot_agrees h _ _ _
  case cancelGather => exact requestCancelGather_agrees h _ _
  case releaseGather => exact requestReleaseGather_agrees h _ _
  case defineProfile => exact requestDefineProfile_agrees h _ _ _ _ _ _ _ _ _
  case readProfile => exact requestReadProfile_agrees h _
  case clearStats => exact requestClearStats_agrees h _
  case setRing => exact requestSetRing_agrees h _ _ _ _
  case readResults => exact requestReadResults_agrees h _ _
  case clearDrops => exact requestClearDrops_agrees h _ _ _
  case ringStatus => exact requestRingStatus_agrees h _
  case pollNotice => exact requestPollNotice_agrees h
  case clearNotices => refine State.answer_agrees_of_same h ?_ ?_ ?_ ?_ _ _ _ <;> rfl
  case writeCal => exact requestWriteCal_agrees h _ _ _
  case readCal => exact requestReadCal_agrees h _
  case lockCal => refine State.answer_agrees_of_same h ?_ ?_ ?_ ?_ _ _ _ <;> rfl
  case unlockCal => exact requestUnlockCal_agrees h
  all_goals exact h

theorem State.carryInHand_agrees (h : s.tableAgrees) (c : Instr) : (s.carryInHand c).tableAgrees := by
  unfold State.carryInHand
  split
  · exact h
  · split
    · exact h
    · exact State.carryOut_agrees h _

theorem State.before_agrees (h : s.tableAgrees) (c : Instr) : (s.before c).tableAgrees :=
  State.tableAgrees_foldl (fun _ _ ht => State.carryInHand_agrees ht c) _ _ h

/-- A request at the part waits or is carried out. -/
theorem State.serve_agrees (h : s.tableAgrees) {c : Instr} {f : State → State} (hf : ∀ u, f u = u.carryOut c) :
    (s.serve c f).tableAgrees := by
  cases hs : s.startup with
  | none =>
    rw [s.serve_of_up c f hs, hf]
    exact State.carryOut_agrees (State.before_agrees h c) c
  | some _ =>
    rw [s.serve_of_startup c f (by simp [hs]), State.keepWaiting_eq]
    exact State.tableAgrees_congr h rfl rfl rfl rfl

/-- What reaches the port alone. -/
theorem State.modPort_ite_agrees (h : s.tableAgrees) (p : Prop) [Decidable p] (f : Port → Port) :
    (if p then s.modPort f else s).tableAgrees := by
  split
  · exact State.tableAgrees_congr h rfl rfl rfl rfl
  · exact h

theorem execRequestFrameAccepted_agrees (h : s.tableAgrees) (f : RequestFrame) {t : State}
    (ht : execRequestFrameAccepted f s = .next t) : t.tableAgrees := by
  obtain rfl := Host.Outcome.next.inj ht
  split
  · exact State.takeRequests_agrees (State.tableAgrees_congr h rfl rfl rfl rfl)
  · exact h

theorem execStartupDebounceEnd_agrees (h : s.tableAgrees) {t : State} (ht : execStartupDebounceEnd s = .next t) :
    t.tableAgrees := by
  obtain rfl := Host.Outcome.next.inj ht
  split
  · rename_i hran
    exact State.takeRequests_agrees (State.startedUp_agrees h hran)
  · exact h

theorem execLinkAttach_agrees (h : s.tableAgrees) {t : State} (ht : execLinkAttach s = .next t) : t.tableAgrees := by
  obtain rfl := Host.Outcome.next.inj ht
  split
  · exact h
  · exact State.tableAgrees_congr h rfl rfl rfl rfl

/-- Every command keeps the agreement: a request through carryOut, an event through its own lemma on what was carried
out before it, and what passes the requests as it stands. -/
theorem exec_agrees (h : s.tableAgrees) (c : Instr) {t : State} (ht : exec c s = .next t) : t.tableAgrees := by
  have before := State.before_agrees h c
  cases c
  case powerOn => obtain rfl := Host.Outcome.next.inj ht; exact s.poweredOn_agrees _ _ _
  case startupDebounceEnd => exact execStartupDebounceEnd_agrees h ht
  case requestFrameAccepted => exact execRequestFrameAccepted_agrees h _ ht
  case linkAttach => exact execLinkAttach_agrees h ht
  all_goals obtain rfl := Host.Outcome.next.inj ht
  case requestSyncReceived => exact State.tableAgrees_congr h rfl rfl rfl rfl
  case replyDelivered => exact State.modPort_ite_agrees h _ _
  case linkDetach => exact State.modPort_ite_agrees h _ _
  case requestFrameCheckFail => exact State.modPort_ite_agrees before _ _
  case requestLengthDiscard => exact State.modPort_ite_agrees before _ _
  case requestGapExpiry => exact State.modPort_ite_agrees before _ _
  case signOnAccepted => exact eventSignOnAccepted_agrees before _
  case answerAccepted => exact eventAnswerAccepted_agrees before _
  case tunnelInAccepted => exact eventTunnelInAccepted_agrees before _
  case bayFrameRejected => exact eventBayFrameRejected_agrees before _
  case bayFrameLengthDiscard => exact eventBayFrameLengthDiscard_agrees before _ _ _
  case bayFrameGapExpiry => exact eventBayFrameGapExpiry_agrees before
  case bayCharacterFault => exact eventBayCharacterFault_agrees before
  case syncGapExpiry => exact eventSyncGapExpiry_agrees before
  case dispatch => exact eventDispatch_agrees before
  case askSent => exact eventAskSent_agrees before
  case tunnelOutSent => exact eventTunnelOutSent_agrees before
  case answerTimerExpiry => exact eventAnswerTimerExpiry_agrees before
  case wakeTimerExpiry => exact eventWakeTimerExpiry_agrees before
  case cycleTimerExpiry => exact eventCycleTimerExpiry_agrees before
  case presenceContactChange => exact eventPresenceContactChange_agrees before _
  case debounceExpiry => exact eventDebounceExpiry_agrees before
  case trip => exact eventTrip_agrees before _
  case sag => exact eventSag_agrees before
  case railRiseClear => exact eventRailRiseClear_agrees before
  case stopLineChange => exact eventStopLineChange_agrees before _
  case conversionEnd => exact eventConversionEnd_agrees before _
  case baySyncReceived => exact eventBaySyncReceived_agrees before _
  all_goals exact State.serve_agrees h fun _ => rfl

/-- What the block does of its own accord reaches the queue of commands, the clock and the port alone. -/
theorem State.idle_agrees (h : s.tableAgrees) : s.idle.tableAgrees := by
  unfold State.idle
  split
  · exact State.tableAgrees_congr h rfl rfl rfl rfl
  · split <;> exact State.tableAgrees_congr h rfl rfl rfl rfl

/-- Settles O55: the command at the front keeps the agreement (exec_agrees), and so does what the block does of its own
accord. -/
theorem everyStepKeepsTheTablesInAgreement : Obligations.EveryStepKeepsTheTablesInAgreement := by
  intro s t h ht
  unfold step at ht
  split at ht
  · obtain rfl := Host.Outcome.next.inj ht
    exact State.idle_agrees h
  · refine exec_agrees (State.tableAgrees_congr h ?_ ?_ ?_ ?_) _ ht <;> rfl

end Sys2Proof.Machine
end

section
/-! PROOFS. The invariants at power-on, and power-on and the end of the start-up. -/

namespace Sys2Proof.Machine

/-! ### The part at power-on -/

@[simp] theorem State.reset_bay (b : BayNo) : State.reset.bay b = Bay.reset b := vector_get_ofFn _ b

@[simp] theorem State.reset_gather (i : GatherNo) : State.reset.gather i = Gather.free := vector_get_replicate _ i

theorem State.reset_profile (p : ProfileNo) :
    State.reset.profile p = if p = 0 then Profile.builtIn else Profile.undefined := by
  refine (vector_get_set (Vector.replicate 32 Profile.undefined) 0 p Profile.builtIn).trans ?_
  rw [vector_get_replicate]
  simp only [eq_comm]

theorem State.reset_tableAgrees : State.reset.tableAgrees := by
  refine State.tableAgrees_of_blank State.reset_gather (fun b => ?_) rfl fun _ b => ?_ <;> rw [State.reset_bay]
  · exact Bay.blank_reset b rfl (by simp) (by simp)
  · exact ⟨rfl, rfl⟩

/-- Each bay has its own 170 cells of the store (R145). -/
theorem State.reset_ringsConsistent : State.reset.ringsConsistent := by
  refine ⟨fun b => ?_, fun b c hbc => ?_⟩
  · have := b.isLt
    simp only [State.reset_bay, Bay.reset, Ring.reset, Ring.consistent]
    simp
    omega
  · have hne : b.val ≠ c.val := fun h => hbc (Fin.ext h)
    simp only [State.reset_bay, Bay.reset, Ring.reset, windowsMeet]
    simp
    omega

theorem State.reset_causesConsistent : State.reset.causesConsistent := fun b => by
  have ringFull : State.reset.notices.ringFull.get b = .inactive := vector_get_replicate _ b
  have tunnelIn : State.reset.notices.tunnelIn.get b = .inactive := vector_get_replicate _ b
  rw [State.reset_bay]
  exact ⟨iff_of_true ringFull rfl, iff_of_true tunnelIn rfl⟩

theorem State.reset_inUseAgrees : State.reset.inUseAgrees := fun p => by
  have none_open : allGathers.countP (fun i => (State.reset.gather i).state == .opened && (State.reset.gather i).profile == p) = 0 :=
    List.countP_eq_zero.2 fun i _ => by simp [Gather.free]
  rw [none_open, State.reset_profile]
  split <;> rfl

theorem State.reset_profilesConsistent : State.reset.profilesConsistent := by
  refine ⟨by rw [State.reset_profile]; exact Profile.definitionKept_refl _, by rw [State.reset_profile]; rfl, fun p => ?_⟩
  rw [State.reset_profile]
  split <;> simp [Profile.builtIn, Profile.undefined]

theorem State.reset_accumulatorsConsistent : State.reset.accumulatorsConsistent := fun b a h => by
  rw [State.reset_bay] at h
  exact nomatch h

/-- Settles O3: every bay is blank, every gather FREE, and every count 0. -/
theorem invariantsHoldAtReset : Obligations.InvariantsHoldAtReset :=
  ⟨State.reset_tableAgrees, State.reset_ringsConsistent, State.reset_causesConsistent, wf_reset, rfl,
    State.reset_inUseAgrees, State.reset_profilesConsistent, State.reset_accumulatorsConsistent⟩

/-! ### Power-on and the start-up (R17, R124, R160, R170) -/

theorem State.poweredOn_eq (s : State) (stop : Bool) (contacts : BaySet) (attached : Bool) :
    s.poweredOn stop contacts attached = { State.reset with
      stopLine := stop, calLock := s.calLock, pending := s.pending, railReads := s.railReads
      bays := (s.poweredOn stop contacts attached).bays
      port := { Port.reset with attached := attached, receiver := if attached then .hunting else .disabled } } := rfl

/-- The flags of the port's replies do not depend on the bays' presence or the start-up. -/
theorem State.startedUp_replyFlags (s : State) : s.startedUp.replyFlags = s.replyFlags := rfl

theorem State.startedUp_takeRequests (s : State) : s.startedUp.takeRequests =
    { s with startup := none, bays := s.startedUp.bays
             port := { s.port with buffer := takeWaiting s.replyFlags s.port.buffer } } := by
  rw [State.takeRequests_of_up rfl, State.startedUp_replyFlags]
  rfl

/-- Settles O17: power-on by definition, and the end of the start-up as startedUp with what the port then takes. -/
theorem powerOnAndStartUp : Obligations.PowerOnAndStartUp := by
  refine ⟨fun s stop attached contacts => ⟨_, exec_powerOn s stop contacts attached, s.poweredOn_eq .., fun b => ?_⟩,
    fun s expiry hexpiry hreached => ⟨_, exec_startupDebounceEnd ?_, ?_, ?_, fun b => ?_⟩⟩
  · exact s.poweredOn_bay stop contacts attached b
  · rw [hexpiry]; exact hreached
  · rw [State.startedUp_takeRequests]
  · rw [State.startedUp_takeRequests]
  · rw [State.startedUp_takeRequests]; exact s.startedUp_bay b

end Sys2Proof.Machine
end

section
/-! PROOFS. Release of a bay, the debounced presence and the end of the wake timer (R3, R4, R9, R13). -/

namespace Sys2Proof.Machine

variable {s : State} {b : BayNo}

/-! ### A command that finds the state as it stands -/

theorem State.next_serve_of_clear (h : s.portClear) (c : Instr) (f : State → State) :
    Host.Outcome.next (φ := Fault) (ρ := Refusal) (s.serve c f) = .next (f s) := by
  rw [s.serve_of_clear c f h]

theorem State.next_before_of_none (h : s.requestInHand = none) (c : Instr) (f : State → State) :
    Host.Outcome.next (φ := Fault) (ρ := Refusal) (f (s.before c)) = .next (f s) := by
  rw [s.before_of_none c h]

theorem State.setBay_setBay (s : State) (b : BayNo) (x y : Bay) : (s.setBay b x).setBay b y = s.setBay b y := by
  simp [State.setBay]

theorem State.modBay_modBay (s : State) (b : BayNo) (f g : Bay → Bay) :
    (s.modBay b f).modBay b g = s.setBay b (g (f (s.bay b))) := by
  show (s.setBay b (f (s.bay b))).setBay b (g ((s.setBay b (f (s.bay b))).bay b)) = _
  rw [State.setBay_setBay, State.bay_setBay, if_pos rfl]

/-! ### The begin of a frame (R29) -/

theorem State.beginFrame_of_tunnel {block : List Byte} (hrun : s.run = .run) (hidle : (s.bay b).link.transmitter = .idle)
    (hout : (s.bay b).link.tunnelOut = some block)
    (hs : (s.bay b).state = .ready ∨ (s.bay b).state = .asking ∨ (s.bay b).state = .benched) :
    s.beginFrame b = s.modBay b (fun x => x.modLink (fun l =>
      { l with transmitter := .sendingTunnel, frameOut := tunnelFrame (l.tunnelOut.getD []) })) := by
  have hwaiting : (s.bay b).tunnelWaiting = true := by
    rcases hs with hs | hs | hs <;> simp [Bay.tunnelWaiting, hout, hs]
  unfold State.beginFrame
  dsimp only
  rw [if_pos ⟨hrun, hidle⟩, if_pos hwaiting]

theorem State.beginFrame_of_ask {ask : Ask} (hrun : s.run = .run) (hidle : (s.bay b).link.transmitter = .idle)
    (hout : (s.bay b).link.tunnelOut = none) (hask : (s.bay b).link.pendingAsk = some ask) :
    s.beginFrame b = s.modBay b (fun x => x.modLink (fun l =>
      { l with transmitter := .sendingAsk, pendingAsk := none, frameOut := askFrame ask })) := by
  have hwaiting : ¬(s.bay b).tunnelWaiting = true := by simp [Bay.tunnelWaiting, hout]
  unfold State.beginFrame
  dsimp only
  rw [if_pos ⟨hrun, hidle⟩, if_neg hwaiting, hask]

theorem State.beginFrame_of_nothing (h : ¬(s.run = .run ∧ (s.bay b).link.transmitter = .idle) ∨
    (s.bay b).link.tunnelOut = none ∧ (s.bay b).link.pendingAsk = none) : s.beginFrame b = s := by
  unfold State.beginFrame
  dsimp only
  split
  · rename_i hbegins
    obtain ⟨hout, hask⟩ := h.resolve_left (not_not_intro hbegins)
    have hwaiting : ¬(s.bay b).tunnelWaiting = true := by simp [Bay.tunnelWaiting, hout]
    rw [if_neg hwaiting, hask]
  · rfl

/-! ### RELEASE_BAY (R13) -/

section
variable {bay : Byte}

theorem requestReleaseBay_bad (hb : bayOf bay = none) :
    requestReleaseBay bay s = s.answer (.releaseBay bay) .badParam [] := by
  unfold requestReleaseBay
  rw [hb]

theorem requestReleaseBay_refused (hb : bayOf bay = some b) (hs : (s.bay b).state ∉ [.benched, .dark, .faulted]) :
    requestReleaseBay bay s = s.answer (.releaseBay bay) .wrongState [(s.bay b).state.code] := by
  unfold requestReleaseBay
  rw [hb]
  dsimp only
  split
  case h_1 e => simp [e] at hs
  case h_2 e => simp [e] at hs
  case h_3 e => simp [e] at hs
  all_goals rfl

/-- A BENCHED bay is READY, and then a frame may begin. -/
theorem requestReleaseBay_benched (hb : bayOf bay = some b) (hs : (s.bay b).state = .benched) {u : State}
    (hu : (s.modBay b (fun x => { x with state := .ready })).beginFrame b = u) (hstate : (u.bay b).state = .ready) :
    requestReleaseBay bay s = u.answer (.releaseBay bay) .ok [4] := by
  unfold requestReleaseBay
  simp only [hb, hs, hu, State.stateBody, hstate]
  rfl

theorem requestReleaseBay_dark (hb : bayOf bay = some b) (hs : (s.bay b).state = .dark) :
    requestReleaseBay bay s = (s.startWake b).answer (.releaseBay bay) .ok [3] := by
  unfold requestReleaseBay
  simp only [hb, hs, State.stateBody, State.startWake_bay, if_true]
  rfl

theorem requestReleaseBay_faulted (hb : bayOf bay = some b) (hs : (s.bay b).state = .faulted) :
    requestReleaseBay bay s = (s.modBay b (fun x => { x with state := .unpowered })).answer (.releaseBay bay) .ok [1] := by
  unfold requestReleaseBay
  simp only [hb, hs, State.stateBody, State.bay_modBay, if_true]
  rfl

end

/-- Settles O24, by the state of the bay; for BENCHED by what the transmitter finds waiting. -/
theorem releaseBayReturnsAWaitingBay : Obligations.ReleaseBayReturnsAWaitingBay := by
  intro s bay hclear
  have hexec : exec (.releaseBay bay) s = .next (requestReleaseBay bay s) :=
    State.next_serve_of_clear hclear (.releaseBay bay) (requestReleaseBay bay)
  refine ⟨fun hbad => ⟨_, hexec, ?_⟩, fun b hb hs => ⟨_, hexec, ?_⟩, fun b hb hs => ?_, fun b hb hs => ⟨_, hexec, ?_⟩,
    fun b hb hs => ⟨_, hexec, ?_⟩⟩
  · rw [requestReleaseBay_bad (bayOf_eq_none.2 hbad)]
    exact s.answer_repliedAs ..
  · rw [requestReleaseBay_refused hb hs]
    exact s.answer_repliedAs ..
  · have released : ∀ l : Link, (s.modBay b (fun x => { x with state := .ready })).beginFrame b =
        s.setBay b { s.bay b with state := .ready, link := l } →
        ∃ t, exec (.releaseBay bay) s = .next t ∧
          t.repliedAs (s.setBay b { s.bay b with state := .ready, link := l }) .ok [4] := fun l hl =>
      ⟨_, hexec, by
        rw [requestReleaseBay_benched hb hs hl (by simp)]
        exact State.answer_repliedAs ..⟩
    refine ⟨fun block hbegins hout => released _ ?_, fun ask hbegins hout hask => released _ ?_,
      fun hnothing => released _ ?_⟩
    · rw [State.beginFrame_of_tunnel (block := block) ((s.modBay_run b _).trans hbegins.1) (by simpa using hbegins.2) (by simpa using hout)
        (.inl (by simp)), State.modBay_modBay]
      simp [Bay.modLink, hout]
    · rw [State.beginFrame_of_ask (ask := ask) ((s.modBay_run b _).trans hbegins.1) (by simpa using hbegins.2) (by simpa using hout)
        (by simpa using hask), State.modBay_modBay]
      rfl
    · rw [State.beginFrame_of_nothing (by simpa using hnothing)]
      rfl
  · rw [requestReleaseBay_dark hb hs]
    exact State.answer_repliedAs ..
  · rw [requestReleaseBay_faulted hb hs]
    exact State.answer_repliedAs ..

/-! ### Presence (R3, R4) -/

theorem State.raise_raisedFrom (s : State) {p : Place} (hp : ∀ i, p ≠ .ringFull i) (hq : ∀ i, p ≠ .tunnelIn i) :
    (s.raise p).raisedFrom s p := by
  unfold State.raisedFrom State.raise
  split
  · rename_i he
    rw [he]
    cases p <;> simp_all [Notices.waiting, Notices.setEvent, vector_get_set]
  · rename_i he
    rw [Bool.not_eq_true] at he
    simp [he]

theorem eventDebounceExpiry_arrives (hran : ranOut (s.bay b).debounce s.clock) (hcontact : (s.bay b).contact = true)
    (hpresent : (s.bay b).present = false) :
    eventDebounceExpiry b s = (s.modBay b (fun x => { x with debounce := none })).arrive b := by
  unfold eventDebounceExpiry
  simp [hran, hcontact, hpresent]

/-- Settles O26, clause by clause. -/
theorem presenceIsDebounced : Obligations.PresenceIsDebounced := by
  intro s b closed hnone
  have hchange : exec (.presenceContactChange b closed) s = .next (eventPresenceContactChange b closed s) :=
    State.next_before_of_none hnone _ (eventPresenceContactChange b closed)
  have hexpiry : exec (.debounceExpiry b) s = .next (eventDebounceExpiry b s) :=
    State.next_before_of_none hnone _ (eventDebounceExpiry b)
  refine ⟨fun hne hup => ?_, fun heq => ?_, fun expiry hdeb hearly => ?_, fun expiry hdeb hreached hcontact hpresent => ?_⟩
  · rw [hchange, eventPresenceContactChange, if_neg hne]
    simp only [State.modBay, Bay.contactTo, hup, Option.isSome_none, Bool.false_eq_true, if_false]
    rfl
  · rw [hchange, eventPresenceContactChange, if_pos heq]
  · rw [hexpiry, eventDebounceExpiry]
    simp [hdeb, ranOut, hearly]
  · have hran : ranOut (s.bay b).debounce s.clock := by rw [hdeb]; exact hreached
    rw [hexpiry, eventDebounceExpiry_arrives hran hcontact hpresent]
    refine ⟨_, rfl, ?_, ?_, ?_⟩
    · unfold State.arrive State.raise
      split <;> rfl
    · simp [State.arrive]
    · exact State.raise_raisedFrom _ (by simp) (by simp)

end Sys2Proof.Machine
end

section
/-! SUPPORT. What an event at a bay did to slots, records and notices, carried over the steps before and after it; and what
the removal, the wake timer, a bay reset and a sign-on did so. -/

namespace Sys2Proof.Machine

variable {s t u : State} {b : BayNo}

/-! ### Slots and records, before and after -/

theorem State.slotsMeet.right {f : Fate} (h : s.slotsMeet u b f) (hg : ∀ i, (t.gather i).slot b = (u.gather i).slot b) :
    s.slotsMeet t b f := fun i => (hg i).trans (h i)

theorem State.recordsAre.right {l : List (RecordKind × List Byte)} (h : s.recordsAre u b l) (hcells : t.cells = u.cells)
    (hring : (t.bay b).ring = (u.bay b).ring) (hfull : t.notices.ringFull.get b = u.notices.ringFull.get b) :
    s.recordsAre t b l := ⟨hcells.trans h.1, hring.trans h.2.1, hfull.trans h.2.2⟩

/-- A change of the bay's record that keeps its ring comes before the records. -/
theorem State.recordsAre.left {f : Bay → Bay} {l : List (RecordKind × List Byte)} (h : (s.modBay b f).recordsAre t b l)
    (hf : (f (s.bay b)).ring = (s.bay b).ring) : s.recordsAre t b l := (s.recordsAre_modBay b f hf).append rfl h

theorem State.outcomeRecord_congr_right (h : ∀ i, (t.gather i).slot b = (u.gather i).slot b) :
    s.outcomeRecord t b = s.outcomeRecord u b := by
  funext i
  simp only [State.outcomeRecord, h]

theorem State.queueRecords_congr_right (h : ∀ i, (t.gather i).slot b = (u.gather i).slot b) :
    s.queueRecords t b = s.queueRecords u b := by
  simp only [State.queueRecords, State.outcomeRecord_congr_right h]

theorem State.askRecord_congr_right (h : ∀ i, (t.gather i).slot b = (u.gather i).slot b) :
    s.askRecord t b = s.askRecord u b := by
  simp only [State.askRecord, State.outcomeRecord_congr_right h]

theorem State.queueRecords_modBay {f : Bay → Bay} (hf : (f (s.bay b)).queue = (s.bay b).queue) (t : State) :
    (s.modBay b f).queueRecords t b = s.queueRecords t b :=
  State.queueRecords_congr (s := s) (u := s.modBay b f) (.of_eq rfl rfl rfl) (by simpa using hf) t

theorem State.askRecord_modBay {f : Bay → Bay} (hf : (f (s.bay b)).state = (s.bay b).state) (t : State) :
    (s.modBay b f).askRecord t b = s.askRecord t b := by
  simp only [State.askRecord, State.bay_modBay, if_true, hf]
  rfl

/-! ### Notices -/

/-- Raising an event notice does not reach the condition places. -/
theorem Notices.setEvent_conditions (n : Notices) (v : Bool) (p : Place) :
    (n.setEvent v p).ringFull = n.ringFull ∧ (n.setEvent v p).tunnelIn = n.tunnelIn := by
  cases p <;> exact ⟨rfl, rfl⟩

@[simp] theorem State.raise_ringFull (s : State) (p : Place) : (s.raise p).notices.ringFull = s.notices.ringFull := by
  unfold State.raise
  split
  · exact (s.notices.setEvent_conditions true p).1
  · rfl

@[simp] theorem State.raise_tunnelIn (s : State) (p : Place) : (s.raise p).notices.tunnelIn = s.notices.tunnelIn := by
  unfold State.raise
  split
  · exact (s.notices.setEvent_conditions true p).2
  · rfl

/-- A place raised on what an event left, when the event did not reach that place or the class mask. -/
theorem State.raise_raisedFrom_of_kept {p : Place} (hp : ∀ i, p ≠ .ringFull i) (hq : ∀ i, p ≠ .tunnelIn i)
    (hkept : u.notices.waiting p = s.notices.waiting p) (hmask : u.classMask = s.classMask) :
    (u.raise p).raisedFrom s p := by
  have hraised := u.raise_raisedFrom hp hq
  unfold State.raisedFrom at hraised ⊢
  rw [hraised, hkept, State.classEnabled, State.classEnabled, hmask]

/-! ### A removal (R5) -/

/-- The bay's supply, link and timers off, before its ask is lost (R5, steps 1 to 3). -/
def Bay.takenOff (x : Bay) : Bay := x.abandonCycle.switchOff.stopTimers

theorem Bay.takenOff_kept (x : Bay) : x.takenOff.state = x.state ∧ x.takenOff.queue = x.queue ∧
    x.takenOff.window = x.window ∧ x.takenOff.ring = x.ring := by
  simp [Bay.takenOff, Bay.abandonCycle_eq, Bay.switchOff, Bay.stopTimers]

/-- The bay's slots ended, before its tunnels are emptied. -/
def State.removed (s : State) (b : BayNo) : State := ((s.modBay b Bay.takenOff).loseAsk b).unreachQueue b

theorem State.remove_eq (s : State) (b : BayNo) : s.remove b = (((s.removed b).emptyTunnels b).modBay b (fun x =>
    { x with identity := none, present := false, state := .vacant })).raise (.presence b) := rfl

theorem State.remove_slot (s : State) (b : BayNo) (i : GatherNo) :
    ((s.remove b).gather i).slot b = ((s.removed b).gather i).slot b := by
  simp [State.remove_eq, State.emptyTunnels]

theorem State.remove_slotsMeet (h : s.ExchangeAt b) :
    s.slotsMeet (s.remove b) b { sent := some .lost, queued := some .unreached } := by
  obtain ⟨hstate, hqueue, hwindow, _⟩ := (s.bay b).takenOff_kept
  have before := h.modBay Bay.takenOff hstate hqueue hwindow
  exact (State.slotsMeet_modBay hwindow (State.loseAsk_unreachQueue_slotsMeet before.ask before.queue)).right
    (s.remove_slot b)

theorem State.remove_recordsAre (h : s.ExchangeAt b) :
    s.recordsAre (s.remove b) b (s.askRecord (s.remove b) b ++ s.queueRecords (s.remove b) b) := by
  obtain ⟨hstate, hqueue, hwindow, hring⟩ := (s.bay b).takenOff_kept
  have before := h.modBay Bay.takenOff hstate hqueue hwindow
  rw [State.askRecord_congr_right (s.remove_slot b), State.queueRecords_congr_right (s.remove_slot b),
    ← State.askRecord_modBay hstate, ← State.queueRecords_modBay hqueue]
  refine ((State.loseAsk_unreachQueue_recordsAre before.ask before.queue).left hring).right ?_ ?_ ?_ <;>
    rw [State.remove_eq]
  · simp [State.emptyTunnels, State.removed]
  · simp [State.removed]
  · simp [State.emptyTunnels, State.tunnelInFalls, State.removed]

theorem State.remove_tieEnded (h : s.ExchangeAt b) : (s.remove b).converter.tieEnded s.converter b := by
  obtain ⟨hstate, hqueue, hwindow, _⟩ := (s.bay b).takenOff_kept
  have before := h.modBay Bay.takenOff hstate hqueue hwindow
  obtain ⟨_, htie, _⟩ := before.loseAsk
  have hconv : (s.remove b).converter = ((s.modBay b Bay.takenOff).loseAsk b).converter := by
    rw [← State.unreachQueue_converter (before.queue.of_slotsMeet (State.loseAsk_slotsMeet before.ask) (by simp))]
    simp [State.remove_eq, State.emptyTunnels, State.removed]
  rw [hconv]
  exact htie

theorem State.removed_ends (s : State) (b : BayNo) : s.EndsSlots b (s.removed b) :=
  ((State.EndsSlots.modBay s b Bay.takenOff (by simp [(s.bay b).takenOff_kept])).trans (State.loseAsk_ends _ b)).trans
    (State.unreachQueue_ends _ b)

theorem State.remove_raisedFrom (s : State) (b : BayNo) : (s.remove b).raisedFrom s (.presence b) := by
  have ends := s.removed_ends b
  rw [State.remove_eq]
  refine State.raise_raisedFrom_of_kept (by simp) (by simp) ?_ (by simpa [State.emptyTunnels] using ends.classMask)
  simp [Notices.waiting, State.emptyTunnels, State.tunnelInFalls, ends.events.presence]

theorem State.remove_tunnelIn (s : State) (b : BayNo) : (s.remove b).notices.tunnelIn.get b = .inactive := by
  simp [State.remove_eq, State.emptyTunnels, State.tunnelInFalls, vector_get_set]

/-! ### Going dark (R9) -/

theorem State.goDark_slot (s : State) (b : BayNo) (i : GatherNo) :
    ((s.goDark b).gather i).slot b = (((s.modBay b (fun x => { x with state := .dark })).unreachQueue b).gather i).slot b := by
  simp [State.goDark]

theorem State.goDark_slotsMeet (h : s.QueueAt b) :
    s.slotsMeet (s.goDark b) b { sent := none, queued := some .unreached } :=
  (State.slotsMeet_modBay (f := fun x => { x with state := .dark }) rfl
    (State.unreachQueue_slotsMeet (h.modBay _ rfl))).right (s.goDark_slot b)

theorem State.goDark_recordsAre (h : s.QueueAt b) :
    s.recordsAre (s.goDark b) b (s.queueRecords (s.goDark b) b) := by
  rw [State.queueRecords_congr_right (s.goDark_slot b),
    ← State.queueRecords_modBay (f := fun x => { x with state := .dark }) rfl]
  refine ((State.unreachQueue_recordsAre (h.modBay _ rfl)).left rfl).right ?_ ?_ ?_ <;> simp [State.goDark]

theorem State.goDark_converter (h : s.QueueAt b) : (s.goDark b).converter = s.converter := by
  rw [State.goDark, State.raise_converter,
    State.unreachQueue_converter (h.modBay (fun x => { x with state := .dark }) rfl)]
  rfl

theorem State.goDark_window (h : s.QueueAt b) : ((s.goDark b).bay b).window = (s.bay b).window := by
  rw [State.goDark, State.raise_bay, State.unreachQueue_window (h.modBay (fun x => { x with state := .dark }) rfl)]
  simp

theorem State.goDark_raisedFrom (s : State) (b : BayNo) : (s.goDark b).raisedFrom s (.bayDark b) := by
  have ends := (State.EndsSlots.modBay s b (fun x => { x with state := .dark }) ⟨rfl, rfl⟩).trans
    (State.unreachQueue_ends _ b)
  exact State.raise_raisedFrom_of_kept (by simp) (by simp) (congrArg (·.get b) ends.events.bayDark) ends.classMask

/-! ### RESET_BAY (R14) -/

/-- The bay's supply, link and timers off, with the supply switch at its reset values (R14, steps 1 to 3). -/
def Bay.resetOff (x : Bay) : Bay :=
  x.switchOff.stopTimers.modSupply (fun p => { p with cycleTimer := none, saved := .full })

theorem Bay.resetOff_kept (x : Bay) : x.resetOff.state = x.state ∧ x.resetOff.queue = x.queue ∧
    x.resetOff.window = x.window ∧ x.resetOff.ring = x.ring := by
  simp [Bay.resetOff, Bay.switchOff, Bay.stopTimers]

/-- The bay's slots ended by RESET_BAY, before its tunnels are emptied. -/
def State.cleared (s : State) (b : BayNo) : State := ((s.modBay b Bay.resetOff).loseAsk b).dropQueue b .cancelled

theorem State.resetBay_eq (s : State) (b : BayNo) : s.resetBay b =
    ((((s.cleared b).emptyTunnels b).modBay b Bay.clearHistory).clearBayNotices b).modBay b Bay.outOfService := rfl

theorem State.resetBay_slot (s : State) (b : BayNo) (i : GatherNo) :
    ((s.resetBay b).gather i).slot b = ((s.cleared b).gather i).slot b := by
  simp [State.resetBay_eq, State.emptyTunnels, State.clearBayNotices]

theorem State.resetBay_slotsMeet (h : s.ExchangeAt b) :
    s.slotsMeet (s.resetBay b) b { sent := some .lost, queued := some .cancelled } := by
  obtain ⟨hstate, hqueue, hwindow, hring⟩ := (s.bay b).resetOff_kept
  have before := h.modBay Bay.resetOff hstate hqueue hwindow
  exact (State.slotsMeet_modBay hwindow
    (State.loseAsk_dropQueue_slotsMeet rfl before.ask before.queue)).right (s.resetBay_slot b)

theorem State.resetBay_recordsAre (h : s.ExchangeAt b) :
    s.recordsAre (s.resetBay b) b (s.askRecord (s.resetBay b) b) := by
  obtain ⟨hstate, hqueue, hwindow, hring⟩ := (s.bay b).resetOff_kept
  have before := h.modBay Bay.resetOff hstate hqueue hwindow
  rw [State.askRecord_congr_right (s.resetBay_slot b), ← State.askRecord_modBay hstate]
  refine ((State.loseAsk_dropQueue_recordsAre rfl before.ask before.queue).left hring).right ?_ ?_ ?_ <;>
    rw [State.resetBay_eq]
  · simp [State.emptyTunnels, State.clearBayNotices, State.cleared]
  · simp [State.cleared, Bay.outOfService, Bay.clearHistory]
  · simp [State.emptyTunnels, State.clearBayNotices, State.tunnelInFalls, State.cleared, State.clearNotice,
      Notices.setEvent]

theorem State.resetBay_tieEnded (h : s.ExchangeAt b) : (s.resetBay b).converter.tieEnded s.converter b := by
  obtain ⟨hstate, hqueue, hwindow, _⟩ := (s.bay b).resetOff_kept
  obtain ⟨_, htie, _⟩ := (h.modBay Bay.resetOff hstate hqueue hwindow).loseAsk
  have hconv : (s.resetBay b).converter = ((s.modBay b Bay.resetOff).loseAsk b).converter := by
    simp [State.resetBay_eq, State.emptyTunnels, State.clearBayNotices, State.cleared]
  rw [hconv]
  exact htie

theorem State.resetBay_notices (s : State) (b : BayNo) :
    (s.resetBay b).notices.bayFault.get b = false ∧ (s.resetBay b).notices.bayDark.get b = false ∧
    (s.resetBay b).notices.presence.get b = false ∧ (s.resetBay b).notices.signedOn.get b = false ∧
    (s.resetBay b).notices.tunnelIn.get b = .inactive := by
  simp [State.resetBay_eq, State.clearBayNotices, State.clearNotice, Notices.setEvent, State.emptyTunnels,
    State.tunnelInFalls, vector_get_set]

end Sys2Proof.Machine
end

section
/-! PROOFS. The end of the wake timer, a removal and a bay reset (R5, R9, R14). -/

namespace Sys2Proof.Machine

/-- Settles O29: the bay goes dark, and its queue ends UNREACHED. -/
theorem theWakeTimerEndsInDark : Obligations.TheWakeTimerEndsInDark := by
  intro s b expiry hnone h hs htimer hreached
  have hran : ranOut (s.bay b).link.wakeTimer s.clock := by rw [htimer]; exact hreached
  have queue : (s.modBay b Bay.stopWake).QueueAt b := (h.exchangeAt b).queue.modBay _ rfl
  obtain ⟨r, w, e⟩ := (s.modBay b Bay.stopWake).goDark_bay b
  rw [State.bay_modBay, if_pos rfl] at e
  have records : s.recordsAre ((s.modBay b Bay.stopWake).goDark b) b
      (s.queueRecords ((s.modBay b Bay.stopWake).goDark b) b) := by
    rw [← State.queueRecords_modBay (f := Bay.stopWake) rfl]
    exact (State.goDark_recordsAre queue).left rfl
  have ring := records.ring
  rw [State.queueRecords_length] at ring
  have window : (((s.modBay b Bay.stopWake).goDark b).bay b).window = (s.bay b).window :=
    (State.goDark_window queue).trans (by simp [Bay.stopWake])
  refine ⟨(s.modBay b Bay.stopWake).goDark b, ?_, ?_, ?_, ?_, ?_, window, ?_, ?_, ring.1, ring.2, records,
    State.goDark_converter queue, State.slotsMeet_modBay rfl (State.goDark_slotsMeet queue),
    State.goDark_raisedFrom _ b⟩
  · rw [← eventWakeTimerExpiry_of_waking hs hran]
    exact State.next_before_of_none hnone _ (eventWakeTimerExpiry b)
  all_goals rw [e]
  · rfl
  · rfl
  · exact ⟨rfl, rfl, rfl, rfl⟩
  · exact ⟨rfl, rfl⟩

theorem eventDebounceExpiry_removes {s : State} {b : BayNo} (hran : ranOut (s.bay b).debounce s.clock)
    (hcontact : (s.bay b).contact = false) (hpresent : (s.bay b).present = true) :
    eventDebounceExpiry b s = (s.modBay b (fun x => { x with debounce := none })).remove b := by
  unfold eventDebounceExpiry
  simp [hran, hcontact, hpresent]

/-- Settles O27: the debounce timer stops, and the bay is removed. -/
theorem aRemovalClearsTheBay : Obligations.ARemovalClearsTheBay := by
  intro s b expiry hnone h hdeb hreached hcontact hpresent
  have hran : ranOut (s.bay b).debounce s.clock := by rw [hdeb]; exact hreached
  have exchange : (s.modBay b (fun x => { x with debounce := none })).ExchangeAt b :=
    (h.exchangeAt b).modBay _ rfl rfl rfl
  obtain ⟨r, w, e⟩ := (s.modBay b (fun x => { x with debounce := none })).remove_bay b
  rw [State.bay_modBay, if_pos rfl] at e
  have records : s.recordsAre ((s.modBay b (fun x => { x with debounce := none })).remove b) b
      (s.askRecord ((s.modBay b (fun x => { x with debounce := none })).remove b) b ++
        s.queueRecords ((s.modBay b (fun x => { x with debounce := none })).remove b) b) := by
    rw [← State.askRecord_modBay (f := fun x => { x with debounce := none }) rfl,
      ← State.queueRecords_modBay (f := fun x => { x with debounce := none }) rfl]
    exact (State.remove_recordsAre exchange).left rfl
  have ring := records.ring
  rw [List.length_append, State.askRecord_length _ (h.exchangeAt b).ask, State.queueRecords_length] at ring
  have hcycle : (if (s.bay b).state = .cycling then none else (s.bay b).supply.cycleTimer) = none := by
    split
    · rfl
    · rename_i hc; exact (h.bay b).cycleTimer_none hc
  have hout : (if (s.bay b).state = .asking then none else (s.bay b).link.outstanding) = none := by
    split
    · rfl
    · rename_i ha; exact ((h.bay b).quiet ha).2.1
  refine ⟨(s.modBay b (fun x => { x with debounce := none })).remove b, ?_, ?_, ?_, ?_, ?_, ?_, ?_, ?_, ?_, ?_, ?_, ?_, ?_,
    ?_, ?_, (State.remove_askOver exchange).window, ring.1, ring.2, records, State.remove_tieEnded exchange,
    State.slotsMeet_modBay rfl (State.remove_slotsMeet exchange), State.remove_raisedFrom _ b, State.remove_tunnelIn _ b⟩
  · rw [← eventDebounceExpiry_removes hran hcontact hpresent]
    exact State.next_before_of_none hnone _ (eventDebounceExpiry b)
  all_goals rw [e]
  · exact hcontact
  · simp only [hcycle]
  · exact ⟨rfl, rfl, rfl, rfl, rfl, rfl, hout, rfl⟩
  · exact ⟨rfl, rfl, rfl, rfl⟩

theorem requestResetBay_some {s : State} {bay : Byte} {b : BayNo} (hb : bayOf bay = some b) :
    requestResetBay bay s = (s.resetBay b).answer (.resetBay bay) .ok ((s.resetBay b).stateBody b) := by
  unfold requestResetBay
  rw [hb]

/-- Settles O25: the bay's slots end, and its record is that of a bay at reset but for what R15 keeps. -/
theorem resetBayClearsAndKeeps : Obligations.ResetBayClearsAndKeeps := by
  intro s bay hclear
  have hexec : exec (.resetBay bay) s = .next (requestResetBay bay s) :=
    State.next_serve_of_clear hclear (.resetBay bay) (requestResetBay bay)
  refine ⟨fun hbad => ⟨_, hexec, ?_⟩, fun b h hb => ⟨_, hexec, ?_⟩⟩
  · unfold requestResetBay
    rw [bayOf_eq_none.2 hbad]
    exact s.answer_repliedAs ..
  · have exchange := h.exchangeAt b
    rw [requestResetBay_some hb]
    have hslot : ∀ c st body i, (((s.resetBay b).answer c st body).gather i).slot b = ((s.resetBay b).gather i).slot b :=
      fun c st body i => by simp
    have records : ∀ c st body, s.recordsAre ((s.resetBay b).answer c st body) b
        (s.askRecord ((s.resetBay b).answer c st body) b) := fun c st body => by
      rw [State.askRecord_congr_right (hslot c st body)]
      exact (State.resetBay_recordsAre exchange).right (by simp) (by simp) (by simp)
    have ring := (records (.resetBay bay) .ok ((s.resetBay b).stateBody b)).ring
    rw [State.askRecord_length _ exchange.ask] at ring
    obtain ⟨r, w, e⟩ := s.resetBay_bay b
    have hout : (if (s.bay b).state = .asking then none else (s.bay b).link.outstanding) = none := by
      split
      · rfl
      · rename_i ha; exact ((h.bay b).quiet ha).2.1
    refine ⟨?_, ?_, ?_, ?_, ?_, ?_, ?_, ?_, ?_, ring.1, ring.2, records _ _ _, ?_,
      (State.resetBay_slotsMeet exchange).right (hslot _ _ _), ?_⟩
    · rw [State.answer_bay]
      exact State.answer_repliesWith ..
    case refine_8 => rw [State.answer_bay]; exact (State.resetBay_askOver exchange).window
    case refine_10 => rw [State.answer_converter]; exact State.resetBay_tieEnded exchange
    case refine_11 => rw [State.answer_notices]; exact s.resetBay_notices b
    all_goals rw [State.answer_bay, e]
    · simp only [hout]; rfl
    · exact ⟨rfl, rfl, rfl, rfl⟩

end Sys2Proof.Machine
end

section
/-! PROOFS. An accepted sign-on (R6, R7, R27, R29, R34, R132, R137). -/

namespace Sys2Proof.Machine

variable {s : State} {b : BayNo}

theorem State.signedOn_slot (s : State) (b : BayNo) (a : SignOn) (i : GatherNo) :
    ((s.signedOn b a).gather i).slot b = ((s.loseAsk b).gather i).slot b := by
  simp [State.signedOn]

theorem State.signOn_slot (s : State) (b : BayNo) (a : SignOn) (i : GatherNo) :
    ((s.signOn b a).gather i).slot b = ((s.loseAsk b).gather i).slot b := by
  rw [State.signOn_eq, ← State.signedOn_slot s b a, State.gather_eq_get, State.beginFrame_gathers]
  rfl

theorem State.signOn_slotsMeet (h : s.AskAt b) (a : SignOn) :
    s.slotsMeet (s.signOn b a) b { sent := some .lost, queued := none } :=
  (State.loseAsk_slotsMeet h).right (s.signOn_slot b a)

theorem State.beginFrame_ring (s : State) (b : BayNo) : ((s.beginFrame b).bay b).ring = (s.bay b).ring := by
  obtain ⟨_, _, _, e⟩ := s.beginFrame_bay b b
  rw [e, if_pos rfl]

/-- The own fields of the SIGN_ON record of a sign-on at a bay (R137, R184). -/
def Bay.signOnRecord (x : Bay) (a : SignOn) : List Byte :=
  put 2 a.version ++ [BitVec.ofNat 8 a.serial.length] ++ padTo 24 a.serial ++
    [flagByte (x.identity.any (fun i => i.serial != a.serial))]

theorem Bay.signOnRecord_eq (x : Bay) (a : SignOn) :
    x.signOnRecord a = signOnFields a (identityChanged x.identity a.serial) := by
  unfold Bay.signOnRecord signOnFields identityChanged
  cases x.identity <;> rfl

theorem State.signOn_recordsAre (h : s.AskAt b) (a : SignOn) :
    s.recordsAre (s.signOn b a) b (s.askRecord (s.signOn b a) b ++ [(.signOn, (s.bay b).signOnRecord a)]) := by
  rw [State.askRecord_congr_right (s.signOn_slot b a), Bay.signOnRecord_eq,
    ← s.loseAsk_bay_identity b]
  refine (State.loseAsk_recordsAre h).append (by simp) ?_
  refine ((State.recordsAre_writeRecord _ b _ _).left (f := fun x => { x.stopWake with
    state := x.state.afterSignOn
    identity := some { serial := a.serial, version := a.version, time := (s.loseAsk b).clock }
    signOns := satInc x.signOns
    link := { x.stopWake.link with nextTag := 1 } }) rfl).right ?_ ?_ ?_
  · rw [State.signOn_eq, State.beginFrame_cells, State.signedOn, State.raise_cells]
  · rw [State.signOn_eq, State.beginFrame_ring, State.signedOn, State.raise_bay]
  · rw [State.signOn_eq, State.beginFrame_notices, State.signedOn, State.raise_ringFull]

theorem State.signOn_converter (s : State) (b : BayNo) (a : SignOn) :
    (s.signOn b a).converter = (s.loseAsk b).converter := by
  simp [State.signOn_eq, State.signedOn]

theorem State.signOn_raisedFrom (s : State) (b : BayNo) (a : SignOn) : (s.signOn b a).raisedFrom s (.signedOn b) := by
  have ends := s.loseAsk_ends b
  have raised : (s.signedOn b a).raisedFrom s (.signedOn b) := by
    refine State.raise_raisedFrom_of_kept (by simp) (by simp) ?_ (by simp)
    have written := (State.writeRecord_eventsKept ((s.loseAsk b).modBay b (fun x => { x.stopWake with
      state := x.state.afterSignOn
      identity := some { serial := a.serial, version := a.version, time := (s.loseAsk b).clock }
      signOns := satInc x.signOns
      link := { x.stopWake.link with nextTag := 1 } })) b .signOn
      (signOnFields a (identityChanged ((s.loseAsk b).bay b).identity a.serial))).signedOn
    exact congrArg (·.get b) (written.trans ends.events.signedOn)
  unfold State.raisedFrom at raised ⊢
  rw [State.signOn_eq, State.beginFrame_notices]
  exact raised

/-- With no ask pending only a waiting tunnel frame begins, and nothing but the transmitter and its frame changes
(R29). -/
theorem State.beginFrame_bay_of_no_ask (hask : (s.bay b).link.pendingAsk = none)
    (hs : (s.bay b).state = .ready ∨ (s.bay b).state = .asking ∨ (s.bay b).state = .benched) :
    ∃ tr frame, (s.beginFrame b).bay b =
        { s.bay b with link := { (s.bay b).link with transmitter := tr, frameOut := frame } } ∧
      (∀ block, s.run = .run → (s.bay b).link.transmitter = .idle → (s.bay b).link.tunnelOut = some block →
        tr = .sendingTunnel ∧ frame = tunnelFrame block) ∧
      (s.run = .held ∨ (s.bay b).link.transmitter ≠ .idle ∨ (s.bay b).link.tunnelOut = none →
        tr = (s.bay b).link.transmitter ∧ frame = (s.bay b).link.frameOut) := by
  by_cases hbegins : s.run = .run ∧ (s.bay b).link.transmitter = .idle ∧ (s.bay b).link.tunnelOut ≠ none
  · obtain ⟨hrun, hidle, hout⟩ := hbegins
    obtain ⟨block, hblock⟩ := Option.ne_none_iff_exists'.1 hout
    refine ⟨.sendingTunnel, tunnelFrame block, ?_, fun other _ _ hother => ⟨rfl, ?_⟩, ?_⟩
    · rw [State.beginFrame_of_tunnel hrun hidle hblock hs, State.bay_modBay, if_pos rfl]
      simp [Bay.modLink, hblock]
    · rw [hblock] at hother
      rw [Option.some.inj hother]
    · rintro (hheld | hbusy | hempty)
      exacts [absurd (hrun.symm.trans hheld) (by decide), absurd hidle hbusy, absurd hempty hout]
  · have hnothing : ¬(s.run = .run ∧ (s.bay b).link.transmitter = .idle) ∨
        (s.bay b).link.tunnelOut = none ∧ (s.bay b).link.pendingAsk = none := by
      by_cases hready : s.run = .run ∧ (s.bay b).link.transmitter = .idle
      · exact .inr ⟨by_contra fun hout => hbegins ⟨hready.1, hready.2, hout⟩, hask⟩
      · exact .inl hready
    refine ⟨(s.bay b).link.transmitter, (s.bay b).link.frameOut, ?_, fun block hrun hidle hout => ?_, fun _ => ⟨rfl, rfl⟩⟩
    · rw [State.beginFrame_of_nothing hnothing]
    · exact absurd ⟨hrun, hidle, by simp [hout]⟩ hbegins

theorem State.cells_of_recordsAre_one {t : State} {kind : RecordKind} {own : List Byte}
    (h : s.recordsAre t b [(kind, own)]) : t.cells = s.cellsAfter b kind own := by
  rw [h.1]
  exact s.writeRecord_cells b kind own

theorem eventSignOnAccepted_of_accepts {f : BayFrame} {a : SignOn} (hacc : (s.bay b).link.accepts kindSignOn f)
    (ha : readSignOn f.body = some a) : eventSignOnAccepted b f s = (s.huntAgain b).signOn b a := by
  unfold eventSignOnAccepted
  rw [if_pos hacc, ha]

theorem Link.endAsk_ite_of_quiet {l : Link} {p : Prop} [Decidable p] (h : ¬p → l.quiet) :
    (if p then l.endAsk else l) = l.endAsk := by
  split
  · rfl
  · rename_i hp
    obtain ⟨hpending, hout, htimer⟩ := h hp
    rw [Link.endAsk, ← hpending, ← hout, ← htimer]

/-- The record of a bay that agrees, after its sign-on was accepted and before a frame may begin. -/
theorem State.acceptedSignOn_bay (h : s.tableAgrees) (hon : (s.bay b).state.supplyOff = false) (a : SignOn) :
    ∃ r w, ((s.huntAgain b).signedOn b a).bay b = { s.bay b with
      state := if (s.bay b).state = .benched then .benched else .ready
      identity := some { serial := a.serial, version := a.version, time := s.clock }
      signOns := satInc (s.bay b).signOns
      link := { (s.bay b).link.hunt.endAsk with wakeTimer := none, nextTag := 1 }
      ring := r, window := w } := by
  obtain ⟨r, w, e⟩ := (s.huntAgain b).signedOn_bay b a
  refine ⟨r, w, ?_⟩
  have hunted : (s.huntAgain b).bay b = (s.bay b).modLink Link.hunt := by simp [State.huntAgain]
  have hlink : (if ((s.bay b).modLink Link.hunt).state = .asking then ((s.bay b).modLink Link.hunt).link.endAsk
      else ((s.bay b).modLink Link.hunt).link) = (s.bay b).link.hunt.endAsk :=
    Link.endAsk_ite_of_quiet (h.bay b).quiet
  rw [e, hunted, hlink, Bay.modLink_state, BayState.afterSignOn_of_on hon]
  rfl

/-- Settles O28: the receiver hunts, the ask is lost, the identity is replaced, and then a tunnel frame may begin. -/
theorem aSignOnReplacesTheIdentity : Obligations.ASignOnReplacesTheIdentity := by
  intro s b f a hnone h hacc ha
  obtain ⟨got, hr⟩ := Link.receiver_of_accepts hacc
  have hon : (s.bay b).state.supplyOff = false := by
    rw [← Bool.not_eq_true, ← (h.bay b).supply.receiver, hr]
    simp
  have exchange : (s.huntAgain b).ExchangeAt b := (h.exchangeAt b).modBay _ rfl rfl rfl
  have records : s.recordsAre ((s.huntAgain b).signOn b a) b
      (s.askRecord ((s.huntAgain b).signOn b a) b ++ [(.signOn, (s.bay b).signOnRecord a)]) := by
    have hidentity : ((s.huntAgain b).bay b).identity = (s.bay b).identity := by simp [State.huntAgain]
    rw [← State.askRecord_modBay (f := fun x => x.modLink Link.hunt) rfl]
    have := (State.signOn_recordsAre exchange.ask a).left rfl
    rwa [Bay.signOnRecord, hidentity] at this
  have ring := records.ring
  rw [List.length_append, State.askRecord_length _ (h.exchangeAt b).ask] at ring
  obtain ⟨r, w, e⟩ := State.acceptedSignOn_bay h hon a
  generalize hv : (s.huntAgain b).signedOn b a = v at e
  have hrun : v.run = s.run := by rw [← hv]; simp [State.signedOn, State.huntAgain]
  obtain ⟨tr, frame, e', hbegins, hkept⟩ := State.beginFrame_bay_of_no_ask (s := v) (b := b) (by rw [e]; rfl)
    (by rw [e]; dsimp only; split <;> simp)
  rw [← hv, ← State.signOn_eq, hv, e] at e'
  rw [hrun, e] at hbegins hkept
  refine ⟨(s.huntAgain b).signOn b a, ?taken, ?state, ?identity, ?signOns, ?nextTag, ?receiver, ?gap, ?wakeTimer,
    ?quiet, ?begins, ?sendingKept, ?tie, ?tunnels, ?rates, ?supply, ?queue, ?closed, ?seat, ring.1, ring.2,
    fun hs => ?cells, records, State.slotsMeet_modBay rfl (State.signOn_slotsMeet exchange.ask a),
    State.signOn_raisedFrom _ b a⟩
  case taken =>
    rw [← eventSignOnAccepted_of_accepts hacc ha]
    exact State.next_before_of_none hnone _ (eventSignOnAccepted b f)
  case tie => rw [State.signOn_converter]; exact exchange.loseAsk.2.1
  case cells =>
    exact State.cells_of_recordsAre_one (own := (s.bay b).signOnRecord a) (by simpa [State.askRecord, hs] using records)
  case closed => rw [State.signOn_eq]; exact (State.signedOn_askOver exchange a).beginFrame.window
  all_goals rw [e']
  case receiver => rfl
  case gap => rfl
  case begins => exact hbegins
  case sendingKept => exact hkept
  case quiet => exact ⟨rfl, rfl, rfl⟩
  case tunnels => exact ⟨rfl, rfl⟩
  case rates => exact ⟨rfl, rfl, rfl, rfl⟩
  case seat => exact ⟨rfl, rfl, rfl, rfl⟩

end Sys2Proof.Machine
end

section
/-! PROOFS. The body of BAY_STATUS as a list of fields, and each field at its offset (R16, R181, R183). -/

namespace Sys2Proof.Machine

/-! ### A body made of fields -/

/-- Consecutive fields of a body stand at the sum of the sizes before them. -/
theorem bytesAt_fields {fields : List (List Byte)} {sizes : List Nat} (hs : fields.map List.length = sizes) (k n : Nat) :
    bytesAt fields.flatten (sizes.take k).sum ((sizes.drop k).take n).sum = ((fields.drop k).take n).flatten := by
  subst hs
  rw [bytesAt, List.drop_sum_flatten, ← List.map_drop, List.take_sum_flatten]

/-- One field of a body. -/
theorem bytesAt_field {fields : List (List Byte)} {sizes : List Nat} (hs : fields.map List.length = sizes) (k : Nat)
    {offset size : Nat} {f : List Byte} (hoffset : (sizes.take k).sum = offset) (hsize : sizes[k]? = some size)
    (hf : fields[k]? = some f) : bytesAt fields.flatten offset size = f := by
  have := bytesAt_fields hs k 1
  rw [hoffset] at this
  simpa [List.take_one, List.head?_drop, hsize, hf] using this

theorem getElem?_of_bytesAt {body : List Byte} {offset : Nat} {x : Byte} (h : bytesAt body offset 1 = [x]) :
    body[offset]? = some x := by
  rw [bytesAt, List.take_one, List.head?_drop] at h
  simpa using h

theorem numberAt_of_byte {body : List Byte} {offset n : Nat} (h : bytesAt body offset 1 = [BitVec.ofNat 8 n])
    (hn : n < 256) : numberAt body offset 1 = n := by
  rw [numberAt, h]
  simpa [readLE] using hn

theorem numberAt_of_leBytes {body : List Byte} {offset size n : Nat} (h : bytesAt body offset size = leBytes size n)
    (hn : n < 256 ^ size) : numberAt body offset size = n := by
  rw [numberAt, h, readLE_leBytes_of_lt hn]

theorem numberAt_of_put {w : Nat} {body : List Byte} {offset size : Nat} {x : BitVec w}
    (h : bytesAt body offset size = put size x) (hw : 2 ^ w ≤ 256 ^ size) : numberAt body offset size = x.toNat :=
  numberAt_of_leBytes h (x.isLt.trans_le hw)

theorem putOption_some {w : Nat} (k : Nat) (x : BitVec w) : putOption k (some x) = put k x := rfl

/-! ### The fields of BAY_STATUS -/

/-- The presence bits of BAY_STATUS (R181). -/
def Bay.presenceBits (x : Bay) : Nat :=
  bitWhen x.identity.isSome 0 + bitWhen x.link.tunnelOut.isSome 1 + bitWhen x.link.tunnelIn.isSome 2

theorem Bay.presenceBits_eq (x : Bay) : x.presenceBits =
    (if x.identity.isSome then 1 else 0) + (if x.link.tunnelOut.isSome then 2 else 0) +
      (if x.link.tunnelIn.isSome then 4 else 0) := rfl

theorem Bay.presenceBits_lt (x : Bay) : x.presenceBits < 256 := by
  unfold Bay.presenceBits bitWhen
  split <;> split <;> split <;> decide

/-- The serial of a bay's identity, empty when there is none. -/
def Bay.serialBytes (x : Bay) : List Byte := (x.identity.map (·.serial)).getD []

/-- The fields of BAY_STATUS in the order of R183. -/
def bayStatusFields (b : BayNo) (x : Bay) : List (List Byte) :=
  [[BitVec.ofNat 8 b.val], [x.state.code], [flagByte x.present], [x.supply.mode.code], [x.supply.saved.code],
    [BitVec.ofNat 8 x.presenceBits], putOption 2 (x.identity.map (·.version)), [BitVec.ofNat 8 x.serialBytes.length],
    padTo 24 x.serialBytes, putOption 6 (x.identity.map (·.time)), put 2 x.signOns,
    [BitVec.ofNat 8 x.link.lineRate.val], [x.link.nextTag], put 2 x.link.linkErrors, put 2 x.link.stale,
    put 2 x.link.tunnelDrops, put 2 x.supply.trips, put 2 x.supply.sags, [BitVec.ofNat 8 x.queue.length],
    leBytes 2 x.ring.occupancy]

/-- The sizes of the fields of BAY_STATUS. -/
def bayStatusSizes : List Nat := [1, 1, 1, 1, 1, 1, 2, 1, 24, 6, 2, 1, 1, 2, 2, 2, 2, 2, 1, 2]

theorem bayStatusBody_eq_flatten (b : BayNo) (x : Bay) : bayStatusBody b x = (bayStatusFields b x).flatten := by
  simp [bayStatusBody, bayStatusFields, Bay.presenceBits, Bay.serialBytes]

theorem Bay.serialBytes_length_le {x : Bay} (h : ∀ i, x.identity = some i → i.serial.length ≤ 24) :
    x.serialBytes.length ≤ 24 := by
  unfold Bay.serialBytes
  cases hi : x.identity with
  | none => simp
  | some i => exact h i hi

theorem bayStatusFields_sizes {b : BayNo} {x : Bay} (h : x.serialBytes.length ≤ 24) :
    (bayStatusFields b x).map List.length = bayStatusSizes := by
  simp [bayStatusFields, bayStatusSizes, h]

theorem bayStatusBody_length {b : BayNo} {x : Bay} (h : x.serialBytes.length ≤ 24) :
    (bayStatusBody b x).length = 56 := by
  rw [bayStatusBody_eq_flatten, List.length_flatten, bayStatusFields_sizes h]
  rfl

/-- A field of BAY_STATUS at its offset. -/
theorem bayStatusBody_field {b : BayNo} {x : Bay} (h : x.serialBytes.length ≤ 24) (k : Nat) {offset size : Nat}
    {f : List Byte} (hoffset : (bayStatusSizes.take k).sum = offset) (hsize : bayStatusSizes[k]? = some size)
    (hf : (bayStatusFields b x)[k]? = some f) : bytesAt (bayStatusBody b x) offset size = f := by
  rw [bayStatusBody_eq_flatten]
  exact bytesAt_field (bayStatusFields_sizes h) k hoffset hsize hf

/-- The four identity fields of BAY_STATUS, with the identity absent: 33 zero bytes. -/
theorem bayStatusBody_no_identity {b : BayNo} {x : Bay} (hi : x.identity = none) :
    bytesAt (bayStatusBody b x) 6 33 = List.replicate 33 0 := by
  have hserial : x.serialBytes = [] := by rw [Bay.serialBytes, hi]; rfl
  have fields := bytesAt_fields (bayStatusFields_sizes (b := b) (x := x) (by simp [hserial])) 6 4
  rw [bayStatusBody_eq_flatten]
  refine Eq.trans fields ?_
  simp only [bayStatusFields, hserial, hi]
  rfl

theorem bayStatusBody_identity {b : BayNo} {x : Bay} {i : Identity} (hi : x.identity = some i)
    (h : i.serial.length ≤ 24) :
    numberAt (bayStatusBody b x) 6 2 = i.version.toNat ∧ numberAt (bayStatusBody b x) 8 1 = i.serial.length ∧
      bytesAt (bayStatusBody b x) 9 24 = padTo 24 i.serial ∧ numberAt (bayStatusBody b x) 33 6 = i.time.toNat := by
  have hserial : x.serialBytes = i.serial := by rw [Bay.serialBytes, hi]; rfl
  have field := fun k {offset size f} => bayStatusBody_field (b := b) (hserial ▸ h) k (offset := offset)
    (size := size) (f := f)
  refine ⟨numberAt_of_put (field 6 rfl rfl ?_) (by norm_num),
    numberAt_of_byte (field 7 rfl rfl ?_) (by omega), field 8 rfl rfl ?_, numberAt_of_put (field 9 rfl rfl ?_) (by norm_num)⟩ <;>
    simp [bayStatusFields, hserial, hi, putOption_some]

theorem requestBayStatus_bad {s : State} {bay : Byte} (h : bayOf bay = none) :
    requestBayStatus bay s = s.answer (.bayStatus bay) .badParam [] := by
  rw [requestBayStatus, h]

theorem requestBayStatus_ok {s : State} {bay : Byte} {b : BayNo} (h : bayOf bay = some b) :
    requestBayStatus bay s = s.answer (.bayStatus bay) .ok (bayStatusBody b (s.bay b)) := by
  rw [requestBayStatus, h]

theorem ofNat_bayOf {n : Byte} {b : BayNo} (h : bayOf n = some b) : BitVec.ofNat 8 b.val = n := by
  rw [← bayOf_eq_some.1 h, BitVec.ofNat_toNat, BitVec.setWidth_eq]

/-- Settles O10: each field of the body at its offset. -/
theorem bayStatusReportsTheBayRecord : Obligations.BayStatusReportsTheBayRecord := by
  intro s bay hclear
  have hexec : exec (.bayStatus bay) s = .next (requestBayStatus bay s) :=
    State.next_serve_of_clear hclear (.bayStatus bay) (requestBayStatus bay)
  refine ⟨fun b hb hqueue hring hserial => ?_, fun hbad => ⟨_, hexec, ?_⟩, by decide, by decide, by decide⟩
  · have hlen := Bay.serialBytes_length_le hserial
    have field := fun k {offset size f} => bayStatusBody_field (b := b) hlen k (offset := offset) (size := size) (f := f)
    obtain ⟨-, hqueue⟩ : _ ∧ (s.bay b).queue.length ≤ 8 := by simpa [Bay.queueConsistent] using hqueue
    have hoccupancy : (s.bay b).ring.occupancy ≤ 4096 := by
      simp [Ring.consistent] at hring
      omega
    have wide : 2 ^ 16 ≤ 256 ^ 2 := by norm_num
    refine ⟨_, bayStatusBody b (s.bay b), hexec, ?_, bayStatusBody_length hlen, ?_,
      getElem?_of_bytesAt (field 1 rfl rfl rfl), getElem?_of_bytesAt (field 2 rfl rfl rfl),
      getElem?_of_bytesAt (field 3 rfl rfl rfl), getElem?_of_bytesAt (field 4 rfl rfl rfl), ?_,
      fun i hi => bayStatusBody_identity hi (hserial i hi), bayStatusBody_no_identity,
      numberAt_of_put (field 10 rfl rfl rfl) wide, numberAt_of_byte (field 11 rfl rfl rfl) (by omega),
      getElem?_of_bytesAt (field 12 rfl rfl rfl), numberAt_of_put (field 13 rfl rfl rfl) wide,
      numberAt_of_put (field 14 rfl rfl rfl) wide, numberAt_of_put (field 15 rfl rfl rfl) wide,
      numberAt_of_put (field 16 rfl rfl rfl) wide, numberAt_of_put (field 17 rfl rfl rfl) wide,
      numberAt_of_byte (field 18 rfl rfl rfl) (by omega),
      numberAt_of_leBytes (field 19 rfl rfl rfl) (by omega)⟩
    · rw [requestBayStatus_ok hb]
      exact s.answer_repliedAs ..
    · rw [← ofNat_bayOf hb]
      exact getElem?_of_bytesAt (field 0 rfl rfl rfl)
    · rw [← Bay.presenceBits_eq]
      exact numberAt_of_byte (field 5 rfl rfl rfl) (s.bay b).presenceBits_lt
  · rw [requestBayStatus_bad (bayOf_eq_none.2 hbad)]
    exact s.answer_repliedAs ..

end Sys2Proof.Machine
end

section
/-! PROOFS. The line rate and the bay receiver: the bytes, faults and gaps of a frame, the frames it discards and the
answers it only counts (R23 to R26, R31, R35). -/

namespace Sys2Proof.Machine

variable {s : State} {b : BayNo}

/-! ### SET_LINE_RATE (R35) -/

theorem lineRateOf_eq_none {code : Byte} : lineRateOf code = none ↔ 3 < code.toNat := by
  unfold lineRateOf
  split <;> simp <;> omega

theorem lineRateOf_eq_some {code : Byte} {r : Fin 4} : lineRateOf code = some r ↔ code.toNat = r.val := by
  unfold lineRateOf
  split
  · simp [Fin.ext_iff]
  · simp; omega

theorem requestSetLineRate_bad {bay rate : Byte} (h : bayOf bay = none ∨ lineRateOf rate = none) :
    requestSetLineRate bay rate s = s.answer (.setLineRate bay rate) .badParam [] := by
  unfold requestSetLineRate
  split
  · rename_i hb hr
    rcases h with h | h <;> simp_all
  · rfl

theorem requestSetLineRate_powered {bay rate : Byte} {r : Fin 4} (hb : bayOf bay = some b) (hr : lineRateOf rate = some r)
    (hs : (s.bay b).state ∉ [.vacant, .unpowered]) :
    requestSetLineRate bay rate s = s.answer (.setLineRate bay rate) .wrongState [] := by
  unfold requestSetLineRate
  rw [hb, hr]
  exact if_neg (by simpa using hs)

theorem requestSetLineRate_ok {bay rate : Byte} {r : Fin 4} (hb : bayOf bay = some b) (hr : lineRateOf rate = some r)
    (hs : (s.bay b).state ∈ [.vacant, .unpowered]) :
    requestSetLineRate bay rate s =
      (s.setBay b { s.bay b with link := { (s.bay b).link with lineRate := r } }).answer (.setLineRate bay rate) .ok
        [rate] := by
  unfold requestSetLineRate
  rw [hb, hr]
  exact if_pos (by simpa using hs)

/-- Settles O30, by the operands and the state of the bay. -/
theorem setLineRateOnlyWhileUnpowered : Obligations.SetLineRateOnlyWhileUnpowered := by
  intro s bay rate hclear
  have hexec : exec (.setLineRate bay rate) s = .next (requestSetLineRate bay rate s) :=
    State.next_serve_of_clear hclear (.setLineRate bay rate) (requestSetLineRate bay rate)
  refine ⟨fun hbad => ⟨_, hexec, ?_⟩, fun b hb hrate hs => ⟨_, hexec, ?_⟩, fun b r hb hrate hs => ⟨_, hexec, ?_⟩⟩
  · rw [requestSetLineRate_bad (hbad.imp bayOf_eq_none.2 lineRateOf_eq_none.2)]
    exact s.answer_repliedAs ..
  · rw [requestSetLineRate_powered (r := ⟨rate.toNat, by omega⟩) hb (lineRateOf_eq_some.2 rfl) hs]
    exact s.answer_repliedAs ..
  · rw [requestSetLineRate_ok hb (lineRateOf_eq_some.2 hrate) hs]
    exact State.answer_repliedAs ..

/-! ### Bytes at the receiver (R23) -/

theorem Link.receive_of_disabled {l : Link} (h : l.receiver = .disabled) (byte : Byte) (clock : Time) :
    l.receive byte clock = l := by
  simp only [Link.receive, h]

theorem Link.receive_of_hunting {l : Link} (h : l.receiver = .hunting) (byte : Byte) (clock : Time) :
    l.receive byte clock =
      if byte = 0xA5 then { l with receiver := .syncSeen, gap := some (clock + 2000) } else l := by
  simp only [Link.receive, h]
  rfl

theorem Link.receive_of_syncSeen {l : Link} (h : l.receiver = .syncSeen) (byte : Byte) (clock : Time) :
    l.receive byte clock =
      if byte = 0x5A then { l with receiver := .inFrame [], gap := some (clock + 2000) }
      else if byte = 0xA5 then { l with gap := some (clock + 2000) } else l.hunt := by
  simp only [Link.receive, h]
  rfl

/-- A byte joins the frame in assembly (R24, R25): it is a kind or a tag, a length that the kind takes, or a byte of
the body or the first of the check. -/
theorem bayFrameByte_joins {got : List Byte} {byte : Byte}
    (h : got.length ≤ 1 ∨ (∃ kind tag, got = [kind, tag] ∧ bayHeaderTakes kind byte) ∨
      (∃ kind tag length rest, got = kind :: tag :: length :: rest ∧ rest.length + 1 < length.toNat + 2)) :
    bayFrameByte got byte = some (got ++ [byte]) := by
  rcases h with hshort | ⟨kind, tag, rfl, htakes⟩ | ⟨kind, tag, length, rest, rfl, hbody⟩
  · match got, hshort with
    | [], _ => rfl
    | [_], _ => rfl
  · exact if_pos htakes
  · exact if_pos (show rest.length + 3 + 1 < 3 + length.toNat + 2 by omega)

theorem Link.receive_of_inFrame {l : Link} {got : List Byte} {byte : Byte} (h : l.receiver = .inFrame got)
    (hjoins : bayFrameByte got byte = some (got ++ [byte])) (clock : Time) :
    l.receive byte clock = { l with receiver := .inFrame (got ++ [byte]), gap := some (clock + 2000) } := by
  simp only [Link.receive, h, hjoins]
  rfl

/-! ### Frames discarded (R24 to R26) -/

theorem Link.fits_of_begins {l : Link} {got bytes : List Byte} (h : l.receiver = .inFrame got) (hp : got <+: bytes) :
    l.fits bytes := by
  simpa [Link.fits, Link.assembling, h] using hp

theorem eventSyncGapExpiry_of_syncSeen {expiry : Time} (hr : (s.bay b).link.receiver = .syncSeen)
    (hgap : (s.bay b).link.gap = some expiry) :
    eventSyncGapExpiry b s = if reached expiry s.clock then s.modBay b (fun x => x.modLink Link.hunt) else s := by
  simp only [eventSyncGapExpiry, hr, hgap, ranOut, true_and]

theorem eventBayFrameGapExpiry_of_inFrame {got : List Byte} {expiry : Time} (hr : (s.bay b).link.receiver = .inFrame got)
    (hgap : (s.bay b).link.gap = some expiry) :
    eventBayFrameGapExpiry b s = if reached expiry s.clock then s.modBay b (fun x => x.modLink Link.discard) else s := by
  simp only [eventBayFrameGapExpiry, Link.assembling, hr, hgap, ranOut, Option.isSome_some, Bool.true_and]

theorem eventBayFrameLengthDiscard_discards {kind tag length : Byte} {got : List Byte}
    (hr : (s.bay b).link.receiver = .inFrame got) (hp : got <+: [kind, tag, length])
    (htakes : bayHeaderTakes kind length = false) :
    eventBayFrameLengthDiscard b kind tag length s = s.modBay b (fun x => x.modLink Link.discard) :=
  if_pos (by rw [Link.fits_of_begins hr hp, htakes]; rfl)

theorem eventBayFrameRejected_discards {f : BayFrame} {got : List Byte} (hr : (s.bay b).link.receiver = .inFrame got)
    (hp : got <+: f.bytes) (hwf : f.wellFormed) (htakes : bayHeaderTakes f.kind f.length)
    (hbad : bayIntact f = false ∨ bodyAgrees f.kind f.body = false) :
    eventBayFrameRejected b f s = s.modBay b (fun x => x.modLink Link.discard) := by
  have hends : (s.bay b).link.frameEnds f := by
    rw [Link.frameEnds, Link.fits_of_begins hr hp, hwf, htakes]
    rfl
  have hfails : (bayIntact f && bodyAgrees f.kind f.body) = false := by
    rwa [Bool.and_eq_false_iff]
  exact if_pos (by rw [hends, hfails]; rfl)

/-- Settles O35, by the state of the receiver. -/
theorem theBayReceiverAssemblesAndDiscards : Obligations.TheBayReceiverAssemblesAndDiscards := by
  intro s b hnone
  have hbyte : ∀ byte, exec (.baySyncReceived b byte) s =
      .next (s.setBay b { s.bay b with link := (s.bay b).link.receive byte s.clock }) := fun byte =>
    State.next_before_of_none hnone _ (eventBaySyncReceived b byte)
  have hsyncGap : exec (.syncGapExpiry b) s = .next (eventSyncGapExpiry b s) :=
    State.next_before_of_none hnone _ (eventSyncGapExpiry b)
  have hframeGap : exec (.bayFrameGapExpiry b) s = .next (eventBayFrameGapExpiry b s) :=
    State.next_before_of_none hnone _ (eventBayFrameGapExpiry b)
  have hfault : exec (.bayCharacterFault b) s =
      .next (s.setBay b { s.bay b with link := (s.bay b).link.characterFault }) :=
    State.next_before_of_none hnone _ (eventBayCharacterFault b)
  have hlength : ∀ kind tag length, exec (.bayFrameLengthDiscard b kind tag length) s =
      .next (eventBayFrameLengthDiscard b kind tag length s) := fun kind tag length =>
    State.next_before_of_none hnone _ (eventBayFrameLengthDiscard b kind tag length)
  have hrejected : ∀ f, exec (.bayFrameRejected b f) s = .next (eventBayFrameRejected b f s) := fun f =>
    State.next_before_of_none hnone _ (eventBayFrameRejected b f)
  refine ⟨fun byte hr => ?_, fun byte hr => ?_, fun byte hr => ?_, fun byte got hr hjoins => ?_,
    fun expiry hr hgap => ?_, fun got expiry hr hgap => ?_, ?_, fun kind tag length got hr hp htakes => ?_,
    fun f got hr hp hwf htakes hbad => ?_⟩
  · rw [hbyte, Link.receive_of_disabled hr]
    exact congrArg _ (s.setBay_self b)
  · rw [hbyte, Link.receive_of_hunting hr]
  · rw [hbyte, Link.receive_of_syncSeen hr]
    rfl
  · rw [hbyte, Link.receive_of_inFrame hr (bayFrameByte_joins hjoins)]
  · rw [hsyncGap, eventSyncGapExpiry_of_syncSeen hr hgap]
    split <;> rfl
  · rw [hframeGap, eventBayFrameGapExpiry_of_inFrame hr hgap]
    split <;> rfl
  · rw [hfault, Link.characterFault]
    cases (s.bay b).link.receiver with
    | inFrame got => rfl
    | syncSeen => rfl
    | hunting => exact congrArg _ (s.setBay_self b)
    | disabled => exact congrArg _ (s.setBay_self b)
  · rw [hlength, eventBayFrameLengthDiscard_discards hr hp htakes]
    rfl
  · rw [hrejected, eventBayFrameRejected_discards hr hp hwf htakes hbad]
    rfl

/-! ### An answer that is not credited (R31) -/

theorem Bay.credits_eq_false {x : Bay} {tag : Byte}
    (h : x.state ≠ .asking ∨ x.link.outstanding ≠ some tag ∨ x.link.answerTimer = none) : x.credits tag = false := by
  rcases h with h | h | h <;> simp [Bay.credits, h]

theorem eventAnswerAccepted_stale {f : BayFrame} {a : Answer} (hacc : (s.bay b).link.accepts kindAnswer f)
    (ha : readAnswer f.body = some a) (hcredits : (s.bay b).credits f.tag = false) :
    eventAnswerAccepted b f s = (s.huntAgain b).countStale b := by
  unfold eventAnswerAccepted
  simp only [hacc, if_true, ha, hcredits, Bool.false_eq_true, if_false]

/-- Settles O33: the receiver hunts, and then the answer is counted. -/
theorem aStaleAnswerIsOnlyCounted : Obligations.AStaleAnswerIsOnlyCounted := by
  intro s b f a hnone hacc ha hstale
  have hexec : exec (.answerAccepted b f) s = .next (eventAnswerAccepted b f s) :=
    State.next_before_of_none hnone _ (eventAnswerAccepted b f)
  rw [hexec, eventAnswerAccepted_stale hacc ha (Bay.credits_eq_false hstale), State.huntAgain, State.countStale,
    State.modBay_modBay]
  rfl

end Sys2Proof.Machine
end

section
/-! PROOFS. The tunnel blocks of both directions (R22, R29, R36 to R39, R163, R182). -/

namespace Sys2Proof.Machine

variable {s : State} {b : BayNo}

/-! ### PUT_TUNNEL (R36, R29) -/

section
variable {bay : Byte} {block : List Byte}

theorem requestPutTunnel_bad (hb : bayOf bay = none) :
    requestPutTunnel bay block s = s.answer (.putTunnel bay block) .badParam [] := by
  unfold requestPutTunnel
  rw [hb]

theorem requestPutTunnel_long (hb : bayOf bay = some b) (hlong : 64 < block.length) :
    requestPutTunnel bay block s = s.answer (.putTunnel bay block) .badLength [] := by
  unfold requestPutTunnel
  rw [hb]
  exact if_pos hlong

theorem requestPutTunnel_full (hb : bayOf bay = some b) (hlen : block.length ≤ 64)
    (hout : (s.bay b).link.tunnelOut ≠ none) :
    requestPutTunnel bay block s = s.answer (.putTunnel bay block) .full [] := by
  unfold requestPutTunnel
  rw [hb]
  dsimp only
  rw [if_neg (by omega), if_pos (Option.isSome_iff_ne_none.2 hout)]

/-- The states that take no tunnel block are those whose supply is OFF (R2, R36). -/
theorem BayState.refusesTunnel_eq (st : BayState) : st.refusesTunnel = st.supplyOff := by
  cases st <;> rfl

theorem requestPutTunnel_refused (hb : bayOf bay = some b) (hlen : block.length ≤ 64)
    (hout : (s.bay b).link.tunnelOut = none) (hs : (s.bay b).state.supplyOff) :
    requestPutTunnel bay block s = s.answer (.putTunnel bay block) .wrongState [] := by
  unfold requestPutTunnel
  rw [hb]
  dsimp only
  rw [if_neg (by omega), if_neg (by simp [hout]), BayState.refusesTunnel_eq, if_pos hs]

/-- A block taken fills the slot, and then a frame may begin. -/
theorem requestPutTunnel_taken (hb : bayOf bay = some b) (hlen : block.length ≤ 64)
    (hout : (s.bay b).link.tunnelOut = none) (hs : (s.bay b).state.supplyOff = false) :
    requestPutTunnel bay block s =
      ((s.modBay b (fun x => x.modLink (fun l => { l with tunnelOut := some block }))).beginFrame b).answer
        (.putTunnel bay block) .ok [] := by
  unfold requestPutTunnel
  rw [hb]
  dsimp only
  rw [if_neg (by omega), if_neg (by simp [hout]), BayState.refusesTunnel_eq, if_neg (by simp [hs])]

end

/-- No frame begins at a bay that is not READY, ASKING or BENCHED and has no ask pending (R29). -/
theorem State.beginFrame_of_no_sender (hwaiting : (s.bay b).tunnelWaiting = false)
    (hask : (s.bay b).link.pendingAsk = none) : s.beginFrame b = s := by
  unfold State.beginFrame
  dsimp only
  rw [hwaiting, hask]
  simp

/-- A block waits in its slot when the bay sends no tunnel frame yet, or when no frame begins (R29, R36). -/
theorem State.filledTunnel_waits {block : List Byte}
    (h : (s.bay b).state ∈ [.waking, .dark] ∧ (s.bay b).link.pendingAsk = none ∨
      (s.bay b).state.supplyOff = false ∧ (s.run = .held ∨ (s.bay b).link.transmitter ≠ .idle)) :
    (s.bay b).state.supplyOff = false ∧
      (s.modBay b (fun x => x.modLink (fun l => { l with tunnelOut := some block }))).beginFrame b =
        s.modBay b (fun x => x.modLink (fun l => { l with tunnelOut := some block })) := by
  rcases h with ⟨hs, hask⟩ | ⟨hon, hbusy⟩
  · replace hs : (s.bay b).state = .waking ∨ (s.bay b).state = .dark := by simpa using hs
    refine ⟨by rcases hs with hs | hs <;> rw [hs] <;> rfl, State.beginFrame_of_no_sender ?_ (by simpa using hask)⟩
    rcases hs with hs | hs <;> simp [Bay.tunnelWaiting, hs]
  · refine ⟨hon, State.beginFrame_of_nothing (.inl fun ⟨hrun, hidle⟩ => ?_)⟩
    rcases hbusy with hheld | hbusy
    · exact absurd (hrun.symm.trans hheld) (by decide)
    · exact hbusy (by simpa using hidle)

/-! ### The end of a tunnel frame (R37) -/

theorem eventTunnelOutSent_of_sending (h : (s.bay b).link.transmitter = .sendingTunnel) :
    eventTunnelOutSent b s =
      (s.modBay b (fun x => x.modLink (fun l => { l.frameLeft with tunnelOut := none }))).beginFrame b := if_pos h

/-! ### Frames as fields (R182) -/

/-- A bay frame the part sends, field by field: sync bytes, kind and tag, length, body, check. -/
def bayFrameFields (kind tag : Byte) (body : List Byte) : List (List Byte) :=
  [[0xA5, 0x5A, kind, tag], [BitVec.ofNat 8 body.length], body,
    leBytes 2 (crc ([kind, tag, BitVec.ofNat 8 body.length] ++ body)).toNat]

theorem bayFrameOut_eq_flatten (kind tag : Byte) (body : List Byte) :
    bayFrameOut kind tag body = (bayFrameFields kind tag body).flatten := by
  simp [bayFrameOut, bayFrameFields]

theorem bayFrameFields_sizes (kind tag : Byte) (body : List Byte) :
    (bayFrameFields kind tag body).map List.length = [4, 1, body.length, 2] := by
  simp [bayFrameFields]

theorem bayFrameOut_length (kind tag : Byte) (body : List Byte) :
    (bayFrameOut kind tag body).length = 7 + body.length := by
  rw [bayFrameOut_eq_flatten, List.length_flatten, bayFrameFields_sizes]
  simp only [List.sum_cons, List.sum_nil]
  omega

/-- A field of a bay frame at its offset. -/
theorem bayFrameOut_field {kind tag : Byte} {body : List Byte} (k : Nat) {offset size : Nat} {f : List Byte}
    (hoffset : ([4, 1, body.length, 2].take k).sum = offset) (hsize : [4, 1, body.length, 2][k]? = some size)
    (hf : (bayFrameFields kind tag body)[k]? = some f) : bytesAt (bayFrameOut kind tag body) offset size = f := by
  rw [bayFrameOut_eq_flatten]
  exact bytesAt_field (bayFrameFields_sizes kind tag body) k hoffset hsize hf

/-- The bytes that the check of a bay frame covers are its kind, tag, length and body. -/
theorem bayFrameOut_covered (kind tag : Byte) (body : List Byte) :
    bytesAt (bayFrameOut kind tag body) 2 (3 + body.length) = [kind, tag, BitVec.ofNat 8 body.length] ++ body := by
  have hcovered : ([kind, tag, BitVec.ofNat 8 body.length] ++ body).length = 3 + body.length := by
    simp only [List.length_append, List.length_cons, List.length_nil]
  rw [bayFrameOut, List.append_assoc, bytesAt_append_right (le_refl 2), ← hcovered]
  exact bytesAt_front _ _

theorem bayFrameOut_check (kind tag : Byte) (body : List Byte) :
    numberAt (bayFrameOut kind tag body) (5 + body.length) 2 =
      (crc (bytesAt (bayFrameOut kind tag body) 2 (3 + body.length))).toNat := by
  rw [bayFrameOut_covered]
  refine numberAt_of_leBytes (bayFrameOut_field 3 ?_ rfl rfl) (BitVec.isLt _)
  simp only [List.take, List.sum_cons, List.sum_nil]
  omega

/-- Settles O31: the refusals in their order, the begin of a frame by what the transmitter and the bay allow, and the
frame field by field. -/
theorem tunnelBlocksGoOut : Obligations.TunnelBlocksGoOut := by
  refine ⟨fun s bay block hclear => ?_, fun s b hnone hsending => ?_, fun block hlen => ?_⟩
  · have hexec : exec (.putTunnel bay block) s = .next (requestPutTunnel bay block s) :=
      State.next_serve_of_clear hclear (.putTunnel bay block) (requestPutTunnel bay block)
    refine ⟨fun hbad => ⟨_, hexec, ?_⟩, fun b hb hlong => ⟨_, hexec, ?_⟩, fun b hb hlen hout => ⟨_, hexec, ?_⟩,
      fun b hb hlen hout hs => ⟨_, hexec, ?_⟩, fun b hb hlen hout hs hrun hidle => ⟨_, hexec, ?_⟩,
      fun b hb hlen hout hwaits => ⟨_, hexec, ?_⟩⟩
    · rw [requestPutTunnel_bad (bayOf_eq_none.2 hbad)]
      exact s.answer_repliedAs ..
    · rw [requestPutTunnel_long hb hlong]
      exact s.answer_repliedAs ..
    · rw [requestPutTunnel_full hb hlen hout]
      exact s.answer_repliedAs ..
    · rw [requestPutTunnel_refused hb hlen hout hs]
      exact s.answer_repliedAs ..
    · replace hs : (s.bay b).state = .ready ∨ (s.bay b).state = .asking ∨ (s.bay b).state = .benched := by simpa using hs
      have hon : (s.bay b).state.supplyOff = false := by rcases hs with hs | hs | hs <;> rw [hs] <;> rfl
      rw [requestPutTunnel_taken hb hlen hout hon,
        State.beginFrame_of_tunnel (block := block) ((s.modBay_run b _).trans hrun) (by simpa using hidle) (by simp)
          (by simpa using hs), State.modBay_modBay]
      exact State.answer_repliedAs ..
    · obtain ⟨hon, hwaiting⟩ := State.filledTunnel_waits (block := block) hwaits
      rw [requestPutTunnel_taken hb hlen hout hon, hwaiting]
      exact State.answer_repliedAs ..
  · have hexec : exec (.tunnelOutSent b) s = .next (eventTunnelOutSent b s) :=
      State.next_before_of_none hnone _ (eventTunnelOutSent b)
    rw [hexec, eventTunnelOutSent_of_sending hsending]
    refine ⟨fun hnothing => ?_, fun ask hask hrun => ?_⟩
    · refine congrArg _ (State.beginFrame_of_nothing ?_)
      rcases hnothing with hask | hheld
      · exact .inr ⟨by simp, by simpa [Link.frameLeft] using hask⟩
      · exact .inl fun ⟨hrun, _⟩ => absurd (hrun.symm.trans hheld) (by decide)
    · rw [State.beginFrame_of_ask (ask := ask) ((s.modBay_run b _).trans hrun) (by simp [Link.frameLeft]) (by simp)
        (by simpa [Link.frameLeft] using hask), State.modBay_modBay]
      rfl
  · exact ⟨bayFrameOut_length .., bayFrameOut_field 0 rfl rfl rfl,
      numberAt_of_byte (bayFrameOut_field 1 rfl rfl rfl) (by omega), bayFrameOut_field 2 rfl rfl rfl, bayFrameOut_check ..⟩

/-! ### Blocks from the phone (R38, R39, R163) -/

theorem eventTunnelInAccepted_of_accepts {f : BayFrame} (h : (s.bay b).link.accepts kindTunnelIn f) :
    eventTunnelInAccepted b f s = (s.huntAgain b).tunnelArrives b f.body := if_pos h

theorem State.tunnelArrives_empty (h : (s.bay b).link.tunnelIn = none) (block : List Byte) :
    s.tunnelArrives b block =
      (s.modBay b (fun x => x.modLink (fun l => { l with tunnelIn := some block }))).tunnelInRises b := by
  unfold State.tunnelArrives
  rw [h]

theorem State.tunnelArrives_full {held : List Byte} (h : (s.bay b).link.tunnelIn = some held) (block : List Byte) :
    s.tunnelArrives b block =
      s.modBay b (fun x => x.modLink (fun l => { l with tunnelDrops := satInc l.tunnelDrops })) := by
  unfold State.tunnelArrives
  rw [h]

@[simp] theorem State.tunnelInRises_get (s : State) (b : BayNo) :
    (s.tunnelInRises b).notices.tunnelIn.get b = (s.notices.tunnelIn.get b).rise := by
  simp [State.tunnelInRises, vector_get_set]

@[simp] theorem State.tunnelInFalls_get (s : State) (b : BayNo) :
    (s.tunnelInFalls b).notices.tunnelIn.get b = .inactive := by
  simp [State.tunnelInFalls, vector_get_set]

theorem requestGetTunnel_some {bay : Byte} (hb : bayOf bay = some b) :
    requestGetTunnel bay s = (s.takeTunnelIn b).answer (.getTunnel bay) .ok (tunnelBody (s.bay b).link.tunnelIn) := by
  unfold requestGetTunnel
  rw [hb]

theorem requestGetTunnel_bad {bay : Byte} (hb : bayOf bay = none) :
    requestGetTunnel bay s = s.answer (.getTunnel bay) .badParam [] := by
  unfold requestGetTunnel
  rw [hb]

theorem requestPeekTunnel_some {bay : Byte} (hb : bayOf bay = some b) :
    requestPeekTunnel bay s = s.answer (.peekTunnel bay) .ok (tunnelBody (s.bay b).link.tunnelIn) := by
  unfold requestPeekTunnel
  rw [hb]

theorem requestPeekTunnel_bad {bay : Byte} (hb : bayOf bay = none) :
    requestPeekTunnel bay s = s.answer (.peekTunnel bay) .badParam [] := by
  unfold requestPeekTunnel
  rw [hb]

@[simp] theorem State.takeTunnelIn_bay (s : State) (b c : BayNo) : (s.takeTunnelIn b).bay c =
    if b = c then { s.bay b with link := { (s.bay b).link with tunnelIn := none } } else s.bay c := by
  simp [State.takeTunnelIn, Bay.modLink]

theorem State.takeTunnelIn_eq (s : State) (b : BayNo) : s.takeTunnelIn b =
    { s with bays := (s.takeTunnelIn b).bays, notices := (s.takeTunnelIn b).notices } := rfl

theorem State.portClear_of (hup : s.startup = none) (hnone : s.requestInHand = none) : s.portClear := by
  simp [State.portClear, hup, hnone]

/-- Settles O32, by the tunnel-in slot. -/
theorem tunnelBlocksComeIn : Obligations.TunnelBlocksComeIn := by
  intro s b hnone
  have harrive : ∀ f, exec (.tunnelInAccepted b f) s = .next (eventTunnelInAccepted b f s) := fun f =>
    State.next_before_of_none hnone _ (eventTunnelInAccepted b f)
  have hget : ∀ bay, s.startup = none → exec (.getTunnel bay) s = .next (requestGetTunnel bay s) := fun bay hup =>
    State.next_serve_of_clear (State.portClear_of hup hnone) (.getTunnel bay) (requestGetTunnel bay)
  have hpeek : ∀ bay, s.startup = none → exec (.peekTunnel bay) s = .next (requestPeekTunnel bay s) := fun bay hup =>
    State.next_serve_of_clear (State.portClear_of hup hnone) (.peekTunnel bay) (requestPeekTunnel bay)
  have hunted : (s.huntAgain b).bay b = (s.bay b).modLink Link.hunt := by simp [State.huntAgain]
  refine ⟨fun f hacc hempty => ⟨_, harrive f, ?_⟩, fun f block hacc hfull => ?_,
    fun bay hup hbad => ⟨⟨_, hget bay hup, ?_⟩, ⟨_, hpeek bay hup, ?_⟩⟩, fun bay hup hb => ?_⟩
  · rw [eventTunnelInAccepted_of_accepts hacc, State.tunnelArrives_empty (by rw [hunted]; exact hempty)]
    refine ⟨rfl, ?_, State.tunnelInRises_get ..⟩
    rw [State.tunnelInRises_bay, State.bay_modBay, if_pos rfl, hunted]
    rfl
  · rw [harrive, eventTunnelInAccepted_of_accepts hacc,
      State.tunnelArrives_full (held := block) (by rw [hunted]; exact hfull), State.huntAgain, State.modBay_modBay]
    rfl
  · rw [requestGetTunnel_bad (bayOf_eq_none.2 hbad)]
    exact s.answer_repliedAs ..
  · rw [requestPeekTunnel_bad (bayOf_eq_none.2 hbad)]
    exact s.answer_repliedAs ..
  · have hbody : tunnelBody (s.bay b).link.tunnelIn = match (s.bay b).link.tunnelIn with
        | none => [0, 0]
        | some block => 1 :: BitVec.ofNat 8 block.length :: block := by
      cases (s.bay b).link.tunnelIn <;> rfl
    refine ⟨⟨_, hpeek bay hup, ?_⟩, ⟨_, hget bay hup, ?_, fun d hd => ?_, ?_, ?_⟩⟩
    · rw [requestPeekTunnel_some hb, hbody]
      exact s.answer_repliedAs ..
    all_goals rw [requestGetTunnel_some hb]
    · rw [State.answer_bays, State.answer_notices, ← State.takeTunnelIn_eq, hbody]
      exact State.answer_repliedAs ..
    · rw [State.answer_bay, State.takeTunnelIn_bay, if_neg (Ne.symm hd)]
    · rw [State.answer_bay, State.takeTunnelIn_bay, if_pos rfl]
    · rw [State.answer_notices]
      exact State.tunnelInFalls_get ..

end Sys2Proof.Machine
end

section
/-! PROOFS. The end of an ask's frame: send time, answer timer, sampling window and grant, and the next frame (R29, R30,
R34, R71, R113, R115, R116). -/

namespace Sys2Proof.Machine

variable {s : State} {b : BayNo}

/-! ### The grant (R115, R116) -/

theorem Window.isOpen_iff (w : Window) : w.isOpen ↔ w ≠ .closed := by cases w <;> simp [Window.isOpen]

/-- In a rising list the first element that satisfies a condition is the least one that does. -/
theorem find?_of_least {p : BayNo → Bool} {k : BayNo} : ∀ {l : List BayNo}, l.Pairwise (· < ·) → k ∈ l → p k →
    (∀ j, p j → k ≤ j) → l.find? p = some k
  | j :: l, hrising, hk, hp, hleast => by
    obtain ⟨hbefore, hrest⟩ := List.pairwise_cons.1 hrising
    rcases List.mem_cons.1 hk with rfl | hk
    · exact List.find?_cons_of_pos hp
    · have hj : ¬p j := fun hj => absurd (hbefore k hk) (not_lt.2 (hleast j hj))
      rw [List.find?_cons_of_neg hj]
      exact find?_of_least hrest hk hp hleast

theorem allBays_rising : allBays.Pairwise (· < ·) := by decide

/-- The next grant goes to the open window whose bay comes first after the last granted one. -/
theorem State.nextGrant_of_nearest {d : BayNo} (hd : (s.bay d).window.isOpen)
    (hnearest : ∀ e : BayNo, (s.bay e).window.isOpen → d - s.lastGranted - 1 ≤ e - s.lastGranted - 1) :
    s.nextGrant = some d := by
  have reaches : ∀ e : BayNo, s.lastGranted + 1 + (e - s.lastGranted - 1) = e := fun e => by abel
  have places : ∀ k : BayNo, s.lastGranted + 1 + k - s.lastGranted - 1 = k := fun k => by abel
  unfold State.nextGrant searchOrder
  rw [List.find?_map, find?_of_least (k := d - s.lastGranted - 1) allBays_rising (mem_allBays _)]
  · exact congrArg some (reaches d)
  · simpa only [Function.comp_apply, reaches] using hd
  · intro k hk
    simpa only [places] using hnearest _ hk

theorem State.grant_of_nearest {d : BayNo} (hidle : s.converter = .idle) (hd : (s.bay d).window.isOpen)
    (hnearest : ∀ e : BayNo, (s.bay e).window.isOpen → d - s.lastGranted - 1 ≤ e - s.lastGranted - 1) :
    s.grant.converter = .converting d (s.clock + 10) true ∧ s.grant.lastGranted = d := by
  unfold State.grant
  rw [hidle, State.nextGrant_of_nearest hd hnearest]
  exact ⟨rfl, rfl⟩

/-- A converter at work is left alone. -/
theorem State.grant_of_busy (h : s.converter ≠ .idle) : s.grant = s := by
  unfold State.grant
  split
  · contradiction
  · rfl

/-! ### What the end of a frame leaves alone -/

/-- Nothing but bays, gathers and the converter's grant changed. -/
def State.SendKept (s t : State) : Prop :=
  t = { s with bays := t.bays, gathers := t.gathers, converter := t.converter, lastGranted := t.lastGranted }

theorem State.SendKept.trans {t u : State} (h : s.SendKept t) (h' : t.SendKept u) : s.SendKept u := by
  unfold State.SendKept at *
  rw [h', h]

theorem State.SendKept.run {t : State} (h : s.SendKept t) : t.run = s.run := by
  unfold State.SendKept at h
  rw [h]

theorem State.grant_sendKept (s : State) : s.SendKept s.grant := by
  unfold State.grant
  split <;> rfl

theorem State.openWindow_sendKept (s : State) (b : BayNo) : s.SendKept (s.openWindow b) :=
  State.SendKept.trans (t := s.modBay b (fun x => { x with window := .opened .cleared })) rfl (State.grant_sendKept _)

theorem State.beginFrame_sendKept (s : State) (b : BayNo) : s.SendKept (s.beginFrame b) := by
  unfold State.beginFrame
  dsimp only
  split
  · split
    · rfl
    · split <;> rfl
  · rfl

/-! ### The frame of the outstanding ask (R30, R71, R113) -/

/-- The ask's frame has left: the transmitter is IDLE, the answer timer runs, and the send time is reported. -/
def State.askTimed (s : State) (b : BayNo) (i : GatherNo) : State :=
  (s.modBay b (fun x => x.modLink (fun l => { l.frameLeft with
    answerTimer := some (s.clock + BitVec.ofNat 48 ((s.gather i).timeoutMs.toNat * 1000)) }))).modGather i
      (fun g => g.sentAt b s.clock)

/-- After that the window opens under MEASURE. -/
def State.askReported (s : State) (b : BayNo) (i : GatherNo) : State :=
  if (s.gather i).measure then (s.askTimed b i).openWindow b else s.askTimed b i

theorem Gather.sentAt_eq (g : Gather) (b : BayNo) (clock : Time) : g.sentAt b clock =
    { g with slots := (g.sentAt b clock).slots, firstSend := some (g.firstSend.getD clock) } := by
  unfold Gather.sentAt
  cases g.firstSend <;> rfl

theorem Gather.sentAt_measure (g : Gather) (b : BayNo) (clock : Time) : (g.sentAt b clock).measure = g.measure := rfl

theorem State.askReported_gather (s : State) (b : BayNo) (i j : GatherNo) :
    (s.askReported b i).gather j = if i = j then (s.gather i).sentAt b s.clock else s.gather j := by
  have timed : (s.askTimed b i).gather j = if i = j then (s.gather i).sentAt b s.clock else s.gather j :=
    State.gather_modGather ..
  unfold State.askReported
  split
  · rw [State.gather_eq_get, State.openWindow_gathers]
    exact timed
  · exact timed

/-- The bay's record as the report of its send time leaves it. -/
theorem State.askReported_bay (s : State) (b c : BayNo) (i : GatherNo) : (s.askReported b i).bay c = if b = c then
    { s.bay b with
      window := if (s.gather i).measure then .opened Accumulator.cleared else (s.bay b).window
      link := { (s.bay b).link.frameLeft with
        answerTimer := some (s.clock + BitVec.ofNat 48 ((s.gather i).timeoutMs.toNat * 1000)) } } else s.bay c := by
  unfold State.askReported
  split <;> simp only [State.openWindow_bay, State.askTimed, State.modGather_bay, State.bay_modBay, if_true] <;>
    split <;> simp_all [Bay.modLink]

theorem State.askReported_sendKept (s : State) (b : BayNo) (i : GatherNo) : s.SendKept (s.askReported b i) := by
  have timed : s.SendKept (s.askTimed b i) := rfl
  unfold State.askReported
  split
  · exact timed.trans (State.openWindow_sendKept _ b)
  · exact timed

/-- The grant that follows the opening of the window is made on the windows as the report leaves them. -/
theorem State.askReported_granted {i : GatherNo} (hmeasure : (s.gather i).measure) (hidle : s.converter = .idle)
    {d : BayNo} (hd : ((s.askReported b i).bay d).window ≠ .closed)
    (hnearest : ∀ e : BayNo, ((s.askReported b i).bay e).window ≠ .closed →
      (d - s.lastGranted - 1 : BayNo).val ≤ (e - s.lastGranted - 1 : BayNo).val) :
    (s.askReported b i).converter = .converting d (s.clock + 10) true ∧ (s.askReported b i).lastGranted = d := by
  unfold State.askReported State.openWindow at *
  simp only [hmeasure, if_true, State.grant_bay] at *
  exact State.grant_of_nearest (by exact hidle) ((Window.isOpen_iff _).2 hd)
    fun e he => hnearest e ((Window.isOpen_iff _).1 he)

theorem State.askReported_not_granted {i : GatherNo} (h : (s.gather i).measure = false ∨ s.converter ≠ .idle) :
    (s.askReported b i).converter = s.converter ∧ (s.askReported b i).lastGranted = s.lastGranted := by
  unfold State.askReported
  split
  · rename_i hmeasure
    have hbusy := h.resolve_left (by simp [hmeasure])
    rw [State.openWindow, State.grant_of_busy (by exact hbusy)]
    exact ⟨rfl, rfl⟩
  · exact ⟨rfl, rfl⟩

theorem State.AskAt.of_asksAgree (h : s.asksAgree) (b : BayNo) : s.AskAt b :=
  ⟨(h b).1, (h b).2.1⟩

theorem eventAskSent_of_outstanding {i : GatherNo} (hsending : (s.bay b).link.transmitter = .sendingAsk)
    (hout : (s.bay b).sendsOutstanding) (hi : s.sentGather b = some i) :
    eventAskSent b s = (s.askReported b i).beginFrame b := by
  have hi' : (s.modBay b (fun x => x.modLink Link.frameLeft)).sentGather b = some i := hi
  unfold eventAskSent
  rw [if_pos hsending]
  dsimp only
  rw [if_pos hout, State.askLeft, hi']
  dsimp only
  rw [State.modBay_modBay, State.recordSend_eq, State.gather_modGather, if_pos rfl]
  rfl

theorem eventAskSent_of_ended (hsending : (s.bay b).link.transmitter = .sendingAsk)
    (hout : (s.bay b).sendsOutstanding = false) :
    eventAskSent b s = (s.modBay b (fun x => x.modLink Link.frameLeft)).beginFrame b := by
  unfold eventAskSent
  rw [if_pos hsending]
  dsimp only
  rw [hout]
  rfl

theorem Bay.sendsOutstanding_eq_true {x : Bay} (hs : x.state = .asking) (hask : x.link.pendingAsk = none)
    (htimer : x.link.answerTimer = none) : x.sendsOutstanding = true := by
  simp [Bay.sendsOutstanding, hs, hask, htimer]

theorem Bay.sendsOutstanding_eq_false {x : Bay}
    (h : x.state ≠ .asking ∨ x.link.pendingAsk ≠ none ∨ x.link.answerTimer ≠ none) : x.sendsOutstanding = false := by
  simp only [Bay.sendsOutstanding, Bool.and_eq_false_iff, beq_eq_false_iff_ne, Option.isNone_eq_false_iff,
    Option.isSome_iff_ne_none]
  tauto

/-! ### The frame after it (R29) -/

/-- The frame that the transmitter of a bay begins once it is IDLE, with no ask pending: that of a waiting tunnel block,
while the station is RUN. -/
theorem State.beginFrame_bay_of_idle (hidle : (s.bay b).link.transmitter = .idle) (hframe : (s.bay b).link.frameOut = [])
    (hask : (s.bay b).link.pendingAsk = none)
    (hs : (s.bay b).state = .ready ∨ (s.bay b).state = .asking ∨ (s.bay b).state = .benched) :
    (s.beginFrame b).bay b = { s.bay b with link := { (s.bay b).link with
      transmitter := if s.run = .run ∧ (s.bay b).link.tunnelOut ≠ none then .sendingTunnel else .idle
      frameOut := if s.run = .run then (s.bay b).link.tunnelOut.elim [] tunnelFrame else [] } } := by
  obtain ⟨tr, frame, e, hbegins, hkept⟩ := State.beginFrame_bay_of_no_ask hask hs
  rw [hidle, hframe] at hkept
  rw [e]
  cases hrun : s.run with
  | held =>
    obtain ⟨rfl, rfl⟩ := hkept (.inl hrun)
    rfl
  | run =>
    cases hout : (s.bay b).link.tunnelOut with
    | none =>
      obtain ⟨rfl, rfl⟩ := hkept (.inr (.inr hout))
      rfl
    | some block =>
      obtain ⟨rfl, rfl⟩ := hbegins block hrun hidle hout
      simp

theorem State.beginFrame_window (s : State) (b d : BayNo) : ((s.beginFrame b).bay d).window = (s.bay d).window := by
  obtain ⟨_, _, _, e⟩ := s.beginFrame_bay b d
  rw [e]
  split
  · rename_i hd; rw [hd]
  · rfl

theorem State.beginFrame_of_tunnelWaiting {block : List Byte} (hrun : s.run = .run)
    (hidle : (s.bay b).link.transmitter = .idle) (hwaiting : (s.bay b).tunnelWaiting)
    (hout : (s.bay b).link.tunnelOut = some block) :
    s.beginFrame b = s.modBay b (fun x => x.modLink (fun l =>
      { l with transmitter := .sendingTunnel, frameOut := tunnelFrame (l.tunnelOut.getD []) })) := by
  simp only [Bay.tunnelWaiting, Bool.and_eq_true, Bool.or_eq_true, beq_iff_eq, or_assoc] at hwaiting
  exact State.beginFrame_of_tunnel hrun hidle hout hwaiting.2

theorem State.beginFrame_of_pendingAsk {ask : Ask} (hrun : s.run = .run) (hidle : (s.bay b).link.transmitter = .idle)
    (hwaiting : (s.bay b).tunnelWaiting = false) (hask : (s.bay b).link.pendingAsk = some ask) :
    s.beginFrame b = s.modBay b (fun x => x.modLink (fun l =>
      { l with transmitter := .sendingAsk, pendingAsk := none, frameOut := askFrame ask })) := by
  unfold State.beginFrame
  dsimp only
  rw [if_pos ⟨hrun, hidle⟩, hwaiting, hask]
  rfl

/-- Settles O37: the frame of the outstanding ask is reported and the frame of an ended ask is not; then the next frame
begins. -/
theorem anAskFrameLeaves : Obligations.AnAskFrameLeaves := by
  intro s b hnone hsending
  have hexec : exec (.askSent b) s = .next (eventAskSent b s) :=
    State.next_before_of_none hnone _ (eventAskSent b)
  refine ⟨fun i hasks hsent hask htimer => ?_, fun hended => ?_⟩
  · have hs : (s.bay b).state = .asking := (hasks b).1.2 ⟨i, hsent⟩
    have hi := (State.AskAt.of_asksAgree hasks b).sentGather hsent
    rw [hexec, eventAskSent_of_outstanding hsending (Bay.sendsOutstanding_eq_true hs hask htimer) hi]
    have kept := (s.askReported_sendKept b i).trans (State.beginFrame_sendKept _ b)
    have gathers : ∀ j, ((s.askReported b i).beginFrame b).gather j =
        if i = j then (s.gather i).sentAt b s.clock else s.gather j := fun j => by
      rw [State.gather_eq_get, State.beginFrame_gathers]
      exact s.askReported_gather b i j
    have hrun : (s.askReported b i).run = s.run := (s.askReported_sendKept b i).run
    have reported := s.askReported_bay b b i
    rw [if_pos rfl] at reported
    have own := State.beginFrame_bay_of_idle (s := s.askReported b i) (b := b) (by rw [reported]; rfl)
      (by rw [reported]; rfl) (by rw [reported]; exact hask) (by rw [reported]; exact .inr (.inl hs))
    have others : ∀ d, d ≠ b → ((s.askReported b i).beginFrame b).bay d = s.bay d := fun d hd => by
      rw [State.beginFrame_bay_ne _ (Ne.symm hd), State.askReported_bay, if_neg (Ne.symm hd)]
    refine ⟨_, rfl, kept, ?_, ?_, fun d hd => ?_, fun j hj => ?_, others, ?_, fun hmeasure hidle d hd hnearest => ?_,
      fun hno => ?_⟩
    · rw [gathers, if_pos rfl]
      exact (s.gather i).sentAt_eq b s.clock
    · rw [gathers, if_pos rfl, Gather.sentAt_slot, if_pos rfl]
    · rw [gathers, if_pos rfl, Gather.sentAt_slot, if_neg (Ne.symm hd)]
    · rw [gathers, if_neg (Ne.symm hj)]
    · rw [own, hrun, reported]
      rfl
    · simp only [State.beginFrame_window] at hd hnearest
      rw [State.beginFrame_converter, State.beginFrame_lastGranted]
      exact State.askReported_granted hmeasure hidle hd hnearest
    · rw [State.beginFrame_converter, State.beginFrame_lastGranted]
      exact State.askReported_not_granted hno
  · rw [hexec, eventAskSent_of_ended hsending (Bay.sendsOutstanding_eq_false hended)]
    have left : (s.modBay b (fun x => x.modLink Link.frameLeft)).bay b = (s.bay b).modLink Link.frameLeft := by simp
    have idle : ((s.modBay b (fun x => x.modLink Link.frameLeft)).bay b).link.transmitter = .idle := by rw [left]; rfl
    refine ⟨fun hheld => ?_, fun hrun block hwaiting hout => ?_, fun hrun ask hwaiting hask => ?_,
      fun hrun hwaiting hask => ?_⟩
    · refine congrArg _ (State.beginFrame_of_nothing (.inl fun ⟨hrun, _⟩ => ?_))
      exact absurd (hrun.symm.trans hheld) (by decide)
    · rw [State.beginFrame_of_tunnelWaiting (block := block) ((s.modBay_run b _).trans hrun) idle
        (by rw [left]; exact hwaiting) (by rw [left]; exact hout), State.modBay_modBay]
      simp [Bay.modLink, Link.frameLeft, hout]
    · rw [State.beginFrame_of_pendingAsk (ask := ask) ((s.modBay_run b _).trans hrun) idle
        (by rw [left]; exact hwaiting) (by rw [left]; exact hask), State.modBay_modBay]
      rfl
    · rw [State.beginFrame_of_no_sender (by rw [left]; exact hwaiting) (by rw [left]; exact hask)]
      rfl

end Sys2Proof.Machine
end

section
/-! SUPPORT. The completion of a slot and a change of its bay's link do not meet, and what skipping a queue leaves of
gathers, extremes and statistics (R73 to R76, R85, R109, R110). -/

namespace Sys2Proof.Machine

variable {s : State} {b : BayNo}

/-! ### A completion beside a change of the link -/

/-- Two changes of a bay's record that do not meet can be made in either order. -/
theorem State.modBay_comm (s : State) (b : BayNo) {f g : Bay → Bay} (h : ∀ x, g (f x) = f (g x)) :
    (s.modBay b f).modBay b g = (s.modBay b g).modBay b f := by
  rw [State.modBay_modBay, State.modBay_modBay, h]

section
variable (s : State) (b : BayNo) (f : Link → Link)

theorem State.closeWindowFor_modLink (i : GatherNo) :
    (s.modBay b (fun x => x.modLink f)).closeWindowFor i b = (s.closeWindowFor i b).modBay b (fun x => x.modLink f) := by
  have closed := s.modBay_comm b (f := fun x => x.modLink f) (g := fun x => { x with window := .closed }) fun _ => rfl
  unfold State.closeWindowFor
  rw [State.modBay_gather]
  split
  · exact congrArg (fun t : State => { t with converter := s.converter.untie b }) closed
  · rfl

/-- A record reaches the ring of its bay, the bytes of the store and the notices (R133, R134, R142). -/
theorem State.writeRecord_eq (kind : RecordKind) (own : List Byte) :
    s.writeRecord b kind own = { s.modBay b (fun x => { x with ring := x.ring.afterWrite }) with
      cells := (s.writeRecord b kind own).cells, notices := (s.writeRecord b kind own).notices } := by
  simp only [State.writeRecord]
  split <;> split <;> rfl

theorem State.writeRecord_modLink (kind : RecordKind) (own : List Byte) :
    (s.modBay b (fun x => x.modLink f)).writeRecord b kind own =
      (s.writeRecord b kind own).modBay b (fun x => x.modLink f) := by
  have accounted := s.modBay_comm b (f := fun x => x.modLink f) (g := fun x => { x with ring := x.ring.afterWrite })
    fun _ => rfl
  have hring : ((s.modBay b (fun x => x.modLink f)).bay b).ring = (s.bay b).ring := by simp
  have hcells : ((s.modBay b (fun x => x.modLink f)).writeRecord b kind own).cells = (s.writeRecord b kind own).cells := by
    rw [State.writeRecord_cells, State.writeRecord_cells, hring]
    rfl
  have hnotices : ((s.modBay b (fun x => x.modLink f)).writeRecord b kind own).notices =
      (s.writeRecord b kind own).notices := by
    rw [State.writeRecord_notices, State.writeRecord_notices, hring]
    rfl
  rw [State.writeRecord_eq, hcells, hnotices, accounted, s.writeRecord_eq]
  rfl

theorem State.raise_modLink (p : Place) :
    (s.modBay b (fun x => x.modLink f)).raise p = (s.raise p).modBay b (fun x => x.modLink f) := by
  have henabled : (s.modBay b (fun x => x.modLink f)).classEnabled p = s.classEnabled p := rfl
  unfold State.raise
  rw [henabled]
  split <;> rfl

theorem State.completeGatherIfFinal_modLink (i : GatherNo) :
    (s.modBay b (fun x => x.modLink f)).completeGatherIfFinal i =
      (s.completeGatherIfFinal i).modBay b (fun x => x.modLink f) := by
  unfold State.completeGatherIfFinal
  rw [State.modBay_gather]
  split
  · rfl
  · unfold State.completeGather
    dsimp only
    rw [← State.raise_modLink]
    rfl

theorem State.completeEvaluated_modLink (i : GatherNo) (e : Ending) (a : Option Answer) :
    (s.modBay b (fun x => x.modLink f)).completeEvaluated b i e a =
      (s.completeEvaluated b i e a).modBay b (fun x => x.modLink f) := by
  have hslot : (s.modBay b (fun x => x.modLink f)).finalSlot i b e a = s.finalSlot i b e a :=
    s.slotJudged_modBay b _ rfl i e a
  unfold State.completeEvaluated State.finishEvaluated
  rw [State.modBay_gather]
  split
  · rw [State.closeWindowFor_modLink, hslot, ← State.completeGatherIfFinal_modLink, ← State.writeRecord_modLink]
    rfl
  · rfl

end

/-! ### Entries that a completion leaves alone -/

theorem State.completeEvaluated_gather_ne {i j : GatherNo} (h : i ≠ j) (e : Ending) (a : Option Answer) :
    (s.completeEvaluated b i e a).gather j = s.gather j := by
  unfold State.completeEvaluated
  split
  · rw [State.finishEvaluated_gather, if_neg h]
  · rfl

theorem State.completeUnevaluated_gather_ne {i j : GatherNo} (h : i ≠ j) (e : Ending) :
    (s.completeUnevaluated b i e).gather j = s.gather j := by
  unfold State.completeUnevaluated
  split
  · rw [State.finishUnevaluated_gather, if_neg h]
  · rfl

theorem State.dropQueue_gather_of_not_mem {j : GatherNo} (h : j ∉ (s.bay b).queue) (e : Ending) :
    (s.dropQueue b e).gather j = s.gather j := by
  have fold : ∀ (l : List GatherNo) (t : State), j ∉ l →
      (l.foldl (fun t i => t.completeUnevaluated b i e) t).gather j = t.gather j := by
    intro l
    induction l with
    | nil => intro t _; rfl
    | cons i l ih =>
      intro t hj
      obtain ⟨hne, hj⟩ : j ≠ i ∧ j ∉ l := by simpa using hj
      rw [List.foldl_cons, ih _ hj, State.completeUnevaluated_gather_ne (Ne.symm hne)]
  exact fold _ _ h

/-! ### Extremes (R110) -/

/-- The lowest and the highest scaled value of a gather are as they were (R110). -/
def Gather.extremesKept (after before : Gather) : Prop :=
  after.summary.lowest = before.summary.lowest ∧ after.summary.highest = before.summary.highest

/-- A slot without a scaled value moves no extreme. -/
theorem Gather.finalise_extremesKept (g : Gather) (b : BayNo) {x : Slot} (h : x.scaled = none) (e : Ending) :
    (g.finalise b x e).extremesKept g := by
  unfold Gather.extremesKept Gather.finalise Summary.extremes
  rw [h]
  dsimp only
  cases (g.slot b).stage <;> cases x.verdict <;> exact ⟨rfl, rfl⟩

theorem Gather.closedAt_extremesKept (g : Gather) (clock : Time) : (g.closedAt clock).extremesKept g := by
  unfold Gather.closedAt
  split <;> exact ⟨rfl, rfl⟩

theorem State.completeUnevaluated_extremesKept {i : GatherNo} (h : ((s.gather i).slot b).scaled = none) (e : Ending)
    (j : GatherNo) : ((s.completeUnevaluated b i e).gather j).extremesKept (s.gather j) := by
  unfold State.completeUnevaluated
  split
  · rw [State.finishUnevaluated_gather]
    split
    · rename_i hj
      subst hj
      obtain ⟨hlow, hhigh⟩ := (s.gather i).finalise_extremesKept b (x := { (s.gather i).slot b with
        stage := .final, ending := some e, verdict := .none, indicators := 0 }) h e
      obtain ⟨clow, chigh⟩ := ((s.gather i).finalise b { (s.gather i).slot b with
        stage := .final, ending := some e, verdict := .none, indicators := 0 } e).closedAt_extremesKept s.clock
      exact ⟨clow.trans hlow, chigh.trans hhigh⟩
    · exact ⟨rfl, rfl⟩
  · exact ⟨rfl, rfl⟩

theorem State.completeUnevaluated_scaled (s : State) (b : BayNo) (i j : GatherNo) {e : Ending} (he : e.evaluated = false) :
    (((s.completeUnevaluated b i e).gather j).slot b).scaled = ((s.gather j).slot b).scaled := by
  rw [State.completeUnevaluated_slot s b b i j he]
  split
  · rename_i h
    obtain ⟨_, rfl, _⟩ := h
    rw [State.slotEnded, he]
    rfl
  · rfl

/-- A queue whose slots have no scaled value ends without an extreme moving. -/
theorem State.dropQueue_extremesKept {e : Ending} (he : e.evaluated = false)
    (h : ∀ i ∈ (s.bay b).queue, ((s.gather i).slot b).scaled = none) (j : GatherNo) :
    ((s.dropQueue b e).gather j).extremesKept (s.gather j) := by
  have fold : ∀ (l : List GatherNo) (t : State), (∀ i ∈ l, ((t.gather i).slot b).scaled = none) →
      ((l.foldl (fun t i => t.completeUnevaluated b i e) t).gather j).extremesKept (t.gather j) := by
    intro l
    induction l with
    | nil => intro t _; exact ⟨rfl, rfl⟩
    | cons i l ih =>
      intro t hl
      obtain ⟨rlow, rhigh⟩ := ih (t.completeUnevaluated b i e) fun k hk => by
        rw [State.completeUnevaluated_scaled t b i k he]
        exact hl k (List.mem_cons_of_mem i hk)
      obtain ⟨low, high⟩ := State.completeUnevaluated_extremesKept (hl i List.mem_cons_self) e j
      exact ⟨rlow.trans low, rhigh.trans high⟩
  exact fold _ (s.modBay b Bay.emptyQueue) h

/-! ### Statistics (R109) -/

theorem Profile.statsKept_refl (p : Profile) : p.statsKept p := ⟨rfl, rfl, rfl, rfl⟩

theorem Profile.statsKept.trans {p q r : Profile} (h : q.statsKept p) (h' : r.statsKept q) : r.statsKept p := by
  obtain ⟨h1, h2, h3, h4⟩ := h
  obtain ⟨k1, k2, k3, k4⟩ := h'
  exact ⟨k1.trans h1, k2.trans h2, k3.trans h3, k4.trans h4⟩

/-- The completion of a gather counts down its profile's in-use count and leaves the statistics (R80). -/
theorem State.completeGatherIfFinal_statsKept (s : State) (i : GatherNo) (p : ProfileNo) :
    ((s.completeGatherIfFinal i).profile p).statsKept (s.profile p) := by
  unfold State.completeGatherIfFinal State.completeGather
  split
  · exact Profile.statsKept_refl _
  · rw [State.raise_profile, State.profile_modProfile]
    split
    · rename_i hp; subst hp; exact ⟨rfl, rfl, rfl, rfl⟩
    · exact Profile.statsKept_refl _

theorem State.completeUnevaluated_statsKept (s : State) (b : BayNo) (i : GatherNo) (e : Ending) (p : ProfileNo) :
    ((s.completeUnevaluated b i e).profile p).statsKept (s.profile p) := by
  unfold State.completeUnevaluated
  split
  · exact State.completeGatherIfFinal_statsKept (s.modGather i _) i p
  · exact Profile.statsKept_refl _

theorem State.dropQueue_statsKept (s : State) (b : BayNo) (e : Ending) (p : ProfileNo) :
    ((s.dropQueue b e).profile p).statsKept (s.profile p) := by
  have fold : ∀ (l : List GatherNo) (t : State),
      ((l.foldl (fun t i => t.completeUnevaluated b i e) t).profile p).statsKept (t.profile p) := by
    intro l
    induction l with
    | nil => intro t; exact Profile.statsKept_refl _
    | cons i l ih => intro t; exact (t.completeUnevaluated_statsKept b i e p).trans (ih _)
  exact fold _ (s.modBay b Bay.emptyQueue)

end Sys2Proof.Machine
end

section
/-! PROOFS. The end of an ask, ANSWERED or TIMED_OUT: the completion of its slot and what follows at the bay (R11, R32, R33,
R73 to R79). -/

namespace Sys2Proof.Machine

variable {s : State} {b : BayNo} {i : GatherNo}

/-! ### The completion of the SENT slot (R34, R73) -/

/-- The bay's SENT slot is completed and no exchange is left on its link, whose receiver is as given; the bay is still
ASKING. -/
def State.askCompleted (s : State) (b : BayNo) (i : GatherNo) (e : Ending) (a : Option Answer) (r : Receiver)
    (gap : Option Time) : State :=
  (s.completeEvaluated b i e a).modBay b (fun x => x.modLink (fun l => { l.endAsk with receiver := r, gap := gap }))

theorem Bay.credits_eq_true {x : Bay} {tag : Byte} (hs : x.state = .asking) (hout : x.link.outstanding = some tag)
    (htimer : x.link.answerTimer.isSome) : x.credits tag = true := by
  simp [Bay.credits, hs, hout, htimer]

theorem eventAnswerAccepted_credited {f : BayFrame} {a : Answer} (hacc : (s.bay b).link.accepts kindAnswer f)
    (ha : readAnswer f.body = some a) (hcredits : (s.bay b).credits f.tag) (hi : s.sentGather b = some i) :
    eventAnswerAccepted b f s = (s.askCompleted b i .answered (some a) .hunting none).followAsk b i := by
  unfold eventAnswerAccepted
  simp only [hacc, if_true, ha, hcredits]
  rw [State.endAsk_of_asking (s := s.huntAgain b) hi, State.huntAgain, State.modBay_modBay]
  exact congrArg (fun u : State => u.followAsk b i) (s.completeEvaluated_modLink b
    (fun l => { l.endAsk with receiver := .hunting, gap := none }) i .answered (some a))

theorem eventAnswerTimerExpiry_timedOut (hran : ranOut (s.bay b).link.answerTimer s.clock)
    (hs : (s.bay b).state = .asking) (hi : s.sentGather b = some i) :
    eventAnswerTimerExpiry b s =
      (s.askCompleted b i .timedOut none (s.bay b).link.receiver (s.bay b).link.gap).followAsk b i := by
  unfold eventAnswerTimerExpiry
  rw [if_pos hran, if_pos hs, State.endAsk_of_asking hi]
  exact congrArg (fun u : State => u.followAsk b i) (s.completeEvaluated_modLink b
    (fun l => { l.endAsk with receiver := (s.bay b).link.receiver, gap := (s.bay b).link.gap }) i .timedOut none)

/-- From s to u the SENT slot of a bay was completed with its record, and the bay's exchange and window were closed: what
R34 and R73, steps 1 to 6, leave for the bay's next state. -/
structure State.AskCompletion (s u : State) (b : BayNo) (i : GatherNo) (e : Ending) (a : Option Answer) (r : Receiver)
    (gap : Option Time) : Prop where
  bay : u.bay b = { s.bay b with
    link := { (s.bay b).link.endAsk with receiver := r, gap := gap }
    ring := (u.bay b).ring
    window := .closed }
  slot : (u.gather i).slot b = s.slotJudged b i e a
  others : ∀ j, j ≠ i → u.gather j = s.gather j
  gathers : u.gathers = (s.completeEvaluated b i e a).gathers
  profiles : u.profiles = (s.completeEvaluated b i e a).profiles
  same : s.SameTerms u
  records : s.recordsAre u b [(.outcome, outcomeFields i (s.gather i) (s.slotJudged b i e a) s.clock)]
  converter : u.converter = s.converter.untie b
  queue : u.QueueAt b
  wakeTimeout : u.wakeTimeout = s.wakeTimeout

theorem State.askCompleted_completion {e : Ending} {a : Option Answer} (h : s.ExchangeAt b)
    (hsent : ((s.gather i).slot b).stage = .sent) (he : e.evaluated) (ha : payloadFits a) (r : Receiver)
    (gap : Option Time) : s.AskCompletion (s.askCompleted b i e a r gap) b i e a r gap where
  bay := by
    have hwindow := s.completeEvaluated_window b i e a
    rw [if_pos hsent] at hwindow
    rw [State.askCompleted, State.bay_modBay, if_pos rfl, State.completeEvaluated_bay, hwindow]
    rfl
  slot := (s.completeEvaluated_slot b b i i e a).trans (if_pos ⟨(Slot.endable_iff _).2 (.inr hsent), rfl, rfl⟩)
  others j hj := State.completeEvaluated_gather_ne (Ne.symm hj) e a
  gathers := rfl
  profiles := rfl
  same := (s.completeEvaluated_ends b i a he ha).same.trans (.of_eq rfl rfl rfl)
  records := (s.completeEvaluated_recordsAre b i e a ((Slot.endable_iff _).2 (.inr hsent))).right rfl
    (by simp [State.askCompleted]) rfl
  converter := (s.completeEvaluated_converter b i e a).trans (if_pos hsent)
  queue := (State.completeEvaluated_askOver h hsent e a).queue.modBay _ rfl
  wakeTimeout := by simp [State.askCompleted]

/-! ### What follows at the bay (R11, R77 to R79) -/

/-- After the completion the bay went to a state with this queue and wake timer; the gather of the ask and all statistics
are as the completion left them, and no record was handed over. -/
structure State.AskFollowed (u t : State) (b : BayNo) (i : GatherNo) (st : BayState) (queue : List GatherNo)
    (wake : Option Time) : Prop where
  bay : t.bay b = { u.bay b with state := st, queue := queue, link := { (u.bay b).link with wakeTimer := wake } }
  gather : t.gather i = u.gather i
  stats : ∀ p, (t.profile p).statsKept (u.profile p)
  records : u.recordsAre t b []
  converter : t.converter = u.converter

theorem State.followAsk_of_bench (h : ((s.gather i).slot b).verdict = .fail ∧ (s.gather i).benchOnFail) :
    s.followAsk b i = (s.modBay b (fun x => { x with state := .benched })).dropQueue b .skipped := if_pos h

theorem State.followAsk_of_restart (h : ¬(((s.gather i).slot b).verdict = .fail ∧ (s.gather i).benchOnFail))
    (hr : (s.gather i).expectRestart) : s.followAsk b i = s.startWake b := (if_neg h).trans (if_pos hr)

theorem State.followAsk_of_ready (h : ¬(((s.gather i).slot b).verdict = .fail ∧ (s.gather i).benchOnFail))
    (hr : ¬(s.gather i).expectRestart) : s.followAsk b i = s.modBay b (fun x => { x with state := .ready }) :=
  (if_neg h).trans (if_neg hr)

theorem State.benched_followed (hi : i ∉ (s.bay b).queue) :
    s.AskFollowed ((s.modBay b (fun x => { x with state := .benched })).dropQueue b .skipped) b i .benched []
      (s.bay b).link.wakeTimer where
  bay := by simp
  gather := State.dropQueue_gather_of_not_mem (by simpa using hi) _
  stats := State.dropQueue_statsKept _ b .skipped
  records := (State.dropQueue_recordsAre _ b .skipped).left rfl
  converter := by simp

theorem State.startWake_followed (s : State) (b : BayNo) (i : GatherNo) :
    s.AskFollowed (s.startWake b) b i .waking (s.bay b).queue
      (some (s.clock + BitVec.ofNat 48 (s.wakeTimeout.toNat * 1000))) where
  bay := by rw [State.startWake_bay, if_pos rfl]; rfl
  gather := rfl
  stats _ := Profile.statsKept_refl _
  records := s.recordsAre_modBay b _ rfl
  converter := rfl

theorem State.ready_followed (s : State) (b : BayNo) (i : GatherNo) :
    s.AskFollowed (s.modBay b (fun x => { x with state := .ready })) b i .ready (s.bay b).queue
      (s.bay b).link.wakeTimer where
  bay := by rw [State.bay_modBay, if_pos rfl]
  gather := rfl
  stats _ := Profile.statsKept_refl _
  records := s.recordsAre_modBay b _ rfl
  converter := rfl

theorem State.followAsk_followed (hi : i ∉ (s.bay b).queue) :
    ∃ st queue wake, s.AskFollowed (s.followAsk b i) b i st queue wake := by
  by_cases hbench : ((s.gather i).slot b).verdict = .fail ∧ (s.gather i).benchOnFail
  · rw [State.followAsk_of_bench hbench]
    exact ⟨_, _, _, State.benched_followed hi⟩
  · by_cases hrestart : (s.gather i).expectRestart
    · rw [State.followAsk_of_restart hbench hrestart]
      exact ⟨_, _, _, s.startWake_followed b i⟩
    · rw [State.followAsk_of_ready hbench hrestart]
      exact ⟨_, _, _, s.ready_followed b i⟩

/-- Once the SENT slot is completed, a bay that is BENCHED ends its QUEUED slots SKIPPED, and no extreme of their gathers
moves (R76, R77). -/
theorem State.AskCompletion.benched_queued {u : State} {e : Ending} {a : Option Answer} {r : Receiver}
    {gap : Option Time} (h : s.AskCompletion u b i e a r gap) (hs : s.gathersConsistent)
    (hsent : ((s.gather i).slot b).stage = .sent) {j : GatherNo} (hj : ((s.gather j).slot b).stage = .queued) :
    (((u.modBay b (fun x => { x with state := .benched })).dropQueue b .skipped).gather j).slot b =
        s.slotEnded b j .skipped ∧
      (((u.modBay b (fun x => { x with state := .benched })).dropQueue b .skipped).gather j).extremesKept (s.gather j) := by
  have notSent : ∀ k, ((s.gather k).slot b).stage = .queued → k ≠ i := fun k hk hki => by
    rw [hki, hsent] at hk
    cases hk
  have unscaled : ∀ k ∈ (u.bay b).queue, ((u.gather k).slot b).scaled = none := fun k hk => by
    rw [h.queue.queued k] at hk
    have hki : k ≠ i := fun hki => by simp [hki, h.slot] at hk
    rw [h.others k hki] at hk ⊢
    obtain ⟨_, hslots, _⟩ := (Gather.consistent_iff _).1 (hs k).1
    obtain ⟨_, _, hscaled⟩ := Slot.ending_of_endable (hslots b).2 ((Slot.endable_iff _).2 (.inl hk))
    exact hscaled
  have benched : (u.modBay b (fun x => { x with state := .benched })).QueueAt b := h.queue.modBay _ rfl
  have meets := State.slotsMeet_modBay rfl (State.dropQueue_slotsMeet (e := .skipped) rfl benched) j
  have kept := State.dropQueue_extremesKept (s := u.modBay b (fun x => { x with state := .benched })) (b := b)
    (e := .skipped) rfl (by simpa using unscaled) j
  rw [State.modBay_gather] at kept
  rw [h.others j (notSent j hj)] at meets kept
  refine ⟨?_, kept⟩
  rw [meets, hj]
  exact State.slotEnded_congr h.same (by rw [h.others j (notSent j hj)]) (by simp [hj]) _

/-- Settles O34: the two commands complete the SENT slot in the same way, and the bay goes on by the slot's verdict and
the gather's options. -/
theorem anAskEndsAnsweredOrTimedOut : Obligations.AnAskEndsAnsweredOrTimedOut := by
  intro s b i c e a hnone h hs hsent hends
  have exchange := h.exchangeAt b
  have hi := exchange.ask.sentGather hsent
  obtain ⟨r, gap, hexec, he, hfits, hreceiver⟩ : ∃ r gap,
      exec c s = .next ((s.askCompleted b i e a r gap).followAsk b i) ∧ e.evaluated ∧ payloadFits a ∧
        if e = .answered then r = .hunting ∧ gap = none
        else r = (s.bay b).link.receiver ∧ gap = (s.bay b).link.gap := by
    rcases hends with ⟨f, answer, rfl, hacc, ha, hout, htimer, rfl, rfl⟩ | ⟨expiry, rfl, htimer, hreached, rfl, rfl⟩
    · refine ⟨.hunting, none, ?_, rfl, payloadFits_readAnswer ha, by simp⟩
      rw [← eventAnswerAccepted_credited hacc ha (Bay.credits_eq_true hs hout htimer) hi]
      exact State.next_before_of_none hnone _ (eventAnswerAccepted b f)
    · refine ⟨(s.bay b).link.receiver, (s.bay b).link.gap, ?_, rfl, payloadFits_none, by simp⟩
      have hran : ranOut (s.bay b).link.answerTimer s.clock := by rw [htimer]; exact hreached
      rw [← eventAnswerTimerExpiry_timedOut hran hs hi]
      exact State.next_before_of_none hnone _ (eventAnswerTimerExpiry b)
  have completed := State.askCompleted_completion exchange hsent he hfits r gap
  generalize s.askCompleted b i e a r gap = u at hexec completed
  have hnotQueued : i ∉ (u.bay b).queue := by
    rw [completed.queue.queued i, completed.slot]
    simp
  obtain ⟨st, q, wake, followed⟩ := State.followAsk_followed hnotQueued
  have hfinal : ((u.followAsk b i).gather i).slot b = s.slotJudged b i e a := by rw [followed.gather, completed.slot]
  have written : s.recordsAre (u.followAsk b i) b [s.outcomeRecord (u.followAsk b i) b i] := by
    rw [State.outcomeRecord, hfinal]
    exact completed.records.append completed.same.clock followed.records
  have ring := written.ring
  have hown := followed.bay
  rw [completed.bay] at hown
  refine ⟨_, hexec, hfinal, written, ?stage, ?ending, ?tag, ?sendTime, ?answerTime, ?status, ?raw, ?payload, ?stats,
    ?verdict, ⟨?gather, ?profiles⟩, ?quiet, ?sending, ?receiver, ?tie,
    ?closed, ?supply, ?tunnels, ?nextTag, ?rates, ?seat, ?identity, ring.1, ring.2, ?follows⟩
  case tie =>
    rw [followed.converter, completed.converter]
    exact s.converter.untie_tieEnded b
  case gather => rw [followed.gather, State.gather_eq_get, completed.gathers]; rfl
  case profiles =>
    intro p
    have := followed.stats p
    rwa [u.profile_eq_get, completed.profiles] at this
  case follows =>
    obtain ⟨_, _, _, _, _, _, _, _, hbenchOnFail, hexpectRestart, _⟩ := completed.same.terms i
    rw [followed.gather, ← hbenchOnFail, ← hexpectRestart]
    by_cases hbench : ((u.gather i).slot b).verdict = .fail ∧ (u.gather i).benchOnFail
    · rw [if_pos hbench, State.followAsk_of_bench hbench]
      have own := (State.benched_followed hnotQueued).bay
      rw [completed.bay] at own
      rw [own]
      refine ⟨rfl, rfl, rfl, fun j hj => ?_, fun j hji hj => ?_⟩
      · exact completed.benched_queued h.gathers hsent hj
      · rw [State.dropQueue_gather_of_not_mem, State.modBay_gather, completed.others j hji]
        rw [State.bay_modBay, if_pos rfl, completed.queue.queued j, completed.others j hji]
        exact hj
    · rw [if_neg hbench]
      by_cases hrestart : (u.gather i).expectRestart
      · rw [if_pos hrestart, State.followAsk_of_restart hbench hrestart]
        have own := (u.startWake_followed b i).bay
        rw [completed.bay, completed.same.clock, completed.wakeTimeout] at own
        rw [own]
        exact ⟨rfl, rfl, rfl, completed.profiles, completed.others⟩
      · rw [if_neg hrestart, State.followAsk_of_ready hbench hrestart]
        have own := (u.ready_followed b i).bay
        rw [completed.bay] at own
        rw [own]
        exact ⟨rfl, rfl, rfl, completed.profiles, completed.others⟩
  case stats => rw [hfinal]; exact if_pos hsent
  case stage | ending | tag | sendTime | answerTime | status | raw | payload | verdict => rw [hfinal]; rfl
  all_goals rw [hown]
  case receiver => exact hreceiver
  case nextTag => rfl
  case quiet => exact ⟨rfl, rfl, rfl⟩
  case sending | tunnels | identity => exact ⟨rfl, rfl⟩
  case rates | seat => exact ⟨rfl, rfl, rfl, rfl⟩

end Sys2Proof.Machine
end

section
/-! SUPPORT. The end of a bay's exchange by an event of its supply, in three parts: what comes before the ask is lost, the
loss of the ask with or without the end of the queue, and what comes after (R42, R45, R47, R50, R53). -/

namespace Sys2Proof.Machine

variable {s t u : State} {b : BayNo} {first : List (RecordKind × List Byte)} {queued : Option Ending}

/-! ### What comes before the ask is lost -/

theorem State.EndsSlots.thenBay {f : Bay → Bay} (h : State.EndsSlots b s t) (hf : ∀ x, (f x).ring = x.ring) :
    State.EndsSlots b s (t.modBay b f) := h.trans (.modBay t b f (by rw [hf]; exact ⟨rfl, rfl⟩))

theorem State.EndsSlots.thenRecord (h : State.EndsSlots b s t) (kind : RecordKind) {own : List Byte}
    (hown : own.length ≤ 85) : State.EndsSlots b s (t.writeRecord b kind own) :=
  h.trans ⟨State.OnlyAt.writeRecord (.refl b t) kind own hown, t.writeRecord_sameTerms .., t.writeRecord_eventsKept ..,
    by simp, by simp, fun hg => State.gathersConsistent_congr hg (by simp)⟩

/-- From s to u these records were handed over for the bay, and nothing changed that the end of its exchange rests on. -/
structure State.Prepares (s u : State) (b : BayNo) (first : List (RecordKind × List Byte)) : Prop where
  state : (u.bay b).state = (s.bay b).state
  queue : (u.bay b).queue = (s.bay b).queue
  window : (u.bay b).window = (s.bay b).window
  slots : ∀ i, (u.gather i).slot b = (s.gather i).slot b
  ends : State.EndsSlots b s u
  converter : u.converter = s.converter
  records : s.recordsAre u b first

namespace State.Prepares

theorem refl (s : State) (b : BayNo) : s.Prepares s b [] := ⟨rfl, rfl, rfl, fun _ => rfl, .refl b s, rfl, rfl, rfl, rfl⟩

/-- A change of the bay's record that keeps its state, queue, window and ring. -/
theorem modBay {f : Bay → Bay} (h : s.Prepares u b first) (hstate : ∀ x, (f x).state = x.state)
    (hqueue : ∀ x, (f x).queue = x.queue) (hwindow : ∀ x, (f x).window = x.window) (hring : ∀ x, (f x).ring = x.ring) :
    s.Prepares (u.modBay b f) b first where
  state := by simpa [hstate] using h.state
  queue := by simpa [hqueue] using h.queue
  window := by simpa [hwindow] using h.window
  slots := h.slots
  ends := h.ends.thenBay hring
  converter := h.converter
  records := h.records.right rfl (by simp [hring]) rfl

theorem writeRecord (h : s.Prepares u b first) (kind : RecordKind) {own : List Byte} (hown : own.length ≤ 85) :
    s.Prepares (u.writeRecord b kind own) b (first ++ [(kind, own)]) where
  state := by simpa using h.state
  queue := by simpa using h.queue
  window := by simpa using h.window
  slots := by simpa using h.slots
  ends := h.ends.thenRecord kind hown
  converter := by simpa using h.converter
  records := h.records.append h.ends.same.clock (u.recordsAre_writeRecord ..)

theorem exchangeAt (h : s.Prepares u b first) (hs : s.ExchangeAt b) : u.ExchangeAt b where
  ask := ⟨by simpa [h.state, h.slots] using hs.ask.asking, by simpa [h.slots] using hs.ask.unique⟩
  queue := ⟨by simpa [h.queue] using hs.queue.nodup, by simpa [h.queue, h.slots] using hs.queue.queued⟩
  window := by simpa [h.window, h.state] using hs.window
  tie := by simpa [h.window, h.converter] using hs.tie

theorem slotsMeet {f : Fate} (h : s.Prepares u b first) (hu : u.slotsMeet t b f) : s.slotsMeet t b f := by
  have hafter : ∀ i e, u.slotAfter b i e = s.slotAfter b i e := fun i e => by
    cases e with
    | none => exact h.slots i
    | some e => exact State.slotEnded_congr h.ends.same (h.slots i) (fun _ => h.window) e
  intro i
  rw [hu i]
  simp only [hafter, h.slots]

theorem askRecord (h : s.Prepares u b first) (t : State) : u.askRecord t b = s.askRecord t b := by
  simp only [State.askRecord, State.sentGather, h.state, h.slots, State.outcomeRecord_congr h.ends.same]

end State.Prepares

/-! ### The end of the exchange -/

/-- The OUTCOME records of the bay's QUEUED slots when the event ends them, and none when it leaves them (R64, R75). -/
def State.queuedRecords (s t : State) (b : BayNo) : Option Ending → List (RecordKind × List Byte)
  | none => []
  | some _ => s.queueRecords t b

/-- From s to t the bay's exchange ended: its SENT slot LOST, its QUEUED slots as given, its window closed, a conversion
for it tied no longer, and after the event's own records those of the slots were handed over. -/
structure State.EndsExchange (s t : State) (b : BayNo) (first : List (RecordKind × List Byte)) (queued : Option Ending) :
    Prop where
  slots : s.slotsMeet t b { sent := some .lost, queued := queued }
  records : s.recordsAre t b (first ++ s.askRecord t b ++ s.queuedRecords t b queued)
  tie : t.converter.tieEnded s.converter b
  window : (t.bay b).window = .closed

theorem State.Prepares.loseAsk (h : s.Prepares u b first) (hs : s.ExchangeAt b) :
    s.EndsExchange (u.loseAsk b) b first none := by
  have before := h.exchangeAt hs
  obtain ⟨hwindow, htie, _⟩ := before.loseAsk
  refine ⟨h.slotsMeet (State.loseAsk_slotsMeet before.ask), ?_, h.converter ▸ htie, hwindow⟩
  rw [State.queuedRecords, List.append_nil, ← h.askRecord]
  exact h.records.append h.ends.same.clock (State.loseAsk_recordsAre before.ask)

theorem State.Prepares.loseAsk_unreachQueue (h : s.Prepares u b first) (hs : s.ExchangeAt b) :
    s.EndsExchange ((u.loseAsk b).unreachQueue b) b first (some .unreached) := by
  have before := h.exchangeAt hs
  obtain ⟨hwindow, htie, _⟩ := before.loseAsk
  have hqueue := before.askOver.queue
  refine ⟨h.slotsMeet (State.loseAsk_unreachQueue_slotsMeet before.ask before.queue), ?_, ?_, ?_⟩
  · rw [State.queuedRecords, ← h.askRecord, ← State.queueRecords_congr h.ends.same h.queue, List.append_assoc]
    exact h.records.append h.ends.same.clock (State.loseAsk_unreachQueue_recordsAre before.ask before.queue)
  · rw [State.unreachQueue_converter hqueue]
    exact h.converter ▸ htie
  · rw [State.unreachQueue_window hqueue]
    exact hwindow

namespace State.EndsExchange

/-! ### What comes after -/

/-- What comes after leaves the bay's slots, ring and window, the bytes, the RING_FULL place and the converter alone. -/
theorem right (h : s.EndsExchange u b first queued) (hslots : ∀ i, (t.gather i).slot b = (u.gather i).slot b)
    (hcells : t.cells = u.cells) (hring : (t.bay b).ring = (u.bay b).ring)
    (hfull : t.notices.ringFull.get b = u.notices.ringFull.get b) (hconverter : t.converter = u.converter)
    (hwindow : (t.bay b).window = (u.bay b).window) : s.EndsExchange t b first queued := by
  have hqueued : s.queuedRecords t b queued = s.queuedRecords u b queued := by
    cases queued with
    | none => rfl
    | some e => exact State.queueRecords_congr_right hslots
  refine ⟨h.slots.right hslots, ?_, hconverter ▸ h.tie, hwindow.trans h.window⟩
  rw [State.askRecord_congr_right hslots, hqueued]
  exact h.records.right hcells hring hfull

theorem modBay {f : Bay → Bay} (h : s.EndsExchange u b first queued) (hring : ∀ x, (f x).ring = x.ring)
    (hwindow : ∀ x, (f x).window = x.window) : s.EndsExchange (u.modBay b f) b first queued :=
  h.right (fun _ => rfl) rfl (by simp [hring]) rfl rfl (by simp [hwindow])

theorem raise (h : s.EndsExchange u b first queued) (p : Place) : s.EndsExchange (u.raise p) b first queued :=
  h.right (by simp) (by simp) (by simp) (by simp) (by simp) (by simp)

theorem startWake (h : s.EndsExchange u b first queued) : s.EndsExchange (u.startWake b) b first queued :=
  h.right (fun _ => rfl) rfl (by simp) rfl rfl (by simp)

theorem answer (h : s.EndsExchange u b first queued) (c : Instr) (status : Status) (body : List Byte) :
    s.EndsExchange (u.answer c status body) b first queued :=
  h.right (by simp) (by simp) (by simp) (by simp) (by simp) (by simp)

/-! ### The records -/

/-- One sequence number for each record of the event, of the ask and of the QUEUED slots that end (R133). -/
theorem ring (h : s.EndsExchange t b first queued) (hs : s.AskAt b) :
    (t.bay b).windowOfRingKept (s.bay b) ∧ (t.bay b).wroteRecords (s.bay b)
      (first.length + (s.bay b).asks + if queued.isSome then (s.bay b).queue.length else 0) := by
  have hlength : (s.queuedRecords t b queued).length = if queued.isSome then (s.bay b).queue.length else 0 := by
    cases queued with
    | none => rfl
    | some e => exact s.queueRecords_length t b
  have := h.records.ring
  rwa [List.length_append, List.length_append, State.askRecord_length _ hs, hlength] at this

/-- Without an ask to lose or a queue to end, the event's own record is the only one. -/
theorem cells {kind : RecordKind} {own : List Byte} (h : s.EndsExchange t b [(kind, own)] queued)
    (hs : (s.bay b).state ≠ .asking) (hq : queued = none ∨ (s.bay b).queue = []) :
    t.cells = s.cellsAfter b kind own := by
  have hqueued : s.queuedRecords t b queued = [] := by
    rcases hq with rfl | hq
    · rfl
    · cases queued <;> simp [State.queuedRecords, State.queueRecords, hq]
  refine State.cells_of_recordsAre_one ?_
  simpa [State.askRecord, hs, hqueued] using h.records

end State.EndsExchange

/-! ### The link of a bay whose supply went off -/

/-- A bay that agrees has an ask to end only when it is ASKING (R20, R34). -/
theorem Bay.Agrees.link_disabled {x : Bay} {slots : GatherNo → Slot} (h : x.Agrees slots) :
    ({ x.link.disable with
        wakeTimer := none
        answerTimer := if x.state = .asking then none else x.link.answerTimer
        outstanding := if x.state = .asking then none else x.link.outstanding } : Link) =
      { x.link.disable.endAsk with wakeTimer := none } := by
  by_cases ha : x.state = .asking
  · simp only [ha, if_true]
    rfl
  · obtain ⟨_, hout, htimer⟩ := h.quiet ha
    simp only [ha, if_false, hout, htimer]
    rfl

end Sys2Proof.Machine
end

section
/-! PROOFS. SET_SUPPLY (R42 to R46). -/

namespace Sys2Proof.Machine

variable {s t : State} {b : BayNo} {bay mode : Byte}

/-! ### Codes and thresholds -/

theorem OnMode.threshold_eq (m : OnMode) : m.threshold = if m = .limited then 600 else 4000 := by
  cases m <;> rfl

theorem supplyModeOf_eq_none : supplyModeOf mode = none ↔ 2 < mode.toNat := by
  unfold supplyModeOf
  split_ifs <;> simp only [false_iff, true_iff] <;> bv_omega

theorem SupplyMode.code_of_supplyModeOf {m : SupplyMode} (h : supplyModeOf mode = some m) : m.code = mode := by
  unfold supplyModeOf at h
  split_ifs at h with hoff hlimited hfull <;> cases h
  exacts [hoff.symm, hlimited.symm, hfull.symm]

/-! ### What SET_SUPPLY does in each bay state -/

theorem State.setSupply_refused (hs : (s.bay b).state = .vacant ∨ (s.bay b).state = .faulted) (m : SupplyMode) :
    s.setSupply b m = none := by
  unfold State.setSupply
  rcases hs with hs | hs <;> rw [hs]

theorem State.setSupply_off_unpowered (hs : (s.bay b).state = .unpowered) : s.setSupply b .off = some s := by
  unfold State.setSupply
  rw [hs]

theorem State.setSupply_on_unpowered (hs : (s.bay b).state = .unpowered) (m : OnMode) :
    s.setSupply b (.on m) = some ((s.modBay b (fun x => x.switchOn m)).startWake b) := by
  unfold State.setSupply
  rw [hs]

theorem State.setSupply_off_cycling (hs : (s.bay b).state = .cycling) : s.setSupply b .off = some (s.cycleOff b) := by
  unfold State.setSupply
  rw [hs]

theorem State.setSupply_on_cycling (hs : (s.bay b).state = .cycling) (m : OnMode) :
    s.setSupply b (.on m) = some (s.modBay b (fun x => x.modSupply (fun p => { p with saved := m }))) := by
  unfold State.setSupply
  rw [hs]

theorem State.setSupply_off_powered (hs : (s.bay b).state.supplyOff = false) :
    s.setSupply b .off = some (s.supplyOff b) := by
  unfold State.setSupply
  cases hst : (s.bay b).state <;> simp_all [BayState.supplyOff]

theorem State.setSupply_on_powered (hs : (s.bay b).state.supplyOff = false) (m : OnMode) :
    s.setSupply b (.on m) = some (s.modBay b (fun x => x.changeMode m)) := by
  unfold State.setSupply
  cases hst : (s.bay b).state <;> simp_all [BayState.supplyOff]

/-- A bay switched on from UNPOWERED, as a whole (R42, R8). -/
theorem State.switchOn_startWake_eq (s : State) (b : BayNo) (m : OnMode) :
    (s.modBay b (fun x => x.switchOn m)).startWake b = s.setBay b { s.bay b with
      state := .waking
      supply := { (s.bay b).supply with
        mode := .on m, comparator := .watching (if m = .limited then 600 else 4000), detector := .low }
      link := { (s.bay b).link with
        receiver := .hunting, gap := none, transmitter := .idle, frameOut := [],
        wakeTimer := some (s.clock + BitVec.ofNat 48 (s.wakeTimeout.toNat * 1000)) } } := by
  rw [← OnMode.threshold_eq]
  exact s.modBay_modBay b _ _

/-! ### The request -/

theorem requestSetSupply_bad (h : bayOf bay = none ∨ supplyModeOf mode = none) :
    requestSetSupply bay mode s = s.answer (.setSupply bay mode) .badParam [] := by
  unfold requestSetSupply
  split
  · rename_i hb hm
    simp [hb, hm] at h
  · rfl

theorem requestSetSupply_refused {m : SupplyMode} (hb : bayOf bay = some b) (hm : supplyModeOf mode = some m)
    (ht : s.setSupply b m = none) :
    requestSetSupply bay mode s = s.answer (.setSupply bay mode) .wrongState [] := by
  unfold requestSetSupply
  simp only [hb, hm, ht]

theorem requestSetSupply_done {m : SupplyMode} (hb : bayOf bay = some b) (hm : supplyModeOf mode = some m)
    (ht : s.setSupply b m = some t) :
    requestSetSupply bay mode s =
      t.answer (.setSupply bay mode) .ok [(t.bay b).state.code, (t.bay b).supply.mode.code] := by
  unfold requestSetSupply
  simp only [hb, hm, ht]

/-- Settles O18, by the operands and the state of the bay. -/
theorem setSupplyTurnsOnOrChangesMode : Obligations.SetSupplyTurnsOnOrChangesMode := by
  intro s bay mode hclear
  have hexec : exec (.setSupply bay mode) s = .next (requestSetSupply bay mode s) :=
    State.next_serve_of_clear hclear (.setSupply bay mode) (requestSetSupply bay mode)
  refine ⟨fun hbad => ⟨_, hexec, ?_⟩, fun b m hb hm hs => ⟨_, hexec, ?_⟩, fun b hb hm hs => ⟨_, hexec, ?_⟩,
    fun b m hb hm hs => ⟨_, hexec, ?_⟩, fun b m hb hm hs => ⟨_, hexec, ?_⟩, fun b m hb hm hs => ⟨_, hexec, ?_⟩⟩
  · rw [requestSetSupply_bad (hbad.imp bayOf_eq_none.2 supplyModeOf_eq_none.2)]
    exact s.answer_repliedAs ..
  · rw [requestSetSupply_refused hb hm (State.setSupply_refused hs m)]
    exact s.answer_repliedAs ..
  · subst hm
    rw [requestSetSupply_done hb rfl (State.setSupply_off_unpowered hs), hs]
    exact s.answer_repliedAs ..
  · rw [requestSetSupply_done hb hm ((State.setSupply_on_unpowered hs m).trans
      (congrArg some (s.switchOn_startWake_eq b m))), State.bay_setBay, if_pos rfl,
      SupplyMode.code_of_supplyModeOf (m := .on m) hm]
    exact State.answer_repliedAs ..
  · rw [requestSetSupply_done hb hm (State.setSupply_on_cycling hs m), State.bay_modBay, if_pos rfl,
      Bay.modSupply_state, hs]
    exact State.answer_repliedAs ..
  · rw [requestSetSupply_done hb hm (State.setSupply_on_powered hs m), State.bay_modBay, if_pos rfl,
      ← OnMode.threshold_eq]
    have hcode := SupplyMode.code_of_supplyModeOf hm
    simp only [Bay.changeMode, Bay.modSupply, hcode]
    exact State.answer_repliedAs ..

/-! ### OFF in a powered state (R45) -/

theorem State.supplyOff_ends (h : s.ExchangeAt b) : s.EndsExchange (s.supplyOff b) b [] (some .unreached) :=
  have before := (State.Prepares.refl s b).modBay (f := fun x => x.switchOff.stopWake) (fun _ => rfl) (fun _ => rfl)
    (fun _ => rfl) (fun _ => rfl)
  (before.loseAsk_unreachQueue h).modBay (f := fun x => { x with state := .unpowered }) (fun _ => rfl) (fun _ => rfl)

/-! ### OFF in CYCLING (R46) -/

/-- The bay's cycle given up, before its queue ends. -/
def Bay.cycleGivenUp (x : Bay) : Bay := { x.abandonCycle with state := .unpowered }

theorem Bay.cycleGivenUp_kept (x : Bay) : x.cycleGivenUp.queue = x.queue ∧ x.cycleGivenUp.window = x.window ∧
    x.cycleGivenUp.ring = x.ring := by
  simp [Bay.cycleGivenUp, Bay.abandonCycle_eq]

theorem State.cycleOff_eq (s : State) (b : BayNo) : s.cycleOff b = (s.modBay b Bay.cycleGivenUp).unreachQueue b := by
  unfold State.cycleOff
  exact congrArg (fun u => State.unreachQueue u b) (s.modBay_modBay b _ _)

theorem State.cycleOff_slotsMeet (h : s.QueueAt b) :
    s.slotsMeet (s.cycleOff b) b { sent := none, queued := some .unreached } := by
  obtain ⟨hqueue, hwindow, _⟩ := (s.bay b).cycleGivenUp_kept
  rw [State.cycleOff_eq]
  exact State.slotsMeet_modBay hwindow (State.unreachQueue_slotsMeet (h.modBay _ hqueue))

theorem State.cycleOff_recordsAre (h : s.QueueAt b) :
    s.recordsAre (s.cycleOff b) b (s.queueRecords (s.cycleOff b) b) := by
  obtain ⟨hqueue, _, hring⟩ := (s.bay b).cycleGivenUp_kept
  rw [State.cycleOff_eq, ← State.queueRecords_modBay hqueue]
  exact (State.unreachQueue_recordsAre (h.modBay _ hqueue)).left hring

theorem State.cycleOff_converter (h : s.QueueAt b) : (s.cycleOff b).converter = s.converter := by
  rw [State.cycleOff_eq, State.unreachQueue_converter (h.modBay _ (s.bay b).cycleGivenUp_kept.1)]
  rfl

/-- Settles O19: in a powered state the ask is lost and the queue ends; in CYCLING the queue alone ends. -/
theorem setSupplyOffTakesTheBayToUnpowered : Obligations.SetSupplyOffTakesTheBayToUnpowered := by
  intro s bay b hclear h hb
  have exchange := h.exchangeAt b
  have hexec : exec (.setSupply bay 0) s = .next (requestSetSupply bay 0 s) :=
    State.next_serve_of_clear hclear (.setSupply bay 0) (requestSetSupply bay 0)
  refine ⟨fun hs => ?_, fun hs => ?_⟩
  · obtain ⟨r, w, e⟩ := s.supplyOff_bay b
    rw [(h.bay b).link_disabled] at e
    rw [requestSetSupply_done hb rfl (State.setSupply_off_powered hs), e] at hexec
    have ended := (State.supplyOff_ends exchange).answer (.setSupply bay 0) .ok [1, 0]
    have ring := ended.ring exchange.ask
    refine ⟨_, hexec, State.answer_repliesWith .., ?state, ?supply, ?link, ?tunnels, ?nextTag, ?rates, ?queue,
      ended.window, ?seat, ?identity, ring.1, ?wrote, ended.records, ended.tie, ended.slots⟩
    case wrote => simpa using ring.2
    all_goals rw [State.answer_bay, e]
    case nextTag => rfl
    case link => exact ⟨rfl, rfl, rfl, rfl, rfl, rfl, rfl, rfl⟩
    case tunnels | identity => exact ⟨rfl, rfl⟩
    case rates | seat => exact ⟨rfl, rfl, rfl, rfl⟩
  · have hmode := (h.bay b).supply.mode.2 (by rw [hs]; rfl)
    obtain ⟨r, w, e⟩ := State.cycleOff_bay hs
    rw [requestSetSupply_done hb rfl (State.setSupply_off_cycling hs), e] at hexec
    simp only [hmode] at hexec
    have hslot : ∀ i, ((((s.cycleOff b).answer (.setSupply bay 0) .ok [1, 0]).gather i).slot b) =
        ((s.cycleOff b).gather i).slot b := by simp
    have records : s.recordsAre ((s.cycleOff b).answer (.setSupply bay 0) .ok [1, 0]) b
        (s.queueRecords ((s.cycleOff b).answer (.setSupply bay 0) .ok [1, 0]) b) := by
      rw [State.queueRecords_congr_right hslot]
      exact (State.cycleOff_recordsAre exchange.queue).right (by simp) (by simp) (by simp)
    have ring := records.ring
    rw [State.queueRecords_length] at ring
    refine ⟨_, hexec, State.answer_repliesWith .., ?_, ?_, ?_, ?_, ?seatKept, ?identityKept, ring.1, ring.2,
      records, ?converter, (State.cycleOff_slotsMeet exchange.queue).right hslot⟩
    case converter => rw [State.answer_converter, State.cycleOff_converter exchange.queue]
    all_goals rw [State.answer_bay, e]
    case seatKept => exact ⟨rfl, rfl, rfl, rfl⟩
    case identityKept => exact ⟨rfl, rfl⟩

end Sys2Proof.Machine
end

section
/-! PROOFS. The overcurrent trip and the sag (R41, R42, R47, R49, R50, R56). -/

namespace Sys2Proof.Machine

variable {s : State} {b : BayNo}

/-! ### Trip (R47) -/

/-- The supply off, the trip counted and recorded, before the bay's ask is lost (R47, steps 1 to 4). -/
def State.tripRecorded (s : State) (b : BayNo) (mode : OnMode) : State :=
  (((s.modBay b Bay.switchOff).modBay b (fun x => x.modSupply (fun p => { p with trips := satInc p.trips }))).writeRecord
    b .supply (supplyFields .trip mode)).modBay b Bay.stopWake

theorem State.takeTrip_eq (s : State) (b : BayNo) (mode : OnMode) : s.takeTrip b mode =
    ((((s.tripRecorded b mode).loseAsk b).unreachQueue b).modBay b (fun x => { x with state := .faulted })).raise
      (.bayFault b) := rfl

theorem State.tripRecorded_prepares (s : State) (b : BayNo) (mode : OnMode) :
    s.Prepares (s.tripRecorded b mode) b [(.supply, [1, mode.code])] := by
  have off := (State.Prepares.refl s b).modBay (f := Bay.switchOff) (fun _ => rfl) (fun _ => rfl) (fun _ => rfl)
    fun _ => rfl
  have counted := off.modBay (f := fun x => x.modSupply (fun p => { p with trips := satInc p.trips })) (fun _ => rfl)
    (fun _ => rfl) (fun _ => rfl) fun _ => rfl
  exact (counted.writeRecord .supply (supplyFields_length .trip mode)).modBay (f := Bay.stopWake) (fun _ => rfl)
    (fun _ => rfl) (fun _ => rfl) fun _ => rfl

theorem State.takeTrip_ends (h : s.ExchangeAt b) (mode : OnMode) :
    s.EndsExchange (s.takeTrip b mode) b [(.supply, [1, mode.code])] (some .unreached) := by
  rw [State.takeTrip_eq]
  exact (((s.tripRecorded_prepares b mode).loseAsk_unreachQueue h).modBay (f := fun x => { x with state := .faulted })
    (fun _ => rfl) fun _ => rfl).raise _

theorem State.takeTrip_raisedFrom (s : State) (b : BayNo) (mode : OnMode) :
    (s.takeTrip b mode).raisedFrom s (.bayFault b) := by
  have ends := ((s.tripRecorded_prepares b mode).ends.trans (State.loseAsk_ends _ b)).trans (State.unreachQueue_ends _ b)
  rw [State.takeTrip_eq]
  refine State.raise_raisedFrom_of_kept (by simp) (by simp) ?_ (by simpa using ends.classMask)
  simp [Notices.waiting, ends.events.bayFault]

theorem eventTrip_of_trips {m : OnMode} {milliamps : Nat} (hm : (s.bay b).supply.mode = .on m)
    (hcomparator : (s.bay b).supply.comparator = .watching m.threshold) (hover : m.threshold < milliamps) :
    eventTrip b milliamps s = s.takeTrip b m := by
  unfold eventTrip
  simp only [hm, hcomparator, Comparator.trips, hover, decide_true, if_true]

/-- Settles O22: the TRIP record, the loss of the ask and the end of the queue, and then the fault. -/
theorem aTripFaultsTheBay : Obligations.ATripFaultsTheBay := by
  intro s b m milliamps hnone h hm hover
  have exchange := h.exchangeAt b
  have hcomparator : (s.bay b).supply.comparator = .watching m.threshold := by
    rw [(h.bay b).supply.comparator, hm]
    rfl
  have hexec : exec (.trip b milliamps) s = .next (s.takeTrip b m) := by
    rw [← eventTrip_of_trips hm hcomparator (by rwa [OnMode.threshold_eq])]
    exact State.next_before_of_none hnone _ (eventTrip b milliamps)
  obtain ⟨r, w, e⟩ := s.takeTrip_bay b m
  rw [(h.bay b).link_disabled] at e
  have ended := State.takeTrip_ends exchange m
  have ring := ended.ring exchange.ask
  refine ⟨_, hexec, ?state, ?supply, ?link, ?tunnels, ?nextTag, ?rates, ?queue, ended.window, ?seat, ?identity, ring.1,
    ring.2, fun hs hq => ended.cells hs (.inr hq), ended.records, ended.tie, ended.slots, s.takeTrip_raisedFrom b m⟩
  all_goals rw [e]
  case nextTag => rfl
  case link => exact ⟨rfl, rfl, rfl, rfl, rfl, rfl, rfl, rfl⟩
  case tunnels | identity => exact ⟨rfl, rfl⟩
  case rates | seat => exact ⟨rfl, rfl, rfl, rfl⟩

/-! ### Sag (R49, R50) -/

theorem State.takeSag_ends (h : s.ExchangeAt b) (mode : OnMode) :
    s.EndsExchange (s.takeSag b mode) b [(.supply, [2, mode.code])] none := by
  have counted : s.Prepares (s.modBay b (fun x => x.modSupply (fun p =>
      { p with detector := .low, sags := satInc p.sags }))) b [] :=
    (State.Prepares.refl s b).modBay (fun _ => rfl) (fun _ => rfl) (fun _ => rfl) (fun _ => rfl)
  have before := (counted.writeRecord .supply (supplyFields_length .sag mode)).modBay (f := fun x => x.modLink Link.cut)
    (fun _ => rfl) (fun _ => rfl) (fun _ => rfl) (fun _ => rfl)
  exact (before.loseAsk h).startWake

theorem eventSag_of_clear {m : OnMode} (hm : (s.bay b).supply.mode = .on m)
    (hclear : (s.bay b).supply.detector = .clear) : eventSag b s = s.takeSag b m := by
  unfold eventSag
  simp only [hm, hclear, if_true]

theorem eventSag_of_not_clear (hclear : (s.bay b).supply.detector ≠ .clear) : eventSag b s = s := by
  unfold eventSag
  simp only [hclear, if_false]
  split <;> rfl

/-- Settles O23: by the detector; under a CLEAR one the SAG record, the loss of the ask and the wake. -/
theorem aSagWakesTheBayAgain : Obligations.ASagWakesTheBayAgain := by
  intro s b hnone
  have hexec : exec (.sag b) s = .next (eventSag b s) := State.next_before_of_none hnone _ (eventSag b)
  refine ⟨fun hlow => ?_, fun hclear => ?_, fun m h hm hclear => ?_⟩
  · have hrise : exec (.railRiseClear b) s = .next (eventRailRiseClear b s) :=
      State.next_before_of_none hnone _ (eventRailRiseClear b)
    rw [hrise, eventRailRiseClear, if_pos hlow]
    rfl
  · rw [hexec, eventSag_of_not_clear hclear]
  · have exchange := h.exchangeAt b
    rw [eventSag_of_clear hm hclear] at hexec
    obtain ⟨r, w, e⟩ := s.takeSag_bay b m
    rw [Link.endAsk_ite_of_quiet (l := (s.bay b).link.cut) (h.bay b).quiet] at e
    have ended := State.takeSag_ends exchange m
    have ring := ended.ring exchange.ask
    refine ⟨_, hexec, ?state, ?supply, ?receiver, ?gap, ?transmitter, ?frameOut, ?quiet, ?wakeTimer, ?tunnels, ?nextTag,
      ?rates, ?queue, ended.window, ?seat, ?identity, ring.1, ring.2, fun hs => ended.cells hs (.inl rfl), ?records,
      ended.tie, ended.slots⟩
    case records => simpa [State.queuedRecords] using ended.records
    all_goals rw [e]
    case wakeTimer | receiver | gap | transmitter | frameOut | nextTag => rfl
    case quiet => exact ⟨rfl, rfl, rfl⟩
    case tunnels | identity => exact ⟨rfl, rfl⟩
    case rates | seat => exact ⟨rfl, rfl, rfl, rfl⟩

end Sys2Proof.Machine
end

section
/-! PROOFS. CYCLE_BAY and the end of the off-time (R8, R42, R52 to R54, R56). -/

namespace Sys2Proof.Machine

variable {s : State} {b : BayNo} {bay : Byte} {offMs : BitVec 16} {restore : Option Byte}

/-! ### CYCLE_BAY (R52, R53) -/

theorem restoreChoice_of_mem (h : restore ∈ [none, some 1, some 2]) : ∃ choice, restoreChoice restore = some choice ∧
    ∀ m, choice.getD m = if restore = some 1 then .limited else if restore = some 2 then .full else m := by
  simp only [List.mem_cons, List.not_mem_nil, or_false] at h
  rcases h with rfl | rfl | rfl
  exacts [⟨none, rfl, fun _ => rfl⟩, ⟨some .limited, rfl, fun _ => rfl⟩, ⟨some .full, rfl, fun _ => rfl⟩]

theorem restoreChoice_bad {code : Byte} (hlimited : code ≠ 1) (hfull : code ≠ 2) : restoreChoice (some code) = none := by
  simp only [restoreChoice, restoreModeOf, hlimited, hfull, if_false, Option.map_none]

theorem requestCycleBay_bad (h : bayOf bay = none ∨ restoreChoice restore = none) :
    requestCycleBay bay offMs restore s = s.answer (.cycleBay bay offMs restore) .badParam [] := by
  unfold requestCycleBay
  split
  · rename_i hb hr
    simp [hb, hr] at h
  · rfl

variable {choice : Option OnMode}

theorem requestCycleBay_busy (hb : bayOf bay = some b) (hr : restoreChoice restore = some choice)
    (hs : (s.bay b).state = .cycling) :
    requestCycleBay bay offMs restore s = s.answer (.cycleBay bay offMs restore) .busy [] := by
  unfold requestCycleBay
  simp only [hb, hr, hs]

theorem requestCycleBay_refused (hb : bayOf bay = some b) (hr : restoreChoice restore = some choice)
    (hs : (s.bay b).state ∈ [.vacant, .unpowered, .benched, .faulted]) :
    requestCycleBay bay offMs restore s = s.answer (.cycleBay bay offMs restore) .wrongState [] := by
  simp only [List.mem_cons, List.not_mem_nil, or_false] at hs
  unfold requestCycleBay
  rcases hs with hs | hs | hs | hs <;> simp only [hb, hr, hs]

theorem requestCycleBay_cycles {m : OnMode} (hb : bayOf bay = some b) (hr : restoreChoice restore = some choice)
    (hs : (s.bay b).state ∈ [.waking, .ready, .asking, .dark]) (hm : (s.bay b).supply.mode = .on m) :
    requestCycleBay bay offMs restore s =
      (s.cycle b (offTimeInEffect offMs) (choice.getD m) m).answer (.cycleBay bay offMs restore) .ok
        (leBytes 2 (offTimeInEffect offMs) ++ [(choice.getD m).code]) := by
  simp only [List.mem_cons, List.not_mem_nil, or_false] at hs
  unfold requestCycleBay
  rcases hs with hs | hs | hs | hs <;> simp only [hb, hr, hs, hm]

theorem State.cycle_ends (h : s.ExchangeAt b) (off : Nat) (saved mode : OnMode) :
    s.EndsExchange (s.cycle b off saved mode) b [(.supply, [3, mode.code])] none := by
  have switched : s.Prepares (s.modBay b (fun x => x.switchOff.modSupply (fun p =>
      { p with saved := saved, cycleTimer := some (expiryAfter s.clock (off * 1000)) }))) b [] :=
    (State.Prepares.refl s b).modBay (fun _ => rfl) (fun _ => rfl) (fun _ => rfl) (fun _ => rfl)
  have before := (switched.writeRecord .supply (supplyFields_length .cycleOff mode)).modBay (f := Bay.stopWake)
    (fun _ => rfl) (fun _ => rfl) (fun _ => rfl) fun _ => rfl
  exact (before.loseAsk h).modBay (f := fun x => { x with state := .cycling }) (fun _ => rfl) fun _ => rfl

/-- Settles O20, by the operands and the state of the bay. -/
theorem cycleBayBeginsAPowerCycle : Obligations.CycleBayBeginsAPowerCycle := by
  intro s bay offMs restore hclear
  have hexec : exec (.cycleBay bay offMs restore) s = .next (requestCycleBay bay offMs restore s) :=
    State.next_serve_of_clear hclear (.cycleBay bay offMs restore) (requestCycleBay bay offMs restore)
  refine ⟨fun hbad => ⟨_, hexec, ?_⟩, fun b hb hr hs => ⟨_, hexec, ?_⟩, fun b hb hr hs => ⟨_, hexec, ?_⟩,
    fun b m h hb hr hs hm => ?_⟩
  · have hnone : bayOf bay = none ∨ restoreChoice restore = none := by
      rcases hbad with hbay | ⟨code, rfl, hlimited, hfull⟩
      exacts [.inl (bayOf_eq_none.2 hbay), .inr (restoreChoice_bad hlimited hfull)]
    rw [requestCycleBay_bad hnone]
    exact s.answer_repliedAs ..
  · obtain ⟨choice, hchoice, _⟩ := restoreChoice_of_mem hr
    rw [requestCycleBay_busy hb hchoice hs]
    exact s.answer_repliedAs ..
  · obtain ⟨choice, hchoice, _⟩ := restoreChoice_of_mem hr
    rw [requestCycleBay_refused hb hchoice hs]
    exact s.answer_repliedAs ..
  · obtain ⟨choice, hchoice, hsaved⟩ := restoreChoice_of_mem hr
    have exchange := h.exchangeAt b
    rw [requestCycleBay_cycles hb hchoice hs hm, hsaved] at hexec
    intro off saved
    change exec _ s = .next ((s.cycle b off saved m).answer _ .ok (leBytes 2 off ++ [saved.code])) at hexec
    obtain ⟨r, w, e⟩ := s.cycle_bay b off saved m
    rw [(h.bay b).link_disabled] at e
    have ended := (State.cycle_ends exchange off saved m).answer (.cycleBay bay offMs restore) .ok
      (leBytes 2 off ++ [saved.code])
    have ring := ended.ring exchange.ask
    refine ⟨_, hexec, State.answer_repliesWith .., ?state, ?supply, ?link, ?tunnels, ?nextTag, ?rates, ?queue,
      ended.window, ?seat, ?identity, ring.1, ring.2, fun hs => ended.cells hs (.inl rfl), ?records, ended.tie,
      ended.slots⟩
    case records => simpa [State.queuedRecords] using ended.records
    all_goals rw [State.answer_bay, e]
    case link => exact ⟨rfl, rfl, rfl, rfl, rfl, rfl, rfl, rfl⟩
    case supply | nextTag => rfl
    case tunnels | identity => exact ⟨rfl, rfl⟩
    case rates | seat => exact ⟨rfl, rfl, rfl, rfl⟩

/-! ### The end of the off-time (R54) -/

/-- The notices after a record: the RING_FULL place of its bay alone, which rises at the first loss (R134, R142). -/
theorem State.writeRecord_ringFull (s : State) (b : BayNo) (kind : RecordKind) (own : List Byte) :
    let place := (s.writeRecord b kind own).notices.ringFull.get b
    (s.writeRecord b kind own).notices = { s.notices with ringFull := s.notices.ringFull.set b place } ∧
    place = if (s.bay b).ring.loses && (s.bay b).ring.lossless then (s.notices.ringFull.get b).rise
      else s.notices.ringFull.get b := by
  have hself : s.notices.ringFull.set b (s.notices.ringFull.get b) = s.notices.ringFull := by
    simp [Vector.get_eq_getElem]
  rw [State.writeRecord_notices]
  split <;> simp [State.ringFullRises, vector_get_set, hself]

/-- The supply of the bay on again in the saved mode, before the CYCLE_ON record (R54, step 1). -/
def State.switchedBack (s : State) (b : BayNo) : State :=
  s.modBay b (fun x => (x.modSupply (fun p => { p with cycleTimer := none })).switchOn x.supply.saved)

theorem State.switchedBack_bay (s : State) (b : BayNo) : (s.switchedBack b).bay b = { s.bay b with
    supply := { (s.bay b).supply with
      mode := .on (s.bay b).supply.saved, cycleTimer := none, detector := .low
      comparator := .watching (s.bay b).supply.saved.threshold }
    link := (s.bay b).link.enable } := by
  rw [State.switchedBack, State.bay_modBay, if_pos rfl]
  rfl

theorem eventCycleTimerExpiry_wakes (hs : (s.bay b).state = .cycling)
    (hran : ranOut (s.bay b).supply.cycleTimer s.clock) : eventCycleTimerExpiry b s =
      ((s.switchedBack b).writeRecord b .supply [4, (s.bay b).supply.saved.code]).startWake b := by
  rw [eventCycleTimerExpiry_of_cycling hs hran, State.restoreSupply, State.modBay_modBay, State.bay_modBay, if_pos rfl]
  rfl

/-- A record and a wake reach the bays, the bytes and the notices alone. -/
theorem State.writeRecord_startWake_eq (s : State) (b : BayNo) (kind : RecordKind) (own : List Byte) :
    let t := (s.writeRecord b kind own).startWake b
    t = { s with bays := t.bays, cells := t.cells, notices := t.notices } := by
  obtain ⟨cells, notices, e⟩ : ∃ cells notices, s.writeRecord b kind own =
      { s.modBay b (fun x => { x with ring := x.ring.afterWrite }) with cells := cells, notices := notices } :=
    ⟨_, _, s.writeRecord_eq b kind own⟩
  rw [e]
  rfl

/-- Settles O21: the supply goes on, the CYCLE_ON record is handed over, and the bay wakes. -/
theorem theEndOfACycleWakesTheBay : Obligations.TheEndOfACycleWakesTheBay := by
  intro s b expiry hnone hs htimer hreached
  have hran : ranOut (s.bay b).supply.cycleTimer s.clock := by rw [htimer]; exact hreached
  have hexec : exec (.cycleTimerExpiry b) s = .next (eventCycleTimerExpiry b s) :=
    State.next_before_of_none hnone _ (eventCycleTimerExpiry b)
  rw [eventCycleTimerExpiry_wakes hs hran] at hexec
  have hbay := s.switchedBack_bay b
  obtain ⟨hnotices, hplace⟩ := (s.switchedBack b).writeRecord_ringFull b .supply [4, (s.bay b).supply.saved.code]
  rw [hbay] at hplace
  refine ⟨_, hexec, (s.switchedBack b).writeRecord_startWake_eq b _ _, ?bay, ?cells, fun d hd => ?others, hnotices,
    hplace⟩
  case bay =>
    rw [State.startWake_bay, if_pos rfl, State.writeRecord_bay, if_pos rfl, hbay, ← OnMode.threshold_eq,
      State.writeRecord_clock, State.writeRecord_wakeTimeout]
    rfl
  case cells =>
    rw [State.startWake_cells, State.writeRecord_cells, hbay]
    rfl
  case others => simp [State.switchedBack, Ne.symm hd]

end Sys2Proof.Machine
end

section
/-! SUPPORT. Gathers move only forward: what each shared operation makes of the gather table, of the GATHER_DONE places and of
the profiles, as one relation between a state and a later one (R58, R59, R62, R80, R90, R109, R110). -/

namespace Sys2Proof.Machine

/-! ### One gather, some events later -/

/-- What events make of a gather: an OPEN one keeps its terms and its FINAL slots and stays OPEN or completes at this
clock; any other is as it was. -/
structure Gather.Advances (clock : Time) (g k : Gather) : Prop where
  terms : k.termsKept g
  closed : g.state ≠ .opened → k = g
  final : ∀ b, (g.slot b).stage = .final → k.slot b = g.slot b
  opened : g.state = .opened → k.state = .opened ∨ k.state = .done ∧ k.lastFinal = some clock

theorem Gather.Advances.refl (clock : Time) (g : Gather) : g.Advances clock g :=
  ⟨g.termsKept_refl, fun _ => rfl, fun _ _ => rfl, .inl⟩

theorem Gather.Advances.trans {clock : Time} {g k l : Gather} (h : g.Advances clock k) (h' : k.Advances clock l) :
    g.Advances clock l where
  terms := h.terms.trans h'.terms
  closed ho := by
    obtain rfl := h.closed ho
    exact h'.closed ho
  final b hb := (h'.final b (by rw [h.final b hb]; exact hb)).trans (h.final b hb)
  opened ho := by
    rcases h.opened ho with hk | ⟨hk, hlast⟩
    · exact h'.opened hk
    · obtain rfl := h'.closed (by simp [hk])
      exact .inr ⟨hk, hlast⟩

/-- Changes of an OPEN gather that leave its state, its terms and its FINAL slots alone. -/
theorem Gather.Advances.of_opened {clock : Time} {g k : Gather} (ho : g.state = .opened) (hterms : k.termsKept g)
    (hstate : k.state = g.state) (hfinal : ∀ b, (g.slot b).stage = .final → k.slot b = g.slot b) :
    g.Advances clock k :=
  ⟨hterms, absurd ho, hfinal, fun _ => .inl (hstate.trans ho)⟩

/-- The completion of an open slot, and of the gather when that was the last one (R73, R76, R80). -/
theorem Gather.closedAt_finalise_advances {g : Gather} {b : BayNo} (clock : Time) (h : g.consistent)
    (hopen : (g.slot b).endable) (x : Slot) (e : Ending) : g.Advances clock ((g.finalise b x e).closedAt clock) := by
  have ho := Gather.opened_of_endable h hopen
  have hfinal : ∀ c, (g.slot c).stage = .final → (g.finalise b x e).slot c = g.slot c := fun c hc => by
    rw [Gather.finalise_slot, if_neg]
    rintro rfl
    rcases (g.slot b).endable_iff.1 hopen with hs | hs <;> simp [hs] at hc
  unfold Gather.closedAt
  split
  · exact .of_opened ho (g.finalise_termsKept b x e) rfl hfinal
  · exact ⟨g.finalise_termsKept b x e, absurd ho, hfinal, fun _ => .inr ⟨rfl, rfl⟩⟩

theorem Gather.extremesKept_refl (g : Gather) : g.extremesKept g := ⟨rfl, rfl⟩

theorem Gather.extremesKept.trans {g k l : Gather} (h : k.extremesKept g) (h' : l.extremesKept k) : l.extremesKept g :=
  ⟨h'.1.trans h.1, h'.2.trans h.2⟩

/-! ### The values a profile has evaluated -/

/-- The evaluated count and the extremes of a profile are as they were (R109). -/
def Profile.valuesKept (after before : Profile) : Prop :=
  after.evaluated = before.evaluated ∧ after.minimum = before.minimum ∧ after.maximum = before.maximum

theorem Profile.valuesKept_refl (p : Profile) : p.valuesKept p := ⟨rfl, rfl, rfl⟩

theorem Profile.valuesKept.trans {p q r : Profile} (h : q.valuesKept p) (h' : r.valuesKept q) : r.valuesKept p :=
  ⟨h'.1.trans h.1, h'.2.1.trans h.2.1, h'.2.2.trans h.2.2⟩

/-- Only a slot with a scaled value is counted and moves an extreme (R109). -/
theorem Profile.account_valuesKept (p : Profile) {x : Slot} (h : x.scaled = none) : (p.account x).valuesKept p := by
  unfold Profile.account
  rw [h]
  dsimp only
  split <;> exact ⟨rfl, rfl, rfl⟩

/-- Only an ANSWERED slot has a scaled value (R99). -/
theorem State.slotJudged_scaled (s : State) (b : BayNo) (i : GatherNo) {e : Ending} (a : Option Answer)
    (he : e ≠ .answered) : (s.slotJudged b i e a).scaled = none := by
  show (exactScaled _ _).map saturate32 = none
  unfold exactScaled
  split
  · simp_all
  · rfl

/-! ### The completion of a gather, in profiles and notices -/

variable (s : State)

theorem State.completeGatherIfFinal_profile (i : GatherNo) (p : ProfileNo) : (s.completeGatherIfFinal i).profile p =
    if (s.gather i).profile = p ∧ (s.gather i).hasOpenSlot = false
    then { s.profile p with inUse := (s.profile p).inUse - 1 } else s.profile p := by
  unfold State.completeGatherIfFinal State.completeGather
  cases hopen : (s.gather i).hasOpenSlot
  · by_cases hp : (s.gather i).profile = p <;> simp [hp]
  · simp

/-- A gather's GATHER_DONE place is raised when its class is enabled (R80, R162). -/
theorem State.raise_gatherDone (i j : GatherNo) : (s.raise (.gatherDone i)).notices.gatherDone.get j =
    (s.notices.gatherDone.get j || (s.classEnabled (.gatherDone j) && decide (i = j))) := by
  have hmask : s.classEnabled (.gatherDone i) = s.classEnabled (.gatherDone j) := rfl
  unfold State.raise
  rw [hmask]
  by_cases hij : i = j <;> cases hj : s.classEnabled (.gatherDone j) <;> simp [Notices.setEvent, vector_get_set, hij]

theorem State.completeGatherIfFinal_gatherDone (i j : GatherNo) :
    (s.completeGatherIfFinal i).notices.gatherDone.get j = (s.notices.gatherDone.get j ||
      (s.classEnabled (.gatherDone j) && decide (i = j ∧ (s.gather i).hasOpenSlot = false))) := by
  unfold State.completeGatherIfFinal
  cases hopen : (s.gather i).hasOpenSlot
  · simp only [Bool.false_eq_true, if_false, and_true]
    exact State.raise_gatherDone _ i j
  · simp

/-- An event notice of another class touches no place of a gather. -/
theorem Notices.setEvent_gatherDone (n : Notices) (v : Bool) {p : Place} (hp : ∀ i, p ≠ .gatherDone i) :
    (n.setEvent v p).gatherDone = n.gatherDone := by
  cases p
  case gatherDone i => exact absurd rfl (hp i)
  all_goals rfl

/-- A record touches no place of a gather. -/
@[simp] theorem State.writeRecord_gatherDone (b : BayNo) (kind : RecordKind) (own : List Byte) :
    (s.writeRecord b kind own).notices.gatherDone = s.notices.gatherDone := by
  rw [State.writeRecord_notices]
  split <;> rfl

theorem State.finishEvaluated_gatherDone (b : BayNo) (i j : GatherNo) (e : Ending) (a : Option Answer) :
    (s.finishEvaluated b i e a).notices.gatherDone.get j = (s.notices.gatherDone.get j ||
      (s.classEnabled (.gatherDone j) && decide (i = j ∧
        ((s.gather i).finalise b (s.slotJudged b i e a) e).hasOpenSlot = false))) := by
  have hmask : ∀ u : State, u.classMask = s.classMask → u.classEnabled (.gatherDone j) = s.classEnabled (.gatherDone j) :=
    fun u hu => by unfold State.classEnabled; rw [hu]
  simp only [State.finishEvaluated, State.completeGatherIfFinal_gatherDone, State.writeRecord_gatherDone,
    State.writeRecord_gather, State.gather_modGather, if_true]
  rw [hmask _ (by simp)]
  simp [State.finalSlot_eq_slotJudged]

/-- The profile of a completed slot accounts for it, and one OPEN gather less names it when the gather is complete (R73,
R80, R109). -/
theorem State.finishEvaluated_profile (b : BayNo) (i : GatherNo) (e : Ending) (a : Option Answer) (p : ProfileNo) :
    (s.finishEvaluated b i e a).profile p =
      if (s.gather i).profile = p then
        { (s.profile p).account (s.slotJudged b i e a) with
          inUse := if ((s.gather i).finalise b (s.slotJudged b i e a) e).hasOpenSlot then (s.profile p).inUse
            else (s.profile p).inUse - 1 }
      else s.profile p := by
  have hterms : ((s.gather i).finalise b (s.slotJudged b i e a) e).profile = (s.gather i).profile := rfl
  have hinUse : ((s.profile p).account (s.slotJudged b i e a)).inUse = (s.profile p).inUse := by
    unfold Profile.account
    cases (s.slotJudged b i e a).scaled <;> dsimp only <;> split <;> rfl
  simp only [State.finishEvaluated, State.completeGatherIfFinal_profile, State.writeRecord_profile,
    State.writeRecord_gather, State.gather_modGather, if_true, State.modGather_profile, State.profile_modProfile,
    State.modProfile_gather, State.closeWindowFor_gather, State.finalSlot_eq_slotJudged, hterms]
  have hclose : ∀ q, (s.closeWindowFor i b).profile q = s.profile q := fun q => by
    rw [State.profile_eq_get, State.closeWindowFor_profiles]; rfl
  by_cases hp : (s.gather i).profile = p
  · subst hp
    cases ((s.gather i).finalise b (s.slotJudged b i e a) e).hasOpenSlot
    · simp [hclose, hinUse]
    · simp [hclose, ← hinUse]
  · simp [hp, hclose]

/-! ### A state, some events later -/

/-- From s to t gathers moved only forward: entries stayed consistent, each advanced and raised its notice when it
completed, and profiles kept their definitions. Unless an answer was accepted, no evaluated value was counted. -/
structure State.Forward (answered : Prop) (s t : State) : Prop where
  clock : t.clock = s.clock
  classMask : t.classMask = s.classMask
  gathers : t.gathersConsistent
  advances : ∀ i, (s.gather i).Advances s.clock (t.gather i)
  raised : ∀ i, t.notices.gatherDone.get i = (s.notices.gatherDone.get i ||
    (s.classEnabled (.gatherDone i) && decide ((s.gather i).state = .opened ∧ (t.gather i).state = .done)))
  definitions : ∀ p, (t.profile p).definitionKept (s.profile p)
  values : ¬answered → ∀ p, (t.profile p).valuesKept (s.profile p)
  extremes : ¬answered → ∀ i, (t.gather i).extremesKept (s.gather i)

theorem State.classEnabled_congr {s t : State} (h : t.classMask = s.classMask) (p : Place) :
    t.classEnabled p = s.classEnabled p := by
  unfold State.classEnabled
  rw [h]

namespace State.Forward

variable {answered : Prop} {s t u : State} {b : BayNo}

theorem refl (h : s.gathersConsistent) : s.Forward answered s :=
  ⟨rfl, rfl, h, fun _ => .refl _ _, fun i => by cases hs : (s.gather i).state <;> simp,
    fun _ => Profile.definitionKept_refl _, fun _ _ => Profile.valuesKept_refl _, fun _ i => (s.gather i).extremesKept_refl⟩

theorem trans (h : s.Forward answered t) (h' : t.Forward answered u) : s.Forward answered u where
  clock := h'.clock.trans h.clock
  classMask := h'.classMask.trans h.classMask
  gathers := h'.gathers
  advances i := (h.advances i).trans (h.clock ▸ h'.advances i)
  raised i := by
    rw [h'.raised i, h.raised i, State.classEnabled_congr h.classMask, Bool.or_assoc, ← Bool.and_or_distrib_left]
    congr 2
    cases hs : (s.gather i).state
    case opened =>
      rcases (h.advances i).opened hs with ht | ⟨ht, _⟩
      · simp [ht]
      · rw [(h'.advances i).closed (by simp [ht]), ht]; simp
    all_goals
      have ht := (h.advances i).closed (by simp [hs])
      simp [ht, hs]
  definitions p := (h.definitions p).trans (h'.definitions p)
  values ha p := (h.values ha p).trans (h'.values ha p)
  extremes ha i := (h.extremes ha i).trans (h'.extremes ha i)

/-- A change that reaches neither clock, class mask, gathers, profiles nor the places of gathers. -/
theorem kept (h : s.Forward answered t) (hclock : u.clock = t.clock) (hmask : u.classMask = t.classMask)
    (hgathers : u.gathers = t.gathers) (hprofiles : u.profiles = t.profiles)
    (hdone : u.notices.gatherDone = t.notices.gatherDone) : s.Forward answered u := by
  have hgather : ∀ i, u.gather i = t.gather i := fun i => by rw [State.gather_eq_get, hgathers]; rfl
  have hprofile : ∀ p, u.profile p = t.profile p := fun p => by rw [State.profile_eq_get, hprofiles]; rfl
  refine ⟨hclock.trans h.clock, hmask.trans h.classMask, State.gathersConsistent_congr h.gathers hgathers,
    fun i => ?_, fun i => ?_, fun p => ?_, fun ha p => ?_, fun ha i => ?_⟩
  · rw [hgather]; exact h.advances i
  · rw [hgather, hdone]; exact h.raised i
  · rw [hprofile]; exact h.definitions p
  · rw [hprofile]; exact h.values ha p
  · rw [hgather]; exact h.extremes ha i

/-- A fold of forward steps. -/
theorem foldl {α : Type} {f : State → α → State}
    (hf : ∀ (t : State) a, t.gathersConsistent → t.Forward answered (f t a)) :
    ∀ (l : List α) {t : State}, s.Forward answered t → s.Forward answered (l.foldl f t)
  | [], _, h => h
  | a :: l, t, h => foldl hf l (h.trans (hf t a h.gathers))

/-- A change of one entry that advances it and completes nothing. -/
theorem modGather {i : GatherNo} {f : Gather → Gather} (h : s.Forward answered t)
    (hcons : (f (t.gather i)).consistent ∧ (f (t.gather i)).summaryConsistent)
    (hadv : (t.gather i).Advances t.clock (f (t.gather i))) (hstate : (f (t.gather i)).state = (t.gather i).state)
    (hext : (f (t.gather i)).extremesKept (t.gather i)) : s.Forward answered (t.modGather i f) := by
  have hgather : ∀ j, (t.modGather i f).gather j = if i = j then f (t.gather i) else t.gather j :=
    fun j => t.gather_modGather i j f
  refine h.trans ⟨rfl, rfl, State.gathersConsistent_of_entry (i := i) h.gathers (fun j hj => by simp [Ne.symm hj])
    (by simpa using hcons), fun j => ?_, fun j => ?_, fun _ => Profile.definitionKept_refl _,
    fun _ _ => Profile.valuesKept_refl _, fun _ j => ?_⟩ <;> rw [hgather] <;> split
  · rename_i hj; subst hj; exact hadv
  · exact .refl _ _
  · rename_i hj
    subst hj
    rw [hstate]
    cases (t.gather i).state <;> simp
  · cases (t.gather j).state <;> simp
  · rename_i hj; subst hj; exact hext
  · exact Gather.extremesKept_refl _

theorem modBay {f : Bay → Bay} (h : s.Forward answered t) : s.Forward answered (t.modBay b f) := h.kept rfl rfl rfl rfl rfl

theorem answer {c : Instr} {status : Status} {body : List Byte} (h : s.Forward answered t) :
    s.Forward answered (t.answer c status body) := h.kept (by simp) (by simp) (by simp) (by simp) (by simp)

theorem raise {p : Place} (h : s.Forward answered t) (hp : ∀ i, p ≠ .gatherDone i) : s.Forward answered (t.raise p) := by
  refine h.kept (by simp) (by simp) (by simp) (by simp) ?_
  unfold State.raise
  split
  · exact Notices.setEvent_gatherDone _ true hp
  · rfl

theorem clearNotice {p : Place} (h : s.Forward answered t) (hp : ∀ i, p ≠ .gatherDone i) :
    s.Forward answered (t.clearNotice p) := h.kept rfl rfl rfl rfl (Notices.setEvent_gatherDone _ false hp)

theorem writeRecord {kind : RecordKind} {own : List Byte} (h : s.Forward answered t) :
    s.Forward answered (t.writeRecord b kind own) := h.kept (by simp) (by simp) (by simp) (by simp) (by simp)

theorem beginFrame (h : s.Forward answered t) : s.Forward answered (t.beginFrame b) :=
  h.kept (by simp) (by simp) (by simp) (by simp) (by simp)

theorem startWake (h : s.Forward answered t) : s.Forward answered (t.startWake b) := h.kept rfl rfl rfl rfl rfl

theorem openWindow (h : s.Forward answered t) : s.Forward answered (t.openWindow b) :=
  h.kept (by simp) (by simp) (by simp) (by simp) (by simp)

theorem emptyTunnels (h : s.Forward answered t) : s.Forward answered (t.emptyTunnels b) := h.kept rfl rfl rfl rfl rfl

/-- A slot made final, and its gather completed when that was the last open one (R73, R76, R80). -/
theorem finalised {i : GatherNo} {x : Slot} {e : Ending} (h : s.Forward answered t)
    (hopen : ((t.gather i).slot b).endable) (hclock : u.clock = t.clock) (hmask : u.classMask = t.classMask)
    (hcons : u.gathersConsistent)
    (hgather : ∀ j, u.gather j = if i = j then ((t.gather i).finalise b x e).closedAt t.clock else t.gather j)
    (hdone : ∀ j, u.notices.gatherDone.get j = (t.notices.gatherDone.get j ||
      (t.classEnabled (.gatherDone j) && decide (i = j ∧ ((t.gather i).finalise b x e).hasOpenSlot = false))))
    (hdefinitions : ∀ p, (u.profile p).definitionKept (t.profile p))
    (hvalues : ¬answered → ∀ p, (u.profile p).valuesKept (t.profile p)) (hscaled : ¬answered → x.scaled = none) :
    s.Forward answered u := by
  have ho := Gather.opened_of_endable (h.gathers i).1 hopen
  refine h.trans ⟨hclock, hmask, hcons, fun j => ?_, fun j => ?_, hdefinitions, hvalues, fun hn j => ?_⟩
  · rw [hgather]
    split
    · rename_i hj; subst hj; exact Gather.closedAt_finalise_advances _ (h.gathers i).1 hopen x e
    · exact .refl _ _
  · rw [hdone, hgather]
    congr 2
    by_cases hj : i = j
    · subst hj
      have hstate : ((t.gather i).finalise b x e).state = .opened := ho
      unfold Gather.closedAt
      cases ((t.gather i).finalise b x e).hasOpenSlot <;> simp [ho, hstate]
    · cases hst : (t.gather j).state <;> simp [hj, hst]
  · rw [hgather]
    split
    · rename_i hj
      subst hj
      exact ((t.gather i).finalise_extremesKept b (hscaled hn) e).trans (Gather.closedAt_extremesKept _ _)
    · exact Gather.extremesKept_refl _

/-- An evaluated completion; only an answer counts a value (R73, R80, R109, R110). -/
theorem completeEvaluated {i : GatherNo} {e : Ending} {a : Option Answer} (h : s.Forward answered t) (he : e.evaluated)
    (ha : payloadFits a) (hanswer : e = .answered → answered) : s.Forward answered (t.completeEvaluated b i e a) := by
  have ends := t.completeEvaluated_ends b i a he ha
  by_cases hopen : ((t.gather i).slot b).endable
  · have heq : t.completeEvaluated b i e a = t.finishEvaluated b i e a := if_pos hopen
    have hscaled : ¬answered → (t.slotJudged b i e a).scaled = none := fun hn =>
      t.slotJudged_scaled b i a fun h => hn (hanswer h)
    refine h.finalised (e := e) hopen (by simp) (by simp) (ends.gathers h.gathers) (fun j => ?_) (fun j => ?_)
      ends.same.definitions (fun hn p => ?_) hscaled <;> rw [heq]
    · rw [State.finishEvaluated_gather, State.finalSlot_eq_slotJudged]
    · exact t.finishEvaluated_gatherDone b i j e a
    · rw [State.finishEvaluated_profile]
      split
      · exact (t.profile p).account_valuesKept (hscaled hn)
      · exact Profile.valuesKept_refl _
  · have heq : t.completeEvaluated b i e a = t := if_neg hopen
    rw [heq]
    exact h

/-- A completion without evaluation (R76, R80). -/
theorem completeUnevaluated {i : GatherNo} {e : Ending} (h : s.Forward answered t) (he : e.evaluated = false) :
    s.Forward answered (t.completeUnevaluated b i e) := by
  have ends := t.completeUnevaluated_ends b i he
  by_cases hopen : ((t.gather i).slot b).endable
  · have heq : t.completeUnevaluated b i e = t.finishUnevaluated b i e := if_pos hopen
    obtain ⟨_, hslots, _⟩ := (t.gather i).consistent_iff.1 (h.gathers i).1
    obtain ⟨_, _, hscaled⟩ := Slot.ending_of_endable (hslots b).2 hopen
    refine h.finalised (e := e) (x := { (t.gather i).slot b with
        stage := .final, ending := some e, verdict := .none, indicators := 0 })
      hopen (by simp) (by simp) (ends.gathers h.gathers) (fun j => ?_) (fun j => ?_) ends.same.definitions
      (fun _ p => ?_) (fun _ => hscaled)
    · rw [heq, State.finishUnevaluated_gather]
    · rw [heq]
      refine (State.completeGatherIfFinal_gatherDone _ i j).trans ?_
      rw [State.gather_modGather, if_pos rfl]
      rfl
    · obtain ⟨hevaluated, hminimum, hmaximum, _⟩ := t.completeUnevaluated_statsKept b i e p
      exact ⟨hevaluated, hminimum, hmaximum⟩
  · have heq : t.completeUnevaluated b i e = t := if_neg hopen
    rw [heq]
    exact h

theorem unreachQueue (h : s.Forward answered t) : s.Forward answered (t.unreachQueue b) :=
  foldl (fun _ _ ht => (refl ht).completeEvaluated rfl payloadFits_none nofun) _ h.modBay

theorem dropQueue {e : Ending} (h : s.Forward answered t) (he : e.evaluated = false) :
    s.Forward answered (t.dropQueue b e) := foldl (fun _ _ ht => (refl ht).completeUnevaluated he) _ h.modBay

theorem loseAsk (h : s.Forward answered t) : s.Forward answered (t.loseAsk b) := by
  unfold State.loseAsk
  split
  · dsimp only
    split
    · exact h.modBay
    · exact h.modBay.completeEvaluated rfl payloadFits_none nofun
  · exact h

theorem followAsk {i : GatherNo} (h : s.Forward answered t) : s.Forward answered (t.followAsk b i) := by
  unfold State.followAsk
  dsimp only
  split
  · exact h.modBay.dropQueue rfl
  · split
    · exact h.startWake
    · exact h.modBay

theorem endAsk {e : Ending} {a : Option Answer} (h : s.Forward answered t) (he : e.evaluated) (ha : payloadFits a)
    (hanswer : e = .answered → answered) : s.Forward answered (t.endAsk b e a) := by
  unfold State.endAsk
  dsimp only
  split
  · exact h.modBay.modBay
  · exact (h.modBay.completeEvaluated he ha hanswer).followAsk

end State.Forward

end Sys2Proof.Machine
end

section
/-! SUPPORT. Every command at one bay, and every other that arms, frees and redefines nothing, moves gathers only forward (R58
to R62, R80, R90). -/

namespace Sys2Proof.Machine

section
variable {s : State} {answered : Prop} (hs : s.gathersConsistent) (b : BayNo)
include hs

/-! ### Bays (chapter 1) -/

theorem eventPresenceContactChange_forward (closed : Bool) :
    s.Forward answered (eventPresenceContactChange b closed s) := by
  unfold eventPresenceContactChange
  split
  · exact .refl hs
  · exact .modBay (.refl hs)

theorem State.arrive_forward : s.Forward answered (s.arrive b) := .raise (.modBay (.refl hs)) nofun

theorem State.remove_forward : s.Forward answered (s.remove b) :=
  .raise (.modBay (.emptyTunnels (.unreachQueue (.loseAsk (.modBay (.refl hs)))))) nofun

theorem eventDebounceExpiry_forward : s.Forward answered (eventDebounceExpiry b s) := by
  have stopped : s.Forward answered (s.modBay b (fun x => { x with debounce := none })) := .modBay (.refl hs)
  unfold eventDebounceExpiry
  dsimp only
  split
  · split
    · exact stopped
    · split
      · exact stopped.trans (State.arrive_forward stopped.gathers b)
      · exact stopped.trans (State.remove_forward stopped.gathers b)
  · exact .refl hs

theorem State.signOn_forward (a : SignOn) : s.Forward answered (s.signOn b a) :=
  .beginFrame (.raise (.writeRecord (.modBay (.loseAsk (.refl hs)))) nofun)

theorem eventSignOnAccepted_forward (frame : BayFrame) : s.Forward answered (eventSignOnAccepted b frame s) := by
  unfold eventSignOnAccepted
  split
  · split
    · exact .refl hs
    · have hunting : s.Forward answered (s.huntAgain b) := .modBay (.refl hs)
      exact hunting.trans (State.signOn_forward hunting.gathers b _)
  · exact .refl hs

theorem eventWakeTimerExpiry_forward : s.Forward answered (eventWakeTimerExpiry b s) := by
  have stopped : s.Forward answered (s.modBay b Bay.stopWake) := .modBay (.refl hs)
  unfold eventWakeTimerExpiry
  dsimp only
  split
  · split
    · exact .raise (.unreachQueue (.modBay stopped)) nofun
    · exact stopped
  · exact .refl hs

theorem State.resetBay_forward : s.Forward answered (s.resetBay b) := by
  unfold State.resetBay
  exact .modBay (.clearNotice (.clearNotice (.clearNotice (.clearNotice (.modBay (.emptyTunnels (.dropQueue (.loseAsk
    (.modBay (.refl hs))) rfl))) nofun) nofun) nofun) nofun)

theorem requestReleaseBay_forward (bay : Byte) : s.Forward answered (requestReleaseBay bay s) := by
  unfold requestReleaseBay
  split
  · exact .answer (.refl hs)
  · split
    · exact .answer (.beginFrame (.modBay (.refl hs)))
    · exact .answer (.startWake (.refl hs))
    · exact .answer (.modBay (.refl hs))
    all_goals exact .answer (.refl hs)

theorem requestResetBay_forward (bay : Byte) : s.Forward answered (requestResetBay bay s) := by
  unfold requestResetBay
  split
  · exact .answer (.refl hs)
  · exact .answer (State.resetBay_forward hs _)

theorem requestBayStatus_forward (bay : Byte) : s.Forward answered (requestBayStatus bay s) := by
  unfold requestBayStatus
  split <;> exact .answer (.refl hs)

/-! ### Bay supply (chapter 3) -/

theorem State.supplyOff_forward : s.Forward answered (s.supplyOff b) := by
  unfold State.supplyOff
  exact .modBay (.unreachQueue (.loseAsk (.modBay (.refl hs))))

theorem State.setSupply_forward {mode : SupplyMode} {t : State} (h : s.setSupply b mode = some t) :
    s.Forward answered t := by
  unfold State.setSupply at h
  split at h <;> simp only [Option.some.injEq, reduceCtorEq] at h <;> subst h
  · exact .refl hs
  · exact .startWake (.modBay (.refl hs))
  · exact .unreachQueue (.modBay (.modBay (.refl hs)))
  · exact .modBay (.refl hs)
  · exact State.supplyOff_forward hs b
  · exact .modBay (.refl hs)

theorem requestSetSupply_forward (bay mode : Byte) : s.Forward answered (requestSetSupply bay mode s) := by
  unfold requestSetSupply
  split
  · split
    · exact .answer (.refl hs)
    · rename_i ht
      exact .answer (State.setSupply_forward hs _ ht)
  · exact .answer (.refl hs)

theorem eventTrip_forward (milliamps : Nat) : s.Forward answered (eventTrip b milliamps s) := by
  unfold eventTrip
  split
  · exact .refl hs
  · split
    · exact .raise (.modBay (.unreachQueue (.loseAsk (.modBay (.writeRecord (.modBay (.modBay (.refl hs)))))))) nofun
    · exact .refl hs

theorem eventSag_forward : s.Forward answered (eventSag b s) := by
  unfold eventSag
  split
  · exact .refl hs
  · split
    · exact .startWake (.loseAsk (.modBay (.writeRecord (.modBay (.refl hs)))))
    · exact .refl hs

theorem eventRailRiseClear_forward : s.Forward answered (eventRailRiseClear b s) := by
  unfold eventRailRiseClear
  split
  · exact .modBay (.refl hs)
  · exact .refl hs

theorem State.cycle_forward (off : Nat) (saved mode : OnMode) : s.Forward answered (s.cycle b off saved mode) := by
  unfold State.cycle
  exact .modBay (.loseAsk (.modBay (.writeRecord (.modBay (.refl hs)))))

theorem requestCycleBay_forward (bay : Byte) (offMs : BitVec 16) (restore : Option Byte) :
    s.Forward answered (requestCycleBay bay offMs restore s) := by
  unfold requestCycleBay
  split
  · split
    case h_1 => exact .answer (.refl hs)
    case h_6 => exact .answer (.refl hs)
    all_goals exact .answer (State.cycle_forward hs _ _ _ _)
  · exact .answer (.refl hs)

theorem eventCycleTimerExpiry_forward : s.Forward answered (eventCycleTimerExpiry b s) := by
  have stopped : s.Forward answered (s.modBay b (fun x => x.modSupply (fun p => { p with cycleTimer := none }))) :=
    .modBay (.refl hs)
  unfold eventCycleTimerExpiry
  dsimp only
  split
  · split
    · exact .startWake (.writeRecord (.modBay stopped))
    · exact stopped
  · exact .refl hs

/-! ### The bay link (chapter 2) -/

/-- An event that changes the link of its bay, or nothing. -/
theorem State.modLink_or_forward (p : Prop) [Decidable p] (f : Link → Link) :
    s.Forward answered (if p then s.modBay b (fun x => x.modLink f) else s) := by
  split
  · exact .modBay (.refl hs)
  · exact .refl hs

/-- Only an answer that is credited counts a value (R31, R32, R99). -/
theorem eventAnswerAccepted_forward (frame : BayFrame) (ha : answered) :
    s.Forward answered (eventAnswerAccepted b frame s) := by
  unfold eventAnswerAccepted
  split
  · split
    · exact .refl hs
    · rename_i hread
      split
      · exact .endAsk (.modBay (.refl hs)) rfl (payloadFits_readAnswer hread) fun _ => ha
      · exact .modBay (.modBay (.refl hs))
  · exact .refl hs

theorem eventTunnelInAccepted_forward (frame : BayFrame) : s.Forward answered (eventTunnelInAccepted b frame s) := by
  have hunting : s.Forward answered (s.huntAgain b) := .modBay (.refl hs)
  unfold eventTunnelInAccepted State.tunnelArrives
  split
  · split
    · exact hunting.modBay.kept rfl rfl rfl rfl rfl
    · exact hunting.modBay
  · exact .refl hs

/-- A slot QUEUED for the bay becomes SENT (R70). -/
theorem State.dispatchHead_forward (i : GatherNo) (rest : List GatherNo) (hq : ((s.gather i).slot b).stage = .queued) :
    s.Forward answered (s.dispatchHead b i rest) := by
  have ho := Gather.opened_of_endable (hs i).1 ((Slot.endable_iff _).2 (.inl hq))
  have hfinal : ∀ c, ((s.gather i).slot c).stage = .final →
      ((s.gather i).sendSlot b (s.bay b).link.nextTag).slot c = (s.gather i).slot c := fun c hc => by
    refine ((s.gather i).slot_setSlot b c _).trans (if_neg ?_)
    rintro rfl
    simp [hq] at hc
  exact .beginFrame (.modBay (.modGather (.refl hs) (Gather.sendSlot_consistent _ (hs i) hq)
    (.of_opened ho (Gather.termsKept_refl _) rfl hfinal) rfl ⟨rfl, rfl⟩))

theorem eventDispatch_forward : s.Forward answered (eventDispatch b s) := by
  unfold eventDispatch
  split
  · split
    · exact .refl hs
    · split
      · rename_i hq
        exact State.dispatchHead_forward hs b _ _ hq
      · exact .modBay (.refl hs)
  · exact .refl hs

/-- The send time is reported to the slot that is SENT (R71). -/
theorem State.recordSend_forward (i : GatherNo) (hsent : ((s.gather i).slot b).stage = .sent) :
    s.Forward answered (s.recordSend b i) := by
  have ho := Gather.opened_of_endable (hs i).1 ((Slot.endable_iff _).2 (.inr hsent))
  have hfinal : ∀ c, ((s.gather i).slot c).stage = .final →
      ((s.gather i).sentAt b s.clock).slot c = (s.gather i).slot c := fun c hc => by
    refine ((s.gather i).sentAt_slot b c _).trans (if_neg ?_)
    rintro rfl
    simp [hsent] at hc
  have timed : s.Forward answered (s.modGather i (fun g => g.sentAt b s.clock)) := .modGather (.refl hs)
    (Gather.sendTime_consistent (hs i) rfl rfl rfl fun c => (s.gather i).sentAt_slot b c _)
    (.of_opened ho (Gather.termsKept_refl _) rfl hfinal) rfl ⟨rfl, rfl⟩
  rw [State.recordSend_eq]
  split
  · exact timed.openWindow
  · exact timed

theorem State.askLeft_forward : s.Forward answered (s.askLeft b) := by
  unfold State.askLeft
  split
  · exact .refl hs
  · rename_i i hi
    have timer : s.Forward answered (s.modBay b (fun x => x.modLink (fun l =>
      { l with answerTimer := some (expiryAfter s.clock ((s.gather i).timeoutMs.toNat * 1000)) }))) := .modBay (.refl hs)
    exact timer.trans (State.recordSend_forward timer.gathers b i (s.sentGather_some hi))

theorem eventAskSent_forward : s.Forward answered (eventAskSent b s) := by
  have left : s.Forward answered (s.modBay b (fun x => x.modLink Link.frameLeft)) := .modBay (.refl hs)
  unfold eventAskSent
  dsimp only
  split
  · split
    · exact .beginFrame (left.trans (State.askLeft_forward left.gathers b))
    · exact left.beginFrame
  · exact .refl hs

theorem eventTunnelOutSent_forward : s.Forward answered (eventTunnelOutSent b s) := by
  unfold eventTunnelOutSent
  split
  · exact .beginFrame (.modBay (.refl hs))
  · exact .refl hs

theorem eventAnswerTimerExpiry_forward : s.Forward answered (eventAnswerTimerExpiry b s) := by
  unfold eventAnswerTimerExpiry
  split
  · split
    · exact .endAsk (.refl hs) rfl payloadFits_none nofun
    · exact .modBay (.refl hs)
  · exact .refl hs

theorem requestSetLineRate_forward (bay rate : Byte) : s.Forward answered (requestSetLineRate bay rate s) := by
  unfold requestSetLineRate
  split
  · split
    · exact .answer (.modBay (.refl hs))
    · exact .answer (.refl hs)
  · exact .answer (.refl hs)

theorem requestPutTunnel_forward (bay : Byte) (block : List Byte) :
    s.Forward answered (requestPutTunnel bay block s) := by
  unfold requestPutTunnel
  split
  · exact .answer (.refl hs)
  · split
    · exact .answer (.refl hs)
    · split
      · exact .answer (.refl hs)
      · split
        · exact .answer (.refl hs)
        · exact .answer (.beginFrame (.modBay (.refl hs)))

theorem requestGetTunnel_forward (bay : Byte) : s.Forward answered (requestGetTunnel bay s) := by
  unfold requestGetTunnel
  split
  · exact .answer (.refl hs)
  · exact .answer ((State.Forward.refl hs).kept rfl rfl rfl rfl rfl)

theorem requestPeekTunnel_forward (bay : Byte) : s.Forward answered (requestPeekTunnel bay s) := by
  unfold requestPeekTunnel
  split <;> exact .answer (.refl hs)

/-! ### Gathers and profiles that are only read, and a gather cancelled (chapters 4 and 5) -/

theorem State.cancelSlot_forward (i : GatherNo) : s.Forward answered (s.cancelSlot i b) := by
  unfold State.cancelSlot
  split
  · exact .completeUnevaluated (.modBay (.refl hs)) rfl
  · exact .refl hs

theorem State.cancel_forward {i : GatherNo} (ho : (s.gather i).state = .opened) : s.Forward answered (s.cancel i) := by
  have flagged : s.Forward answered (s.modGather i (fun g => { g with cancelled := true })) := .modGather (.refl hs)
    (Gather.consistent_of_same rfl rfl rfl rfl (hs i)) (.of_opened ho (Gather.termsKept_refl _) rfl fun _ _ => rfl) rfl
    ⟨rfl, rfl⟩
  exact .foldl (fun t b ht => State.cancelSlot_forward ht b i) _ flagged

theorem requestCancelGather_forward (index : Byte) (serial : BitVec 16) :
    s.Forward answered (requestCancelGather index serial s) := by
  unfold requestCancelGather
  split
  · exact .answer (.refl hs)
  · dsimp only
    split
    · rename_i ho
      exact .answer (State.cancel_forward hs ho)
    · exact .answer (.refl hs)

theorem requestGatherStatus_forward (index : Byte) (serial : BitVec 16) :
    s.Forward answered (requestGatherStatus index serial s) := by
  unfold requestGatherStatus
  split <;> exact .answer (.refl hs)

theorem requestGatherSlot_forward (index : Byte) (serial : BitVec 16) (bay : Byte) :
    s.Forward answered (requestGatherSlot index serial bay s) := by
  unfold requestGatherSlot
  split
  · exact .answer (.refl hs)
  · split <;> exact .answer (.refl hs)

theorem requestReadProfile_forward (profile : Byte) : s.Forward answered (requestReadProfile profile s) := by
  unfold requestReadProfile
  split <;> exact .answer (.refl hs)

/-! ### Rings and calibration (chapters 6 and 7) -/

theorem requestSetRing_forward (bay : Byte) (base length : BitVec 16) (mode : Byte) :
    s.Forward answered (requestSetRing bay base length mode s) := by
  unfold requestSetRing
  split
  · exact .answer (.refl hs)
  · exact .answer (.modBay (.refl hs))

theorem requestReadResults_forward (bay max : Byte) : s.Forward answered (requestReadResults bay max s) := by
  unfold requestReadResults
  split
  · exact .answer (.refl hs)
  · exact .answer (.modBay (.refl hs))

theorem requestClearDrops_forward (bay : Byte) (drops overwrites : BitVec 16) :
    s.Forward answered (requestClearDrops bay drops overwrites s) := by
  unfold requestClearDrops State.clearLosses
  split
  · exact .answer (.refl hs)
  · dsimp only
    split
    · exact .answer ((State.Forward.refl hs).modBay.kept rfl rfl rfl rfl rfl)
    · exact .answer (.modBay (.refl hs))

theorem requestRingStatus_forward (bay : Byte) : s.Forward answered (requestRingStatus bay s) := by
  unfold requestRingStatus
  split <;> exact .answer (.refl hs)

theorem requestWriteCal_forward (bay : Byte) (gain offset : BitVec 16) :
    s.Forward answered (requestWriteCal bay gain offset s) := by
  unfold requestWriteCal
  split
  · exact .answer (.refl hs)
  · split
    · exact .answer (.refl hs)
    · exact .answer (.modBay (.refl hs))

theorem requestReadCal_forward (bay : Byte) : s.Forward answered (requestReadCal bay s) := by
  unfold requestReadCal
  split <;> exact .answer (.refl hs)

theorem requestUnlockCal_forward : s.Forward answered (requestUnlockCal s) := by
  unfold requestUnlockCal
  split
  · exact .answer ((State.Forward.refl hs).kept rfl rfl rfl rfl rfl)
  · exact .answer (.refl hs)

theorem eventConversionEnd_forward (code : BitVec 12) : s.Forward answered (eventConversionEnd code s) := by
  unfold eventConversionEnd
  split
  · exact .refl hs
  · split
    · refine (State.Forward.refl hs).kept ?_ ?_ ?_ ?_ ?_ <;> simp
    · exact .refl hs

/-! ### Run state and stop line (chapter 8) -/

theorem requestResume_forward : s.Forward answered (requestResume s) := by
  unfold requestResume
  split
  · exact .answer (.refl hs)
  · split
    · exact .answer (.refl hs)
    · exact .answer (.foldl (fun _ _ ht => .beginFrame (.refl ht)) _ ((State.Forward.refl hs).kept rfl rfl rfl rfl rfl))

theorem State.abortBay_forward : s.Forward answered (s.abortBay b) := by
  unfold State.abortBay
  split
  · exact .refl hs
  · exact .modBay (.dropQueue (.loseAsk (.modBay (.refl hs))) rfl)

/-- The abort flags the OPEN gathers and no other (R81). -/
theorem State.flagAborted_forward : s.Forward answered s.flagAborted := by
  refine ⟨rfl, rfl, fun i => ?_, fun i => ?_, fun i => ?_, fun _ => Profile.definitionKept_refl _,
    fun _ _ => Profile.valuesKept_refl _, fun _ i => ?_⟩ <;> rw [State.flagAborted_gather]
  · exact Gather.consistent_of_same rfl rfl rfl rfl (hs i)
  · refine ⟨Gather.termsKept_refl _, fun ho => ?_, fun _ _ => rfl, .inl⟩
    rw [beq_false_of_ne ho, Bool.or_false]
  · show s.notices.gatherDone.get i = _
    cases (s.gather i).state <;> simp
  · exact ⟨rfl, rfl⟩

theorem State.abort_forward : s.Forward answered s.abort := by
  have held : s.Forward answered { s with run := .held } := (State.Forward.refl hs).kept rfl rfl rfl rfl rfl
  exact .foldl (fun t b ht => State.abortBay_forward ht b) _ (held.trans (State.flagAborted_forward held.gathers))

theorem eventStopLineChange_forward (asserted : Bool) : s.Forward answered (eventStopLineChange asserted s) := by
  have raised : s.Forward answered (({ s with stopLine := asserted } : State).raise .stopLine) :=
    .raise ((State.Forward.refl hs).kept rfl rfl rfl rfl rfl) nofun
  unfold eventStopLineChange State.actOnStop
  split
  · exact .refl hs
  · dsimp only
    split
    · split
      · exact raised.kept rfl rfl rfl rfl rfl
      · exact raised.trans (State.abort_forward raised.gathers)
    · exact raised

/-! ### The station link (chapter 10) -/

/-- An event that reaches the port alone, or nothing. -/
theorem State.modPort_or_forward (p : Prop) [Decidable p] (f : Port → Port) :
    s.Forward answered (if p then s.modPort f else s) := by
  split
  · exact (State.Forward.refl hs).kept rfl rfl rfl rfl rfl
  · exact .refl hs

end

end Sys2Proof.Machine
end

section
/-! PROOFS. Every command moves gathers only forward: those that arm, free or redefine by what they leave of the entries in
use, all others by State.Forward (R58 to R62, R80, R90, R99, R109, R110). -/

namespace Sys2Proof.Machine

/-! ### What a command may do to gathers and profiles -/

/-- The commands that set every gather and every profile back. -/
def resetsTables : Instr → Bool
  | .powerOn _ _ _ | .stationReset => true
  | _ => false

/-- The command that replaces the definition of a profile and clears its statistics. -/
def definesProfile : Instr → Bool
  | .defineProfile _ _ _ _ _ _ _ _ _ => true
  | _ => false

/-- The command that clears the statistics of a profile. -/
def clearsStats : Instr → Bool
  | .clearStats _ => true
  | _ => false

/-- The event that brings an answer. -/
def bringsAnswer : Instr → Bool
  | .answerAccepted _ _ => true
  | _ => false

theorem resetsTables_eq_false {c : Instr} (hp : ∀ x y z, c ≠ .powerOn x y z) (hr : c ≠ .stationReset) :
    resetsTables c = false := by
  cases c
  case powerOn => exact absurd rfl (hp _ _ _)
  case stationReset => exact absurd rfl hr
  all_goals rfl

theorem definesProfile_eq_false {c : Instr}
    (h : ∀ a1 a2 a3 a4 a5 a6 a7 a8 a9, c ≠ .defineProfile a1 a2 a3 a4 a5 a6 a7 a8 a9) : definesProfile c = false := by
  cases c
  case defineProfile => exact absurd rfl (h _ _ _ _ _ _ _ _ _)
  all_goals rfl

theorem clearsStats_eq_false {c : Instr} (h : ∀ a, c ≠ .clearStats a) : clearsStats c = false := by
  cases c
  case clearStats => exact absurd rfl (h _)
  all_goals rfl

theorem bringsAnswer_eq_false {c : Instr} (h : ∀ b f, c ≠ .answerAccepted b f) : bringsAnswer c = false := by
  cases c
  case answerAccepted => exact absurd rfl (h _ _)
  all_goals rfl

/-- What a command leaves of gathers in use and of profiles. -/
structure State.StepForward (c : Instr) (s t : State) : Prop where
  done : ∀ i, (s.gather i).state = .done → t.gather i = s.gather i ∨ t.gather i = .free
  final : ∀ i b, (s.gather i).state = .opened → ((s.gather i).slot b).stage = .final →
    (t.gather i).slot b = (s.gather i).slot b ∨ t.gather i = .free
  terms : ∀ i, (s.gather i).state = .opened → (t.gather i).termsKept (s.gather i) ∨ t.gather i = .free
  completes : ∀ i, (s.gather i).state = .opened → (t.gather i).state = .done →
    (t.gather i).lastFinal = some s.clock ∧ t.raisedFrom s (.gatherDone i)
  definitions : resetsTables c = false → definesProfile c = false → ∀ p, (t.profile p).definitionKept (s.profile p)
  extremes : bringsAnswer c = false → resetsTables c = false → ∀ i, (s.gather i).state = .opened →
    (t.gather i).extremesKept (s.gather i)
  values : bringsAnswer c = false → resetsTables c = false → definesProfile c = false → clearsStats c = false →
    ∀ p, (t.profile p).valuesKept (s.profile p)

namespace State

variable {c : Instr} {s t : State}

theorem Forward.step (h : s.Forward (bringsAnswer c = true) t) : s.StepForward c t where
  done i hi := .inl ((h.advances i).closed (by simp [hi]))
  final i b _ hb := .inl ((h.advances i).final b hb)
  terms i _ := .inl (h.advances i).terms
  completes i hi ht := by
    refine ⟨?_, ?_⟩
    · rcases (h.advances i).opened hi with ho | ⟨_, hlast⟩
      · rw [ho] at ht; exact nomatch ht
      · exact hlast
    · refine (h.raised i).trans ?_
      rw [decide_eq_true ⟨hi, ht⟩, Bool.and_true]
      exact Bool.or_comm _ _
  definitions _ _ := h.definitions
  extremes ha _ i _ := h.extremes (by simp [ha]) i
  values ha _ _ _ := h.values (by simp [ha])

/-- A command that leaves every OPEN gather as it was and frees at most DONE ones. -/
theorem StepForward.of_opened (hopened : ∀ i, (s.gather i).state = .opened → t.gather i = s.gather i)
    (hdone : ∀ i, (s.gather i).state = .done → t.gather i = s.gather i ∨ t.gather i = .free)
    (hdefinitions : definesProfile c = false → ∀ p, (t.profile p).definitionKept (s.profile p))
    (hvalues : definesProfile c = false → clearsStats c = false → ∀ p, (t.profile p).valuesKept (s.profile p)) :
    s.StepForward c t where
  done := hdone
  final i b hi _ := .inl (by rw [hopened i hi])
  terms i hi := .inl (by rw [hopened i hi]; exact Gather.termsKept_refl _)
  completes i hi ht := by rw [hopened i hi, hi] at ht; exact nomatch ht
  definitions _ := hdefinitions
  extremes _ _ i hi := by rw [hopened i hi]; exact Gather.extremesKept_refl _
  values _ _ := hvalues

/-- A command that leaves the gather table alone. -/
theorem StepForward.of_gathers (hg : t.gathers = s.gathers)
    (hdefinitions : definesProfile c = false → ∀ p, (t.profile p).definitionKept (s.profile p))
    (hvalues : definesProfile c = false → clearsStats c = false → ∀ p, (t.profile p).valuesKept (s.profile p)) :
    s.StepForward c t := by
  have hgather : ∀ i, t.gather i = s.gather i := fun i => by rw [State.gather_eq_get, hg]; rfl
  exact .of_opened (fun i _ => hgather i) (fun i _ => .inl (hgather i)) hdefinitions hvalues

theorem StepForward.of_tables (hg : t.gathers = s.gathers) (hp : t.profiles = s.profiles) : s.StepForward c t := by
  have hprofile : ∀ p, t.profile p = s.profile p := fun p => by rw [State.profile_eq_get, hp]; rfl
  exact .of_gathers hg (fun _ p => hprofile p ▸ Profile.definitionKept_refl _)
    fun _ _ p => hprofile p ▸ Profile.valuesKept_refl _

/-- A command that frees every entry and sets the profiles back. -/
theorem StepForward.of_free (hg : ∀ i, t.gather i = .free) (hc : resetsTables c = true) : s.StepForward c t where
  done i _ := .inr (hg i)
  final i _ _ _ := .inr (hg i)
  terms i _ := .inr (hg i)
  completes i _ ht := by rw [hg] at ht; exact nomatch ht
  definitions hr := by simp [hc] at hr
  extremes _ hr := by simp [hc] at hr
  values _ hr := by simp [hc] at hr

/-- The reply reaches no gather and no profile. -/
theorem StepForward.answer {d : Instr} {status : Status} {body : List Byte} (h : s.StepForward c t) :
    s.StepForward c (t.answer d status body) := by
  refine ⟨?_, ?_, ?_, ?_, ?_, ?_, ?_⟩ <;> simp only [State.answer_gather, State.answer_profile]
  exacts [h.done, h.final, h.terms, fun i hi ht => ⟨(h.completes i hi ht).1,
    (congrArg (Notices.waiting · _) (State.answer_notices ..)).trans (h.completes i hi ht).2⟩, h.definitions, h.extremes,
    h.values]

/-- What the port takes is no part of what moves. -/
theorem StepForward.takeRequests (hg : t.gathers = s.gathers) (hp : t.profiles = s.profiles) :
    s.StepForward c t.takeRequests := by
  rw [State.takeRequests_eq]
  exact .of_tables hg hp

end State

/-! ### The commands that arm, free, redefine or collect -/

variable (s : State)

/-- Arming raises an in-use count and touches no definition and no statistic (R67). -/
theorem State.arm_profile (i : GatherNo) (g : Gather) (p : ProfileNo) :
    ((s.arm i g).profile p).definitionKept (s.profile p) ∧ ((s.arm i g).profile p).valuesKept (s.profile p) := by
  unfold State.arm
  dsimp only
  split
  · rw [State.profile_modProfile]
    split
    · rename_i hp; subst hp; exact ⟨Profile.definitionKept_refl _, Profile.valuesKept_refl _⟩
    · exact ⟨Profile.definitionKept_refl _, Profile.valuesKept_refl _⟩
  · rw [State.raise_profile]
    exact ⟨Profile.definitionKept_refl _, Profile.valuesKept_refl _⟩

theorem State.arm_gather (i j : GatherNo) (g : Gather) :
    (s.arm i g).gather j = if i = j then g.armedEntry else s.gather j := by
  obtain ⟨_, hgathers, _⟩ := s.arming_eq i g
  rw [State.gather_eq_get, hgathers]
  exact s.gather_setGather i j _

theorem requestArmGather_stepForward (bays : BaySet) (command : BitVec 16) (profile : Byte) (failMask : Indicators)
    (timeoutMs : BitVec 16) (options : Byte) (args : List Byte) (c : Instr) :
    s.StepForward c (requestArmGather bays command profile failMask timeoutMs options args s) := by
  unfold requestArmGather
  dsimp only
  split
  · exact .answer (.of_tables rfl rfl)
  · rename_i p i hok
    obtain ⟨hentry, _⟩ := State.armChecks_ok hok
    have hfree := State.freeEntry_free hentry
    have hother : ∀ j g, (s.gather j).state ≠ .free → (s.arm i g).gather j = s.gather j := fun j g hj => by
      rw [State.arm_gather, if_neg]
      rintro rfl
      exact hj hfree
    exact .answer (.of_opened (fun j hj => hother j _ (by simp [hj])) (fun j hj => .inl (hother j _ (by simp [hj])))
      (fun _ p => (s.arm_profile i _ p).1) fun _ _ p => (s.arm_profile i _ p).2)

theorem requestReleaseGather_stepForward (index : Byte) (serial : BitVec 16) (c : Instr) :
    s.StepForward c (requestReleaseGather index serial s) := by
  unfold requestReleaseGather
  split
  · exact .answer (.of_tables rfl rfl)
  · rename_i i _
    split
    · rename_i hdone
      have hgather : ∀ j, ((s.setGather i .free).clearNotice (.gatherDone i)).gather j =
          if i = j then .free else s.gather j := fun j => s.gather_setGather i j .free
      refine .answer (.of_opened (fun j hj => ?_) (fun j _ => ?_) (fun _ _ => Profile.definitionKept_refl _)
        fun _ _ _ => Profile.valuesKept_refl _) <;> rw [hgather]
      · rw [if_neg]
        rintro rfl
        simp [hdone] at hj
      · split
        · exact .inr rfl
        · exact .inl rfl
    · exact .answer (.of_tables rfl rfl)

theorem requestDefineProfile_stepForward (profile valueMode : Byte) (m d : BitVec 16) (b low high : BitVec 32)
    (latencyMs currentMa : BitVec 16) :
    s.StepForward (.defineProfile profile valueMode m d b low high latencyMs currentMa)
      (requestDefineProfile profile valueMode m d b low high latencyMs currentMa s) := by
  unfold requestDefineProfile
  dsimp only
  split
  · exact .answer (.of_tables rfl rfl)
  · exact .answer (.of_gathers rfl nofun nofun)

theorem requestClearStats_stepForward (profile : Byte) :
    s.StepForward (.clearStats profile) (requestClearStats profile s) := by
  unfold requestClearStats
  split
  · exact .answer (.of_tables rfl rfl)
  · refine .answer (.of_gathers rfl (fun _ q => ?_) nofun)
    rw [State.profile_modProfile]
    split
    · rename_i hq; subst hq; exact ⟨rfl, rfl, rfl, rfl, rfl, rfl, rfl, rfl, rfl⟩
    · exact Profile.definitionKept_refl _

theorem requestPollNotice_stepForward (c : Instr) : s.StepForward c (requestPollNotice s) := by
  unfold requestPollNotice
  split
  · exact .answer (.of_tables rfl rfl)
  · exact .answer (.of_tables rfl rfl)

theorem requestSetParam_stepForward (number : Byte) (value : BitVec 32) (c : Instr) :
    s.StepForward c (requestSetParam number value s) := by
  refine .answer (.of_tables ?_ ?_) <;> unfold State.setParameter <;> split <;> rfl

theorem requestStationReset_stepForward : s.StepForward .stationReset (requestStationReset s) := by
  unfold requestStationReset
  exact .answer (.of_free s.stationReset_gather rfl)

/-! ### Every command -/

variable {s}

/-- A request that comes first moves gathers as its effect does, or else it waits. -/
theorem State.StepForward.serve {c : Instr} {f : State → State} (hc : s.comesFirst c) (hf : s.StepForward c (f s)) :
    s.StepForward c (s.serve c f) := by
  cases hs : s.startup with
  | none => rw [s.serve_of_up c f hs, s.before_of_comesFirst c hc]; exact hf
  | some _ =>
    rw [s.serve_of_startup c f (by simp [hs]), State.keepWaiting_eq]
    exact .of_tables rfl rfl

/-- The requests, by their own lemmas. -/
theorem State.carryOut_stepForward (hs : s.gathersConsistent) (c : Instr) : s.StepForward c (s.carryOut c) := by
  cases c
  case setParam => exact requestSetParam_stepForward s _ _ _
  case stationReset => exact requestStationReset_stepForward s
  case armGather => exact requestArmGather_stepForward s _ _ _ _ _ _ _ _
  case releaseGather => exact requestReleaseGather_stepForward s _ _ _
  case defineProfile => exact requestDefineProfile_stepForward s _ _ _ _ _ _ _ _ _
  case clearStats => exact requestClearStats_stepForward s _
  case pollNotice => exact requestPollNotice_stepForward s _
  case clearNotices => exact .answer (.of_tables rfl rfl)
  case hold => exact .answer (.of_tables rfl rfl)
  case lockCal => exact .answer (.of_tables rfl rfl)
  case resume => exact (requestResume_forward hs).step
  case bayStatus => exact (requestBayStatus_forward hs _).step
  case setSupply => exact (requestSetSupply_forward hs _ _).step
  case cycleBay => exact (requestCycleBay_forward hs _ _ _).step
  case releaseBay => exact (requestReleaseBay_forward hs _).step
  case resetBay => exact (requestResetBay_forward hs _).step
  case setLineRate => exact (requestSetLineRate_forward hs _ _).step
  case putTunnel => exact (requestPutTunnel_forward hs _ _).step
  case getTunnel => exact (requestGetTunnel_forward hs _).step
  case peekTunnel => exact (requestPeekTunnel_forward hs _).step
  case gatherStatus => exact (requestGatherStatus_forward hs _ _).step
  case gatherSlot => exact (requestGatherSlot_forward hs _ _ _).step
  case cancelGather => exact (requestCancelGather_forward hs _ _).step
  case readProfile => exact (requestReadProfile_forward hs _).step
  case setRing => exact (requestSetRing_forward hs _ _ _ _).step
  case readResults => exact (requestReadResults_forward hs _ _).step
  case clearDrops => exact (requestClearDrops_forward hs _ _ _).step
  case ringStatus => exact (requestRingStatus_forward hs _).step
  case writeCal => exact (requestWriteCal_forward hs _ _ _).step
  case readCal => exact (requestReadCal_forward hs _).step
  case unlockCal => exact (requestUnlockCal_forward hs).step
  case identify | getParam | readClock => exact .answer (.of_tables rfl rfl)
  all_goals exact .of_tables rfl rfl

theorem exec_stepForward {c : Instr} {t : State} (hc : s.comesFirst c) (hs : s.gathersConsistent)
    (ht : exec c s = .next t) : s.StepForward c t := by
  have request := State.StepForward.serve (f := fun u => u.carryOut c) hc (State.carryOut_stepForward hs c)
  have before := s.before_of_comesFirst c hc
  cases c
  all_goals obtain rfl := Host.Outcome.next.inj ht
  case powerOn => exact .of_free (fun i => vector_get_replicate _ i) rfl
  case startupDebounceEnd =>
    split
    · exact .takeRequests rfl rfl
    · exact .of_tables rfl rfl
  case requestFrameAccepted =>
    split
    · exact .takeRequests rfl rfl
    · exact .of_tables rfl rfl
  case linkAttach => split <;> exact .of_tables rfl rfl
  case requestSyncReceived => exact .of_tables rfl rfl
  case replyDelivered | linkDetach => exact (State.modPort_or_forward hs _ _).step
  case requestFrameCheckFail | requestLengthDiscard | requestGapExpiry =>
    rw [before]; exact (State.modPort_or_forward hs _ _).step
  case signOnAccepted => rw [before]; exact (eventSignOnAccepted_forward hs _ _).step
  case answerAccepted => rw [before]; exact (eventAnswerAccepted_forward hs _ _ rfl).step
  case tunnelInAccepted => rw [before]; exact (eventTunnelInAccepted_forward hs _ _).step
  case bayFrameRejected | bayFrameLengthDiscard | bayFrameGapExpiry | syncGapExpiry =>
    rw [before]; exact (State.modLink_or_forward hs _ _ _).step
  case bayCharacterFault | baySyncReceived => rw [before]; exact (State.Forward.refl hs).modBay.step
  case dispatch => rw [before]; exact (eventDispatch_forward hs _).step
  case askSent => rw [before]; exact (eventAskSent_forward hs _).step
  case tunnelOutSent => rw [before]; exact (eventTunnelOutSent_forward hs _).step
  case answerTimerExpiry => rw [before]; exact (eventAnswerTimerExpiry_forward hs _).step
  case wakeTimerExpiry => rw [before]; exact (eventWakeTimerExpiry_forward hs _).step
  case cycleTimerExpiry => rw [before]; exact (eventCycleTimerExpiry_forward hs _).step
  case presenceContactChange => rw [before]; exact (eventPresenceContactChange_forward hs _ _).step
  case debounceExpiry => rw [before]; exact (eventDebounceExpiry_forward hs _).step
  case trip => rw [before]; exact (eventTrip_forward hs _ _).step
  case sag => rw [before]; exact (eventSag_forward hs _).step
  case railRiseClear => rw [before]; exact (eventRailRiseClear_forward hs _).step
  case stopLineChange => rw [before]; exact (eventStopLineChange_forward hs _).step
  case conversionEnd => rw [before]; exact (eventConversionEnd_forward hs _).step
  all_goals exact request

/-- Settles O60: every command moves gathers only forward (exec_stepForward). -/
theorem gathersMoveOnlyForward : Obligations.GathersMoveOnlyForward := by
  intro c s t hc hs ht
  have step := exec_stepForward hc hs ht
  refine ⟨step.done, step.final, step.terms, step.completes, fun hp hr hd => ?_,
    fun ha hp hr => ⟨?_, fun hd hclear => ?_⟩⟩
  · exact step.definitions (resetsTables_eq_false hp hr) (definesProfile_eq_false hd)
  · exact step.extremes (bringsAnswer_eq_false ha) (resetsTables_eq_false hp hr)
  · exact step.values (bringsAnswer_eq_false ha) (resetsTables_eq_false hp hr) (definesProfile_eq_false hd)
      (clearsStats_eq_false hclear)

end Sys2Proof.Machine
end

section
/-! PROOFS. RELEASE_GATHER and ARM_GATHER: naming an entry, the checks of an arm in their order, and what an arm writes (R65
to R68, R85 to R88, R110, R168). -/

namespace Sys2Proof.Machine

variable {s : State} {i : GatherNo}

/-! ### Naming a gather (R82, R86 to R88) -/

section
variable {index : Byte} {serial : BitVec 16}

theorem gatherOf_eq_none {n : Byte} : gatherOf n = none ↔ 15 < n.toNat := by
  unfold gatherOf
  split <;> simp <;> omega

theorem State.named_bad (h : 15 < index.toNat) : s.named index serial = .error .badParam := by
  rw [State.named, gatherOf_eq_none.2 h]

theorem State.named_absent (hi : gatherOf index = some i)
    (h : (s.gather i).state = .free ∨ (s.gather i).serial ≠ serial) : s.named index serial = .error .notFound := by
  rw [State.named, hi]
  exact if_pos h

theorem State.named_ok (hi : gatherOf index = some i) (hstate : (s.gather i).state ≠ .free)
    (hserial : (s.gather i).serial = serial) : s.named index serial = .ok i := by
  rw [State.named, hi]
  exact if_neg fun h => h.elim hstate (absurd hserial)

/-! ### Releasing (R88, R168) -/

theorem requestReleaseGather_refused {status : Status} (h : s.named index serial = .error status) :
    requestReleaseGather index serial s = s.answer (.releaseGather index serial) status [] := by
  rw [requestReleaseGather, h]

theorem requestReleaseGather_opened (h : s.named index serial = .ok i) (ho : (s.gather i).state = .opened) :
    requestReleaseGather index serial s = s.answer (.releaseGather index serial) .wrongState [] := by
  rw [requestReleaseGather, h]
  exact if_neg (by simp [ho])

theorem requestReleaseGather_done (h : s.named index serial = .ok i) (hd : (s.gather i).state = .done) :
    requestReleaseGather index serial s =
      ((s.setGather i .free).clearNotice (.gatherDone i)).answer (.releaseGather index serial) .ok [] := by
  rw [requestReleaseGather, h]
  exact if_pos hd

end

/-- A pending notice removed waits no more, and no other place changes (R168). -/
theorem Notices.waiting_setEvent_gatherDone (n : Notices) (v : Bool) (i : GatherNo) (q : Place) :
    (n.setEvent v (.gatherDone i)).waiting q = if q = .gatherDone i then v else n.waiting q := by
  cases q
  case gatherDone j => simp [Notices.setEvent, Notices.waiting, vector_get_set, eq_comm]
  all_goals rfl

/-- Settles O41: the refusals in their order, and the entry and its notice cleared. -/
theorem releaseGatherFreesADoneEntry : Obligations.ReleaseGatherFreesADoneEntry := by
  intro s index serial hclear
  have hexec : exec (.releaseGather index serial) s = .next (requestReleaseGather index serial s) :=
    State.next_serve_of_clear hclear (.releaseGather index serial) (requestReleaseGather index serial)
  refine ⟨fun hbad => ⟨_, hexec, ?_⟩, fun i hi habsent => ⟨_, hexec, ?_⟩, fun i hi ho hserial => ⟨_, hexec, ?_⟩,
    fun i hi hd hserial => ⟨_, hexec, ?_⟩⟩
  · rw [requestReleaseGather_refused (State.named_bad hbad)]
    exact s.answer_repliedAs ..
  · rw [requestReleaseGather_refused (State.named_absent hi habsent)]
    exact s.answer_repliedAs ..
  · rw [requestReleaseGather_opened (State.named_ok hi (by simp [ho]) hserial) ho]
    exact s.answer_repliedAs ..
  · rw [requestReleaseGather_done (State.named_ok hi (by simp [hd]) hserial) hd, State.answer_gathers,
      State.answer_notices]
    have hgather : ∀ j, ((s.setGather i .free).clearNotice (.gatherDone i)).gather j =
        if i = j then .free else s.gather j := fun j => s.gather_setGather i j .free
    have hwaiting : ∀ q, ((s.setGather i .free).clearNotice (.gatherDone i)).notices.waiting q =
        if q = .gatherDone i then false else s.notices.waiting q :=
      fun q => s.notices.waiting_setEvent_gatherDone false i q
    refine ⟨State.answer_repliedAs .., ?_, fun j hj => ?_, ?_, fun q hq => ?_⟩
    · rw [State.answer_gather, hgather, if_pos rfl]
      rfl
    · rw [State.answer_gather, hgather, if_neg (Ne.symm hj)]
    · exact (hwaiting (.gatherDone i)).trans (if_pos rfl)
    · exact (hwaiting q).trans (if_neg hq)

/-! ### The checks of an arm (R66) -/

section
variable {bays : BaySet} {command : BitVec 16} {profile : Byte} {mask : Indicators} {timeout : BitVec 16} {options : Byte}
  {args : List Byte} {p : ProfileNo}

theorem profileOf_eq_none {n : Byte} : profileOf n = none ↔ 31 < n.toNat := by
  unfold profileOf
  split <;> simp <;> omega

theorem State.freeEntry_eq_none (h : ∀ i, (s.gather i).state ≠ .free) : s.freeEntry = none :=
  List.find?_eq_none.2 fun i _ => by simpa using h i

/-- The FREE entry with the lowest index (R67). -/
theorem State.freeEntry_of_lowest (hfree : (s.gather i).state = .free) (hlow : ∀ j, j < i → (s.gather j).state ≠ .free) :
    s.freeEntry = some i := by
  have hat : ∀ j : GatherNo, allGathers[j.val]? = some j := by decide
  obtain ⟨hlt, hget⟩ := List.getElem?_eq_some_iff.1 (hat i)
  refine List.find?_eq_some_iff_getElem.2 ⟨by simpa using hfree, i.val, hlt, hget, fun j hj => ?_⟩
  obtain ⟨_, hgetj⟩ := List.getElem?_eq_some_iff.1 (hat ⟨j, by omega⟩)
  simpa [hgetj] using hlow ⟨j, by omega⟩ (Fin.lt_def.2 hj)

theorem State.queueFull_of_full {b : BayNo} (hb : bays.getLsbD b.val) (ha : (s.bay b).state.available)
    (hfull : 8 ≤ (s.bay b).queue.length) : s.queueFull bays = true :=
  List.any_eq_true.2 ⟨b, mem_allBays b, by simp [inSet, hb, ha, hfull]⟩

theorem State.queueFull_of_room
    (h : ∀ b : BayNo, bays.getLsbD b.val → (s.bay b).state.available → (s.bay b).queue.length < 8) :
    s.queueFull bays = false :=
  List.any_eq_false.2 fun b _ hb => by
    simp only [inSet, Bool.and_eq_true, decide_eq_true_eq] at hb
    obtain ⟨⟨hin, ha⟩, hfull⟩ := hb
    exact absurd (h b hin ha) (by omega)

theorem State.armChecks_of_noEntry (hbays : bays ≠ 0) (hargs : args.length ≤ 48) (hp : profileOf profile = some p)
    (hdefined : (s.profile p).defined = true) (hnone : s.freeEntry = none) :
    s.armChecks bays profile args = .error .full := by
  unfold State.armChecks
  rw [if_neg hbays, if_neg (by omega), hp]
  exact (if_neg (by simp [hdefined])).trans (by rw [hnone])

theorem State.armChecks_of_entry (hbays : bays ≠ 0) (hargs : args.length ≤ 48) (hp : profileOf profile = some p)
    (hdefined : (s.profile p).defined = true) (hentry : s.freeEntry = some i) :
    s.armChecks bays profile args = if s.queueFull bays then .error .full else .ok (p, i) := by
  unfold State.armChecks
  rw [if_neg hbays, if_neg (by omega), hp]
  exact (if_neg (by simp [hdefined])).trans (by rw [hentry])

theorem requestArmGather_refused {status : Status} (h : s.armChecks bays profile args = .error status) :
    requestArmGather bays command profile mask timeout options args s =
      s.answer (.armGather bays command profile mask timeout options args) status [] := by
  rw [requestArmGather, h]

theorem requestArmGather_ok (h : s.armChecks bays profile args = .ok (p, i)) :
    requestArmGather bays command profile mask timeout options args s =
      (s.arm i (s.armedGather bays command p mask timeout options args)).answer
        (.armGather bays command profile mask timeout options args) .ok
        ([BitVec.ofNat 8 i.val] ++ put 2 (nextSerial s.gatherSerial) ++ put 2 (timeoutInEffect timeout)) := by
  rw [requestArmGather, h]
  rfl

end

/-- Settles O39: the checks in their order, each refusal with the state as it was. -/
theorem armGatherIsCheckedInOrder : Obligations.ArmGatherIsCheckedInOrder := by
  intro s bays command profile mask timeout options args hclear refused
  have hexec : exec (.armGather bays command profile mask timeout options args) s =
      .next (requestArmGather bays command profile mask timeout options args s) :=
    State.next_serve_of_clear hclear (.armGather bays command profile mask timeout options args)
      (requestArmGather bays command profile mask timeout options args)
  have refuse : ∀ status, s.armChecks bays profile args = .error status → refused status := fun status h =>
    ⟨_, hexec, by rw [requestArmGather_refused h]; exact s.answer_repliedAs ..⟩
  refine ⟨fun hbays => refuse _ ?_, fun hbays hlong => refuse _ ?_, fun hbays hargs hprofile => refuse _ ?_,
    fun p hbays hargs hp hundefined => refuse _ ?_, fun p hbays hargs hp hdefined hfull => refuse _ ?_,
    fun p i b hbays hargs hp hdefined hfree hb ha hfull => refuse _ ?_⟩
  · unfold State.armChecks
    rw [if_pos hbays]
  · unfold State.armChecks
    rw [if_neg hbays, if_pos hlong]
  · unfold State.armChecks
    rw [if_neg hbays, if_neg (by omega), profileOf_eq_none.2 hprofile]
  · unfold State.armChecks
    rw [if_neg hbays, if_neg (by omega), hp]
    exact if_pos (by simp [hundefined])
  · exact State.armChecks_of_noEntry hbays hargs hp hdefined (State.freeEntry_eq_none hfull)
  · cases hentry : s.freeEntry with
    | none => exact State.armChecks_of_noEntry hbays hargs hp hdefined hentry
    | some j =>
      rw [State.armChecks_of_entry hbays hargs hp hdefined hentry]
      exact if_pos (State.queueFull_of_full hb ha hfull)

/-! ### What an arm writes (R65, R67, R68) -/

theorem timeoutInEffect_eq (ms : BitVec 16) : timeoutInEffect ms =
    if ms.toNat < 10 then 10 else if 60000 < ms.toNat then 60000 else ms := by
  unfold timeoutInEffect clampNat
  split
  · rfl
  · split
    · rfl
    · rw [BitVec.ofNat_toNat, BitVec.setWidth_eq]

/-- A gather is OPEN at once when a bay of its set takes a queued slot. -/
theorem State.armedGather_hasOpenSlot (s : State) (bays : BaySet) (command : BitVec 16) (profile : ProfileNo)
    (failMask : Indicators) (timeoutMs : BitVec 16) (options : Byte) (args : List Byte) :
    (s.armedGather bays command profile failMask timeoutMs options args).hasOpenSlot ↔
      ∃ b : BayNo, bays.getLsbD b.val ∧ (s.bay b).state.available := by
  rw [Gather.hasOpenSlot_iff]
  refine exists_congr fun b => ?_
  rw [Slot.endable_iff, State.armedGather_slot, armedSlot_queued, or_iff_left (armedSlot_not_sent _ _), Bool.and_eq_true]
  rfl

/-- The entry written keeps everything of the gather armed but its state and last final time. -/
theorem Gather.armedEntry_eq (g : Gather) : g.armedEntry =
    { g with state := g.armedEntry.state, lastFinal := g.armedEntry.lastFinal } := by
  unfold Gather.armedEntry
  split <;> rfl

theorem Gather.armedEntry_of_open {g : Gather} (h : g.hasOpenSlot) : g.armedEntry = g := if_pos h

theorem Gather.armedEntry_of_closed {g : Gather} (h : ¬g.hasOpenSlot) :
    g.armedEntry = { g with state := .done, lastFinal := some g.armTime } := if_neg h

theorem State.arm_of_open (s : State) (i : GatherNo) {g : Gather} (h : g.hasOpenSlot) :
    s.arm i g = (({ s with gatherSerial := g.serial }.enqueue g.bays i).setGather i g).modProfile g.profile
      (fun p => { p with inUse := p.inUse + 1 }) := if_pos h

theorem State.arm_of_closed (s : State) (i : GatherNo) {g : Gather} (h : ¬g.hasOpenSlot) :
    s.arm i g = (({ s with gatherSerial := g.serial }.enqueue g.bays i).setGather i
      { g with state := .done, lastFinal := some g.armTime }).raise (.gatherDone i) := if_neg h

theorem State.arm_gatherSerial (s : State) (i : GatherNo) (g : Gather) : (s.arm i g).gatherSerial = g.serial := by
  unfold State.arm
  dsimp only
  split
  · rfl
  · rw [State.raise_gatherSerial]; rfl

theorem State.arm_cells (s : State) (i : GatherNo) (g : Gather) : (s.arm i g).cells = s.cells := by
  unfold State.arm
  dsimp only
  split
  · rfl
  · rw [State.raise_cells]; rfl

theorem State.arm_bay (s : State) (i : GatherNo) (g : Gather) (b : BayNo) : (s.arm i g).bay b =
    if g.bays.getLsbD b.val ∧ (s.bay b).state.available then { s.bay b with queue := (s.bay b).queue ++ [i] }
    else s.bay b := by
  obtain ⟨hbays, _⟩ := s.arming_eq i g
  rw [State.bay_eq_get, hbays]
  refine (s.enqueue_bay g.bays i b).trans ?_
  simp only [State.joins, inSet, Bool.and_eq_true]

/-- An OPEN gather armed is counted in use at its profile (R68). -/
theorem State.arm_inUse (s : State) (i : GatherNo) {g : Gather} (h : g.hasOpenSlot) :
    ((s.arm i g).profile g.profile).inUse = (s.profile g.profile).inUse + 1 := by
  rw [State.arm_of_open s i h, State.profile_modProfile, if_pos rfl]
  rfl

/-- Settles O38: the entry and the serial taken, and what State.arm writes. -/
theorem armGatherQueuesItsBays : Obligations.ArmGatherQueuesItsBays := by
  intro s bays command profile mask timeout options args p i hclear hbays hargs hp hdefined hfree hlow hroom serial
    effective
  have hok : s.armChecks bays profile args = .ok (p, i) := by
    rw [State.armChecks_of_entry hbays hargs hp hdefined (State.freeEntry_of_lowest hfree hlow)]
    exact if_neg (by rw [State.queueFull_of_room hroom]; simp)
  have hexec : exec (.armGather bays command profile mask timeout options args) s =
      .next (requestArmGather bays command profile mask timeout options args s) :=
    State.next_serve_of_clear hclear (.armGather bays command profile mask timeout options args)
      (requestArmGather bays command profile mask timeout options args)
  rw [requestArmGather_ok hok, timeoutInEffect_eq] at hexec
  have hopen := s.armedGather_hasOpenSlot bays command p mask timeout options args
  have hslot := s.armedGather_slot bays command p mask timeout options args
  have htimeout : (s.armedGather bays command p mask timeout options args).timeoutMs = effective :=
    timeoutInEffect_eq timeout
  have hwritten := s.arm_gather i i (s.armedGather bays command p mask timeout options args)
  rw [if_pos rfl] at hwritten
  refine ⟨_, hexec, State.answer_repliesWith .., ?_, fun j hj => ?_, ?_, fun b => ?_, fun b => ?_, ?_⟩
  · rw [State.answer_gatherSerial, State.arm_gatherSerial]; rfl
  · rw [State.answer_gather, State.arm_gather, if_neg (Ne.symm hj)]
  · rw [State.answer_cells, State.arm_cells]
  · rw [State.answer_bay, State.arm_bay]; rfl
  · rw [State.answer_gather, hwritten, Gather.armedEntry_slot, hslot]; rfl
  · have hagrees := s.armedGather_summaryAgrees bays command p mask timeout options args
    simp only [State.answer_gather, hwritten]
    rw [Gather.armedEntry_eq]
    refine ⟨rfl, rfl, rfl, rfl, rfl, rfl, htimeout, rfl, rfl, rfl, rfl, rfl, rfl, rfl,
      (Gather.summaryConsistent_iff _).2 (hagrees.congr rfl rfl), rfl, rfl, ?_⟩
    by_cases hjoins : ∃ b : BayNo, bays.getLsbD b.val ∧ (s.bay b).state.available
    · have hentry := Gather.armedEntry_of_open (hopen.2 hjoins)
      rw [if_pos hjoins, hentry]
      refine ⟨rfl, rfl, ?_, ?_⟩
      · rw [State.answer_profile]
        exact s.arm_inUse i (hopen.2 hjoins)
      · rw [State.arm_of_open s i (hopen.2 hjoins), State.answer_notices]
        rfl
    · have hentry := Gather.armedEntry_of_closed fun h => hjoins (hopen.1 h)
      rw [if_neg hjoins, hentry, State.arm_of_closed s i fun h => hjoins (hopen.1 h)]
      refine ⟨rfl, rfl, ?_, ?_⟩
      · rw [State.answer_profiles, State.raise_profiles]
        rfl
      · rw [State.raisedFrom, State.answer_notices]
        exact (State.raise_raisedFrom (p := .gatherDone i) _ (by simp) (by simp)).trans rfl

end Sys2Proof.Machine
end

section
/-! PROOFS. A dispatch: the slot sent, the ask made outstanding, and the frame that begins (R28 to R30, R69, R70, R85), and
the ASK frame field by field (R22, R182). -/

namespace Sys2Proof.Machine

variable (s : State) (b : BayNo)

/-- The begin of a frame touches the bays alone (R29). -/
theorem State.beginFrame_onlyBays : s.beginFrame b = { s with bays := (s.beginFrame b).bays } := by
  unfold State.beginFrame
  dsimp only
  split
  · split
    · rfl
    · split <;> rfl
  · rfl

theorem State.beginFrame_gather (j : GatherNo) : (s.beginFrame b).gather j = s.gather j := by
  rw [State.gather, State.beginFrame_gathers]
  rfl

section
variable (i : GatherNo) (rest : List GatherNo)

theorem State.dispatched_bay (d : BayNo) : (s.dispatched b i rest).bay d =
    if b = d then { s.bay b with
      state := .asking
      queue := rest
      link := { (s.bay b).link with
        nextTag := nextAskTag (s.bay b).link.nextTag
        outstanding := some (s.bay b).link.nextTag
        pendingAsk := some
          { tag := (s.bay b).link.nextTag, command := (s.gather i).command, args := (s.gather i).args } } }
    else s.bay d := by
  rw [State.dispatched, State.bay_modBay]
  split
  · rename_i h; subst h; rfl
  · rfl

theorem State.dispatchHead_onlyTables : s.dispatchHead b i rest =
    { s with bays := (s.dispatchHead b i rest).bays, gathers := (s.dispatchHead b i rest).gathers } := by
  rw [State.dispatchHead_eq, State.beginFrame_onlyBays]
  rfl

theorem State.dispatchHead_gather (j : GatherNo) : (s.dispatchHead b i rest).gather j =
    if i = j then (s.gather i).sendSlot b (s.bay b).link.nextTag else s.gather j := by
  rw [State.dispatchHead_eq, State.beginFrame_gather, State.dispatched, State.modBay_gather, State.gather_modGather]

theorem State.dispatchHead_bay_ne {d : BayNo} (h : d ≠ b) : (s.dispatchHead b i rest).bay d = s.bay d := by
  rw [State.dispatchHead_eq, State.beginFrame_bay_ne _ h.symm, State.dispatched_bay, if_neg h.symm]

theorem Gather.sendSlot_slot (g : Gather) (tag : Byte) (d : BayNo) : (g.sendSlot b tag).slot d =
    if b = d then { g.slot b with stage := .sent, tag := some tag } else g.slot d :=
  g.slot_setSlot b d _

theorem eventDispatch_of_queued (hready : (s.bay b).state = .ready) (hrun : s.run = .run)
    (hqueue : (s.bay b).queue = i :: rest) (hqueued : ((s.gather i).slot b).stage = .queued) :
    eventDispatch b s = s.dispatchHead b i rest := by
  have hmay : s.mayDispatch b = true := by simp [State.mayDispatch, hready, hrun, hqueue]
  rw [eventDispatch, if_pos hmay, hqueue]
  exact if_pos hqueued

end

/-- The body of an ASK frame is the command code and the arguments. -/
theorem askBody_length (a : Ask) : (put 2 a.command ++ a.args).length = 2 + a.args.length := by
  rw [List.length_append, put, leBytes_length]

/-- An ASK frame field by field: sync bytes, kind and tag, length, command code, arguments, check. -/
def askFrameFields (a : Ask) : List (List Byte) :=
  [[0xA5, 0x5A, kindAsk, a.tag], [BitVec.ofNat 8 (put 2 a.command ++ a.args).length], put 2 a.command, a.args,
    leBytes 2 (crc ([kindAsk, a.tag, BitVec.ofNat 8 (put 2 a.command ++ a.args).length] ++
      (put 2 a.command ++ a.args))).toNat]

theorem askFrame_eq_flatten (a : Ask) : askFrame a = (askFrameFields a).flatten := by
  simp [askFrame, bayFrameOut, askFrameFields]

theorem askFrameFields_sizes (a : Ask) : (askFrameFields a).map List.length = [4, 1, 2, a.args.length, 2] := by
  simp [askFrameFields]

/-- A field of an ASK frame at its offset. -/
theorem askFrame_field {a : Ask} (k : Nat) {offset size : Nat} {f : List Byte}
    (hoffset : ([4, 1, 2, a.args.length, 2].take k).sum = offset) (hsize : [4, 1, 2, a.args.length, 2][k]? = some size)
    (hf : (askFrameFields a)[k]? = some f) : bytesAt (askFrame a) offset size = f := by
  rw [askFrame_eq_flatten]
  exact bytesAt_field (askFrameFields_sizes a) k hoffset hsize hf

/-- Settles O36: the dispatch as its steps, the frame that begins by what the transmitter and the tunnel allow, and the
frame field by field. -/
theorem aDispatchSendsTheHeadOfTheQueue : Obligations.ADispatchSendsTheHeadOfTheQueue := by
  refine ⟨fun s b i rest hnone hready hrun hqueue hqueued => ?_, fun a hlen => ?_⟩
  · intro tag ask next
    have hexec : exec (.dispatch b) s = .next (eventDispatch b s) :=
      State.next_before_of_none hnone _ (eventDispatch b)
    rw [eventDispatch_of_queued s b i rest hready hrun hqueue hqueued] at hexec
    have hrun' : (s.dispatched b i rest).run = .run := hrun
    have hhere := s.dispatched_bay b i rest b
    rw [if_pos rfl] at hhere
    have hgather := s.dispatchHead_gather b i rest i
    rw [if_pos rfl] at hgather
    refine ⟨_, hexec, s.dispatchHead_onlyTables b i rest, fun d hd => s.dispatchHead_bay_ne b i rest hd, fun j hj => ?_,
      fun d hd => ?_, ?_, ?_, fun hidle hout => ?_, fun block hidle hout => ?_, fun hbusy => ?_⟩
    · rw [State.dispatchHead_gather, if_neg hj.symm]
    · rw [hgather, Gather.sendSlot_slot, if_neg hd.symm]
    · rw [hgather]; rfl
    · rw [hgather, Gather.sendSlot_slot, if_pos rfl]
    · rw [State.dispatchHead_eq, State.beginFrame_of_ask (ask := ask) hrun' (by rw [hhere]; exact hidle)
        (by rw [hhere]; exact hout) (by rw [hhere]), State.bay_modBay, if_pos rfl, hhere]
      rfl
    · rw [State.dispatchHead_eq, State.beginFrame_of_tunnel (block := block) hrun' (by rw [hhere]; exact hidle)
        (by rw [hhere]; exact hout) (by simp [hhere]), State.bay_modBay, if_pos rfl, hhere]
      simp only [Bay.modLink, hout]
      rfl
    · rw [State.dispatchHead_eq, State.beginFrame_of_nothing (.inl fun h => hbusy (by simpa [hhere] using h.2)), hhere]
      rfl
  · have hbody := askBody_length a
    refine ⟨?_, askFrame_field 0 rfl rfl rfl, ?_, numberAt_of_put (askFrame_field 2 rfl rfl rfl) (by norm_num),
      askFrame_field 3 rfl rfl rfl, ?_⟩
    · rw [askFrame, bayFrameOut_length, hbody]; omega
    · rw [← hbody]
      exact numberAt_of_byte (askFrame_field 1 rfl rfl rfl) (by omega)
    · have hcheck := bayFrameOut_check kindAsk a.tag (put 2 a.command ++ a.args)
      rw [hbody, ← Nat.add_assoc, ← Nat.add_assoc] at hcheck
      exact hcheck

end Sys2Proof.Machine
end

section
/-! PROOFS. CANCEL_GATHER: what the bays of a cancelled gather lose one after the other, and the state it ends in (R64, R80,
R82). -/

namespace Sys2Proof.Machine

variable {s t u : State} {i : GatherNo}

/-! ### The QUEUED slots of a set of bays end CANCELLED (R64, R82) -/

/-- The slot as CANCELLED ends it: FINAL without verdict or indicator (R62, R76). -/
def Slot.cancelled (x : Slot) : Slot :=
  { x with stage := .final, ending := some .cancelled, verdict := .none, indicators := 0 }

@[simp] theorem Slot.cancelled_stage (x : Slot) : x.cancelled.stage = .final := rfl

/-- The bay with the index gone from its queue. -/
def Bay.withoutGather (x : Bay) (i : GatherNo) : Bay := { x with queue := x.queue.filter (· ≠ i) }

/-- From s to t the gather's QUEUED slots at the bays of the list ended CANCELLED and those bays' queues lost the index;
while a slot of the gather is SENT no notice changes. -/
structure State.CancelsAt (i : GatherNo) (l : List BayNo) (s t : State) : Prop where
  slot : ∀ c, (t.gather i).slot c =
    if c ∈ l ∧ ((s.gather i).slot c).stage = .queued then ((s.gather i).slot c).cancelled else (s.gather i).slot c
  bay : ∀ c, t.bay c =
    if c ∈ l ∧ ((s.gather i).slot c).stage = .queued then (s.bay c).withoutGather i else s.bay c
  others : ∀ j, j ≠ i → t.gather j = s.gather j
  flags : (t.gather i).cancelled = (s.gather i).cancelled ∧ (t.gather i).aborted = (s.gather i).aborted
  cells : t.cells = s.cells
  notices : (∃ d, ((s.gather i).slot d).stage = .sent) → t.notices = s.notices

theorem State.CancelsAt.refl (i : GatherNo) (s : State) : State.CancelsAt i [] s s :=
  ⟨fun c => by simp, fun c => by simp, fun _ _ => rfl, ⟨rfl, rfl⟩, rfl, fun _ => rfl⟩

theorem State.CancelsAt.trans {l m : List BayNo} (h : State.CancelsAt i l s t) (k : State.CancelsAt i m t u) :
    State.CancelsAt i (l ++ m) s u where
  slot c := by
    rw [k.slot, h.slot]
    by_cases hl : c ∈ l ∧ ((s.gather i).slot c).stage = .queued
    · simp [hl]
    · rw [if_neg hl]
      exact if_congr (by rw [List.mem_append]; tauto) rfl rfl
  bay c := by
    rw [k.bay, h.slot, h.bay]
    by_cases hl : c ∈ l ∧ ((s.gather i).slot c).stage = .queued
    · simp [hl]
    · rw [if_neg hl, if_neg hl]
      exact if_congr (by rw [List.mem_append]; tauto) rfl rfl
  others j hj := (k.others j hj).trans (h.others j hj)
  flags := ⟨k.flags.1.trans h.flags.1, k.flags.2.trans h.flags.2⟩
  cells := k.cells.trans h.cells
  notices hsent := by
    obtain ⟨d, hd⟩ := hsent
    refine (k.notices ⟨d, ?_⟩).trans (h.notices ⟨d, hd⟩)
    rw [h.slot, if_neg (by simp [hd]), hd]

/-! ### One slot -/

theorem State.cancelSlot_of_queued {b : BayNo} (hq : ((s.gather i).slot b).stage = .queued) : s.cancelSlot i b =
    (s.modBay b (fun x => x.withoutGather i)).completeUnevaluated b i .cancelled := if_pos hq

theorem State.cancelSlot_of_not_queued {b : BayNo} (hq : ((s.gather i).slot b).stage ≠ .queued) :
    s.cancelSlot i b = s := if_neg hq

/-- An unevaluated completion raises nothing while another slot of the gather is open (R76, R80). -/
theorem State.completeUnevaluated_notices {b d : BayNo} (hd : d ≠ b) (hopen : ((s.gather i).slot d).endable)
    (e : Ending) : (s.completeUnevaluated b i e).notices = s.notices := by
  unfold State.completeUnevaluated State.finishUnevaluated State.completeGatherIfFinal
  split
  · dsimp only
    rw [if_pos, State.modGather_notices]
    refine (Gather.hasOpenSlot_iff _).2 ⟨d, ?_⟩
    rw [State.gather_modGather, if_pos rfl, Gather.finalise_slot, if_neg hd.symm]
    exact hopen
  · rfl

theorem State.completeUnevaluated_flags (b : BayNo) (e : Ending) :
    ((s.completeUnevaluated b i e).gather i).cancelled = (s.gather i).cancelled ∧
      ((s.completeUnevaluated b i e).gather i).aborted = (s.gather i).aborted := by
  unfold State.completeUnevaluated
  split
  · rw [State.finishUnevaluated_gather, if_pos rfl, Gather.closedAt]
    split <;> exact ⟨rfl, rfl⟩
  · exact ⟨rfl, rfl⟩

theorem State.cancelSlot_cancelsAt (s : State) (i : GatherNo) (b : BayNo) :
    State.CancelsAt i [b] s (s.cancelSlot i b) := by
  by_cases hq : ((s.gather i).slot b).stage = .queued
  · have hopen : ((s.gather i).slot b).endable := (Slot.endable_iff _).2 (.inl hq)
    rw [State.cancelSlot_of_queued hq]
    refine ⟨fun c => ?_, fun c => ?_, fun j hj => ?_, State.completeUnevaluated_flags b _, ?_, fun ⟨d, hd⟩ => ?_⟩
    · rw [State.completeUnevaluated_slot _ _ _ _ _ rfl, State.modBay_gather]
      by_cases hc : b = c
      · subst hc
        rw [if_pos ⟨hopen, rfl, rfl⟩, if_pos ⟨List.mem_singleton_self b, hq⟩]
        rfl
      · rw [if_neg fun h => hc h.2.2, if_neg fun h => hc (List.mem_singleton.1 h.1).symm]
    · rw [State.completeUnevaluated_bay, State.bay_modBay]
      by_cases hc : b = c
      · subst hc
        rw [if_pos rfl, if_pos ⟨List.mem_singleton_self b, hq⟩]
      · rw [if_neg hc, if_neg fun h => hc (List.mem_singleton.1 h.1).symm]
    · rw [State.completeUnevaluated_gather_ne hj.symm, State.modBay_gather]
    · rw [State.completeUnevaluated_cells, State.modBay_cells]
    · have hdb : d ≠ b := fun h => by simp [h, hq] at hd
      have hother : (((s.modBay b (fun x => x.withoutGather i)).gather i).slot d).endable :=
        (Slot.endable_iff _).2 (.inr hd)
      rw [State.completeUnevaluated_notices hdb hother, State.modBay_notices]
  · have hkept : ∀ c, ¬(c ∈ [b] ∧ ((s.gather i).slot c).stage = .queued) := fun c h => by
      obtain ⟨hc, hqueued⟩ := h
      rw [List.mem_singleton.1 hc] at hqueued
      exact hq hqueued
    rw [State.cancelSlot_of_not_queued hq]
    exact ⟨fun c => (if_neg (hkept c)).symm, fun c => (if_neg (hkept c)).symm, fun _ _ => rfl, ⟨rfl, rfl⟩, rfl,
      fun _ => rfl⟩

theorem State.foldl_cancelSlot_cancelsAt (i : GatherNo) : ∀ (l : List BayNo) (s : State),
    State.CancelsAt i l s (l.foldl (fun t b => t.cancelSlot i b) s)
  | [], s => .refl i s
  | b :: l, s => (s.cancelSlot_cancelsAt i b).trans (foldl_cancelSlot_cancelsAt i l _)

/-! ### The request (R82) -/

/-- The gather's CANCELLED flag set (R82). -/
def State.flagCancelled (s : State) (i : GatherNo) : State := s.modGather i (fun g => { g with cancelled := true })

theorem State.flagCancelled_slot (s : State) (i : GatherNo) (c : BayNo) :
    ((s.flagCancelled i).gather i).slot c = (s.gather i).slot c := by
  rw [State.flagCancelled, State.gather_modGather, if_pos rfl]
  rfl

theorem State.cancel_cancelsAt (s : State) (i : GatherNo) :
    State.CancelsAt i allBays (s.flagCancelled i) (s.cancel i) :=
  State.foldl_cancelSlot_cancelsAt i allBays _

theorem State.cancel_slot (s : State) (i : GatherNo) (c : BayNo) : ((s.cancel i).gather i).slot c =
    if ((s.gather i).slot c).stage = .queued then ((s.gather i).slot c).cancelled else (s.gather i).slot c := by
  have h := (s.cancel_cancelsAt i).slot c
  simp only [State.flagCancelled_slot, mem_allBays, true_and] at h
  exact h

/-- A queue that holds the index exactly when the slot is QUEUED holds it no more (R63, R64). -/
theorem State.cancel_bay {c : BayNo} (hqueue : i ∈ (s.bay c).queue ↔ ((s.gather i).slot c).stage = .queued) :
    (s.cancel i).bay c = (s.bay c).withoutGather i := by
  have h := (s.cancel_cancelsAt i).bay c
  simp only [State.flagCancelled_slot, mem_allBays, true_and] at h
  rw [h]
  split
  · rfl
  · rename_i hq
    have habsent : (s.bay c).queue.filter (· ≠ i) = (s.bay c).queue :=
      List.filter_eq_self.2 fun j hj => decide_eq_true fun hji => hq (hqueue.1 (hji ▸ hj))
    rw [Bay.withoutGather, habsent]
    rfl

/-- A cancelled gather stays OPEN exactly when a slot of it is SENT (R59, R80, R82). -/
theorem State.cancel_opened_iff (hs : s.gathersConsistent) (ho : (s.gather i).state = .opened) :
    ((s.cancel i).gather i).state = .opened ↔ ∃ b, ((s.gather i).slot b).stage = .sent := by
  have hcons := (State.cancel_forward (answered := True) hs ho).gathers
  obtain ⟨hopen, _⟩ := (Gather.consistent_iff _).1 (hcons i).1
  rw [hopen, Gather.hasOpenSlot_iff]
  refine exists_congr fun b => ?_
  rw [Slot.endable_iff, State.cancel_slot]
  by_cases hq : ((s.gather i).slot b).stage = .queued <;> simp [hq]

section
variable {index : Byte} {serial : BitVec 16}

theorem requestCancelGather_refused {status : Status} (h : s.named index serial = .error status) :
    requestCancelGather index serial s = s.answer (.cancelGather index serial) status [] := by
  rw [requestCancelGather, h]

theorem requestCancelGather_opened (h : s.named index serial = .ok i) (ho : (s.gather i).state = .opened) :
    requestCancelGather index serial s =
      (s.cancel i).answer (.cancelGather index serial) .ok [((s.cancel i).gather i).state.code] := by
  rw [requestCancelGather, h]
  dsimp only
  rw [if_pos ho]

theorem requestCancelGather_done (h : s.named index serial = .ok i) (hd : (s.gather i).state = .done) :
    requestCancelGather index serial s = s.answer (.cancelGather index serial) .ok [2] := by
  rw [requestCancelGather, h]
  dsimp only
  rw [if_neg (by simp [hd]), hd]
  rfl

end

/-- Settles O40: the refusals, a DONE gather left alone, and an OPEN one by what each bay of it loses. -/
theorem cancelGatherEndsItsQueuedSlots : Obligations.CancelGatherEndsItsQueuedSlots := by
  intro s index serial hclear
  have hexec : exec (.cancelGather index serial) s = .next (requestCancelGather index serial s) :=
    State.next_serve_of_clear hclear (.cancelGather index serial) (requestCancelGather index serial)
  refine ⟨fun hbad => ⟨_, hexec, ?_⟩, fun i hi habsent => ⟨_, hexec, ?_⟩, fun i hi hd hserial => ⟨_, hexec, ?_⟩,
    fun i hagrees hi ho hserial => ⟨_, hexec, ?_⟩⟩
  · rw [requestCancelGather_refused (State.named_bad hbad)]
    exact s.answer_repliedAs ..
  · rw [requestCancelGather_refused (State.named_absent hi habsent)]
    exact s.answer_repliedAs ..
  · rw [requestCancelGather_done (State.named_ok hi (by simp [hd]) hserial) hd]
    exact s.answer_repliedAs ..
  · rw [requestCancelGather_opened (State.named_ok hi (by simp [ho]) hserial) ho]
    have ends := s.cancel_cancelsAt i
    have forward := State.cancel_forward (answered := True) hagrees.gathers ho
    have hopened := State.cancel_opened_iff hagrees.gathers ho
    obtain ⟨hcancelled, haborted⟩ := ends.flags
    rw [State.flagCancelled, State.gather_modGather, if_pos rfl] at hcancelled haborted
    simp only [State.answer_gather, State.answer_bay, State.answer_cells, State.answer_notices]
    refine ⟨State.answer_repliesWith .., hcancelled, haborted, fun b hq => ?_,
      fun b hq => by rw [State.cancel_slot, if_neg hq], fun b => State.cancel_bay ((hagrees.bay b).queued i),
      fun j hj => ?_, ends.cells, ?_⟩
    · rw [State.cancel_slot, if_pos hq]
      exact ⟨rfl, rfl, rfl, rfl⟩
    · rw [ends.others j hj, State.flagCancelled, State.gather_modGather, if_neg hj.symm]
    · split
      · rename_i hsent
        have hflagged : ∃ d, (((s.flagCancelled i).gather i).slot d).stage = .sent := by
          simpa only [State.flagCancelled_slot] using hsent
        exact ⟨hopened.2 hsent, ends.notices hflagged⟩
      · rename_i hsent
        obtain ⟨hstate, hlast⟩ := ((forward.advances i).opened ho).resolve_left (mt hopened.1 hsent)
        refine ⟨hstate, hlast, ?_⟩
        have hraised := forward.raised i
        rw [decide_eq_true ⟨ho, hstate⟩, Bool.and_true, Bool.or_comm] at hraised
        rw [State.raisedFrom, State.answer_notices]
        exact hraised

end Sys2Proof.Machine
end

section
/-! SUPPORT. What a completion writes into its gather and its profile (R85, R109, R110), and the optional fields of a body at
their offsets (R181, R183, R184). -/

namespace Sys2Proof.Machine

/-! ### A completed slot in the summary and the statistics (R85, R109, R110) -/

@[simp] theorem Gather.closedAt_summary (g : Gather) (clock : Time) : (g.closedAt clock).summary = g.summary := by
  unfold Gather.closedAt
  split <;> rfl

@[simp] theorem Gather.closedAt_slot (g : Gather) (clock : Time) (b : BayNo) : (g.closedAt clock).slot b = g.slot b := by
  unfold Gather.closedAt
  split <;> rfl

@[simp] theorem Gather.closedAt_hasOpenSlot (g : Gather) (clock : Time) :
    (g.closedAt clock).hasOpenSlot = g.hasOpenSlot := by
  simp only [Gather.hasOpenSlot, Gather.closedAt_slot]

theorem Gather.closedAt_termsKept (g : Gather) (clock : Time) : (g.closedAt clock).termsKept g := by
  unfold Gather.closedAt
  split <;> exact Gather.termsKept_refl _

/-- A scaled value is compared with the extremes of its gather (R110). -/
theorem Gather.finalise_extremes (g : Gather) (b : BayNo) {x : Slot} {v : BitVec 32} (h : x.scaled = some v)
    (e : Ending) : (g.finalise b x e).summary.lowest = lowestOf g.summary.lowest b v ∧
      (g.finalise b x e).summary.highest = highestOf g.summary.highest b v := by
  unfold Gather.finalise Summary.extremes
  rw [h]
  dsimp only
  cases (g.slot b).stage <;> cases x.verdict <;> exact ⟨rfl, rfl⟩

/-- A scaled value is counted and compared with the extremes of its profile (R109). -/
theorem Profile.account_values (p : Profile) {x : Slot} {v : BitVec 32} (h : x.scaled = some v) :
    (p.account x).evaluated = satInc p.evaluated ∧ (p.account x).minimum = lowerOf p.minimum v ∧
      (p.account x).maximum = higherOf p.maximum v := by
  unfold Profile.account
  rw [h]
  dsimp only
  split <;> exact ⟨rfl, rfl, rfl⟩

theorem Profile.account_fails (p : Profile) (x : Slot) :
    (p.account x).fails = if x.verdict = .fail then satInc p.fails else p.fails := by
  unfold Profile.account
  cases x.scaled <;> dsimp only <;> split <;> rfl

/-- A profile's in-use count is no part of its definition (R90, R92). -/
theorem Profile.definitionKept_inUse {p q : Profile} (h : q.definitionKept p) (n : Nat) :
    ({ q with inUse := n } : Profile).definitionKept p := h

theorem lowerOf_some (m v : BitVec 32) : lowerOf (some m) v = some (if v.toInt < m.toInt then v else m) :=
  (apply_ite some ..).symm

theorem higherOf_some (m v : BitVec 32) : higherOf (some m) v = some (if m.toInt < v.toInt then v else m) :=
  (apply_ite some ..).symm

theorem lowestOf_some (m : Extreme) (b : BayNo) (v : BitVec 32) :
    lowestOf (some m) b v = some (if v.toInt < m.value.toInt then ⟨v, b⟩ else m) := (apply_ite some ..).symm

theorem highestOf_some (m : Extreme) (b : BayNo) (v : BitVec 32) :
    highestOf (some m) b v = some (if m.value.toInt < v.toInt then ⟨v, b⟩ else m) := (apply_ite some ..).symm

/-! ### Optional fields of a body (R181) -/

section
variable {body : List Byte} {offset size : Nat}

theorem bytesAt_bytesAt {k n : Nat} (h : k + n ≤ size) :
    bytesAt (bytesAt body offset size) k n = bytesAt body (offset + k) n := by
  rw [bytesAt, bytesAt, bytesAt, List.drop_take, List.take_take, List.drop_drop, Nat.min_eq_left (by omega)]

theorem numberAt_of_singleton {x : Byte} (h : bytesAt body offset 1 = [x]) : numberAt body offset 1 = x.toNat := by
  rw [numberAt, h]
  rfl

/-- A number too wide for its field is carried modulo what the field holds. -/
theorem numberAt_mod_of_leBytes {n : Nat} (h : bytesAt body offset size = leBytes size n) :
    numberAt body offset size = n % 256 ^ size := by
  rw [numberAt, h, readLE_leBytes]

/-- A field that may be absent holds its number, and 0 when it is absent. -/
theorem numberAt_of_putOption {w : Nat} {x : Option (BitVec w)} (h : bytesAt body offset size = putOption size x)
    (hw : 2 ^ w ≤ 256 ^ size) :
    (∀ v, x = some v → numberAt body offset size = v.toNat) ∧ (x = none → numberAt body offset size = 0) := by
  refine ⟨fun v hv => ?_, fun hx => ?_⟩
  · subst hv
    exact numberAt_of_put h hw
  · subst hx
    exact numberAt_of_leBytes h (Nat.pow_pos (by norm_num))

/-- The five numbers of current statistics, and ten zero bytes when they are absent (R183). -/
theorem numberAt_of_putStats {x : Option Stats} (h : bytesAt body offset 10 = putStats x) :
    (∀ y, x = some y → numberAt body offset 2 = y.n % 65536 ∧ numberAt body (offset + 2) 2 = y.mean % 65536 ∧
      numberAt body (offset + 4) 2 = y.rms % 65536 ∧ numberAt body (offset + 6) 2 = y.peak % 65536 ∧
      numberAt body (offset + 8) 2 = y.min % 65536) ∧ (x = none → numberAt body offset 10 = 0) := by
  refine ⟨fun y hy => ?_, fun hx => ?_⟩
  · subst hy
    have hfields : putStats (some y) =
        [leBytes 2 y.n, leBytes 2 y.mean, leBytes 2 y.rms, leBytes 2 y.peak, leBytes 2 y.min].flatten := by
      simp [putStats]
    have field : ∀ (k n : Nat), [leBytes 2 y.n, leBytes 2 y.mean, leBytes 2 y.rms, leBytes 2 y.peak,
        leBytes 2 y.min][k]? = some (leBytes 2 n) → 2 * k + 2 ≤ 10 →
        numberAt body (offset + 2 * k) 2 = n % 65536 := fun k n hk hle => by
      have hlt : k < 5 := by omega
      refine numberAt_mod_of_leBytes ?_
      rw [← bytesAt_bytesAt hle, h, hfields]
      refine bytesAt_field (sizes := [2, 2, 2, 2, 2]) (by simp) k ?_ ?_ hk
      all_goals interval_cases k <;> rfl
    exact ⟨field 0 _ rfl (by norm_num), field 1 _ rfl (by norm_num), field 2 _ rfl (by norm_num),
      field 3 _ rfl (by norm_num), field 4 _ rfl (by norm_num)⟩
  · subst hx
    rw [numberAt, h]
    rfl

end

end Sys2Proof.Machine
end

section
/-! PROOFS. The completion of a slot with an evaluated ending: the slot, the gather, the profile and the one record (R73 to R75,
R85, R109, R110), and the OUTCOME cell field by field (R184). -/

namespace Sys2Proof.Machine

variable {s : State} {b : BayNo} {i : GatherNo} {e : Ending} {a : Option Answer}

/-! ### What a completion makes of the gather and the profile -/

theorem State.completeEvaluated_gather (hopen : ((s.gather i).slot b).endable) (j : GatherNo) :
    (s.completeEvaluated b i e a).gather j =
      if i = j then ((s.gather i).finalise b (s.slotJudged b i e a) e).closedAt s.clock else s.gather j := by
  rw [State.completeEvaluated, if_pos hopen, State.finishEvaluated_gather, State.finalSlot_eq_slotJudged]

theorem State.completeEvaluated_profile (hopen : ((s.gather i).slot b).endable) (p : ProfileNo) :
    (s.completeEvaluated b i e a).profile p =
      if (s.gather i).profile = p then
        { (s.profile p).account (s.slotJudged b i e a) with
          inUse := if ((s.gather i).finalise b (s.slotJudged b i e a) e).hasOpenSlot then (s.profile p).inUse
            else (s.profile p).inUse - 1 }
      else s.profile p := by
  rw [State.completeEvaluated, if_pos hopen, State.finishEvaluated_profile]

/-! ### The OUTCOME cell (R136, R184) -/

section
variable {seq : BitVec 32} {g : Gather} {x : Slot} {time : Time}

/-- The fields of an OUTCOME cell in the order of R184, the common ones first. -/
def outcomeCellFields (b : BayNo) (seq : BitVec 32) (i : GatherNo) (g : Gather) (x : Slot) (time : Time) :
    List (List Byte) :=
  [[BitVec.ofNat 8 (b.val + 32 * RecordKind.outcome.code)], put 4 seq, put 6 time, put 2 g.serial,
    [BitVec.ofNat 8 i.val], [x.tag.getD 0], put 2 g.command, [endingCode x.ending ||| (x.verdict.code <<< 4)],
    [x.indicators], [x.presence], leBytes 4 (age time x.sendTime), leBytes 4 (age time x.answerTime), [x.status.getD 0],
    putOption 4 x.raw, putOption 4 x.scaled, putStats x.stats, [BitVec.ofNat 8 x.payload.length], padTo 48 x.payload]

/-- The sizes of the fields of an OUTCOME cell. -/
def outcomeCellSizes : List Nat := [1, 4, 6, 2, 1, 1, 2, 1, 1, 1, 4, 4, 1, 4, 4, 10, 1, 48]

theorem outcomeCellFields_sizes (h : x.payload.length ≤ 48) :
    (outcomeCellFields b seq i g x time).map List.length = outcomeCellSizes := by
  simp [outcomeCellFields, outcomeCellSizes, h]

theorem outcomeFields_length_eq (h : x.payload.length ≤ 48) : (outcomeFields i g x time).length = 85 := by
  simp [outcomeFields]
  omega

theorem outcomeCell_eq_flatten (h : x.payload.length ≤ 48) :
    recordCell .outcome b seq time (outcomeFields i g x time) = (outcomeCellFields b seq i g x time).flatten := by
  have hfull : 96 - ([BitVec.ofNat 8 (b.val + 32 * RecordKind.outcome.code)] ++ put 4 seq ++ put 6 time ++
      outcomeFields i g x time).length = 0 := by
    simp only [List.length_append, List.length_singleton, put_length, outcomeFields_length_eq h]
  rw [recordCell, padTo, hfull]
  simp [outcomeFields, outcomeCellFields]

/-- A field of an OUTCOME cell at its offset. -/
theorem outcomeCell_field (h : x.payload.length ≤ 48) (k : Nat) {offset size : Nat} {f : List Byte}
    (hoffset : (outcomeCellSizes.take k).sum = offset) (hsize : outcomeCellSizes[k]? = some size)
    (hf : (outcomeCellFields b seq i g x time)[k]? = some f) :
    bytesAt (recordCell .outcome b seq time (outcomeFields i g x time)) offset size = f := by
  rw [outcomeCell_eq_flatten h]
  exact bytesAt_field (outcomeCellFields_sizes h) k hoffset hsize hf

/-- The ending is the low half of its byte and the verdict the high one (R184). -/
theorem endingVerdict_toNat (ending : Option Ending) (v : Verdict) :
    (endingCode ending ||| (v.code <<< 4)).toNat = (endingCode ending).toNat + 16 * v.code.toNat := by
  rcases ending with _ | e
  · cases v <;> rfl
  · cases v <;> cases e <;> rfl

/-- An age is carried modulo 2^32 us, and 0 when its moment is absent (R184). -/
theorem numberAt_of_age {body : List Byte} {offset : Nat} {since : Option Time}
    (h : bytesAt body offset 4 = leBytes 4 (age time since)) :
    (∀ y, since = some y → numberAt body offset 4 = (time - y).toNat % 2 ^ 32) ∧
      (since = none → numberAt body offset 4 = 0) := by
  rw [numberAt_mod_of_leBytes h]
  refine ⟨fun y hy => ?_, fun hnone => ?_⟩
  · subst hy; rfl
  · subst hnone; rfl

end

/-- Settles O52: the completion by its rules for the gather and the profile, and the cell by its fields. -/
theorem aCompletionIsRecordedAndAccounted : Obligations.ACompletionIsRecordedAndAccounted := by
  refine ⟨fun s b i e answer hopen he => ?_, fun b seq i g x time hlen => ?_⟩
  · intro g t x was now
    have hx : x = s.slotJudged b i e answer :=
      (s.completeEvaluated_slot b b i i e answer).trans (if_pos ⟨hopen, rfl, rfl⟩)
    have hgather : t.gather i = (g.finalise b x e).closedAt s.clock := by
      rw [hx]
      exact (State.completeEvaluated_gather hopen i).trans (if_pos rfl)
    have hprofile := State.completeEvaluated_profile (e := e) (a := answer) hopen g.profile
    have hnow : now = { was.account x with
        inUse := if (g.finalise b x e).hasOpenSlot then was.inUse else was.inUse - 1 } := by
      rw [hx]
      exact hprofile.trans (if_pos rfl)
    have hrecords := s.completeEvaluated_recordsAre b i e answer hopen
    rw [← hx] at hrecords
    have counts := g.finalise_summary b x e
    have hsummary : (t.gather i).summary = (g.finalise b x e).summary := by rw [hgather, Gather.closedAt_summary]
    rw [hsummary, hnow]
    refine ⟨hx, ?_, ?_, ?_, ?_, fun q hq => ?_, fun j hj => ?_,
      Profile.definitionKept_inUse (was.account_definitionKept x) _, ?_, was.account_fails x,
      fun hnone => ?_, fun v hv => ?_, counts.endings, fun hq => ?_, fun hs => ?_, fun d => ?_, fun d => ?_,
      State.cells_of_recordsAre_one hrecords, hrecords⟩
    · rw [hx]; rfl
    · rw [hx]; rfl
    · rw [hx]; exact verdictOf_ne_none _ _
    · rw [hgather]
      exact (g.finalise_termsKept b x e).trans (Gather.closedAt_termsKept _ _)
    · exact (State.completeEvaluated_profile hopen q).trans (if_neg hq.symm)
    · exact State.completeEvaluated_gather_ne hj.symm e answer
    · rw [hgather, Gather.closedAt_hasOpenSlot]
    · obtain ⟨hlow, hhigh⟩ := g.finalise_extremesKept b hnone e
      obtain ⟨hevaluated, hmin, hmax⟩ := was.account_valuesKept hnone
      exact ⟨hevaluated, hmin, hmax, hlow, hhigh⟩
    · obtain ⟨hlow, hhigh⟩ := g.finalise_extremes b hv e
      obtain ⟨hevaluated, hmin, hmax⟩ := was.account_values hv
      refine ⟨hevaluated, hmin.trans ?_, hmax.trans ?_, hlow.trans ?_, hhigh.trans ?_⟩
      · cases was.minimum with
        | none => rfl
        | some m => exact lowerOf_some m v
      · cases was.maximum with
        | none => rfl
        | some m => exact higherOf_some m v
      · cases g.summary.lowest with
        | none => rfl
        | some m => exact lowestOf_some m b v
      · cases g.summary.highest with
        | none => rfl
        | some m => exact highestOf_some m b v
    · exact ⟨by simp [counts.queued, hq], by simp [counts.sent, hq]⟩
    · exact ⟨by simp [counts.queued, hs], by simp [counts.sent, hs]⟩
    · refine (counts.passSet d).trans ?_
      rw [Bool.and_comm, BEq.comm (a := b)]
      rfl
    · refine (counts.failSet d).trans ?_
      rw [Bool.and_comm, BEq.comm (a := b)]
      rfl
  · intro cell
    have field := fun k {offset size f} => outcomeCell_field (b := b) (seq := seq) (i := i) (g := g) (time := time) hlen k
      (offset := offset) (size := size) (f := f)
    have wide : 2 ^ 16 ≤ 256 ^ 2 := by norm_num
    obtain ⟨hsent, hunsent⟩ := numberAt_of_age (field 10 rfl rfl rfl)
    obtain ⟨hanswered, hunanswered⟩ := numberAt_of_age (field 11 rfl rfl rfl)
    obtain ⟨hraw, hnoraw⟩ := numberAt_of_putOption (field 13 rfl rfl rfl) (by norm_num)
    obtain ⟨hscaled, hnoscaled⟩ := numberAt_of_putOption (field 14 rfl rfl rfl) (by norm_num)
    obtain ⟨hstats, hnostats⟩ := numberAt_of_putStats (field 15 rfl rfl rfl)
    exact ⟨outcomeFields_length_eq hlen, numberAt_of_put (field 3 rfl rfl rfl) wide,
      numberAt_of_byte (field 4 rfl rfl rfl) (by omega), getElem?_of_bytesAt (field 5 rfl rfl rfl),
      numberAt_of_put (field 6 rfl rfl rfl) wide,
      (numberAt_of_singleton (field 7 rfl rfl rfl)).trans (endingVerdict_toNat _ _),
      getElem?_of_bytesAt (field 8 rfl rfl rfl), getElem?_of_bytesAt (field 9 rfl rfl rfl), hsent, hunsent, hanswered,
      hunanswered, getElem?_of_bytesAt (field 12 rfl rfl rfl), hraw, hnoraw, hscaled, hnoscaled, hstats, hnostats,
      numberAt_of_byte (field 16 rfl rfl rfl) (by omega), field 17 rfl rfl rfl⟩

end Sys2Proof.Machine
end

section
/-! PROOFS. GATHER_STATUS and GATHER_SLOT: the gather summary and the slot detail as lists of fields, and each field at its
offset (R60, R86, R87, R181, R183). -/

namespace Sys2Proof.Machine

variable {s : State} {i : GatherNo} {b : BayNo}

/-! ### Bits, counts and extremes in a body (R181) -/

theorem bitWhen_le (p : Bool) (n : Nat) : bitWhen p n ≤ 2 ^ n := by
  unfold bitWhen
  split <;> simp

/-- The eight presence bits of a slot fill one byte. -/
theorem Slot.presence_toNat (x : Slot) : x.presence.toNat =
    bitWhen x.sendTime.isSome 0 + bitWhen x.answerTime.isSome 1 + bitWhen x.status.isSome 2 + bitWhen x.raw.isSome 3 +
      bitWhen x.scaled.isSome 4 + bitWhen x.stats.isSome 5 + bitWhen (x.stats.any (·.sat)) 6 +
      bitWhen (x.stats.any (·.clamp)) 7 := by
  rw [Slot.presence, BitVec.toNat_ofNat, Nat.mod_eq_of_lt]
  have h0 := bitWhen_le x.sendTime.isSome 0
  have h1 := bitWhen_le x.answerTime.isSome 1
  have h2 := bitWhen_le x.status.isSome 2
  have h3 := bitWhen_le x.raw.isSome 3
  have h4 := bitWhen_le x.scaled.isSome 4
  have h5 := bitWhen_le x.stats.isSome 5
  have h6 := bitWhen_le (x.stats.any (·.sat)) 6
  have h7 := bitWhen_le (x.stats.any (·.clamp)) 7
  omega

/-- A count of bays fits a byte. -/
theorem countBays_lt (p : BayNo → Bool) : countBays p < 256 :=
  List.countP_le_length.trans_lt (show allBays.length < 256 by decide)

/-- An extreme as a summary carries it: the value and its bay, five zero bytes when it is absent (R183). -/
def putExtreme (m : Option Extreme) : List Byte :=
  putOption 4 (m.map (·.value)) ++ [BitVec.ofNat 8 ((m.map (·.bay.val)).getD 0)]

theorem putExtreme_length (m : Option Extreme) : (putExtreme m).length = 5 := by simp [putExtreme]

section
variable {body : List Byte} {offset : Nat}

theorem numberAt_of_putExtreme {m : Option Extreme} (h : bytesAt body offset 5 = putExtreme m) :
    (m = none → bytesAt body offset 5 = [0, 0, 0, 0, 0]) ∧
      (∀ x, m = some x → numberAt body offset 4 = x.value.toNat ∧ numberAt body (offset + 4) 1 = x.bay.val) := by
  refine ⟨fun hm => ?_, fun x hx => ?_⟩
  · rw [h, hm]
    rfl
  · subst hx
    have hvalue : bytesAt body (offset + 0) 4 = put 4 x.value := by
      rw [← bytesAt_bytesAt (size := 5) (by norm_num), h]
      rfl
    have hbay : bytesAt body (offset + 4) 1 = [BitVec.ofNat 8 x.bay.val] := by
      rw [← bytesAt_bytesAt (size := 5) (by norm_num), h]
      rfl
    exact ⟨numberAt_of_put hvalue (by norm_num), numberAt_of_byte hbay (by omega)⟩

/-- A field that reaches the end of a body is what is left there, however much more is asked for. -/
theorem bytesAt_of_end {m n : Nat} (hm : body.length ≤ offset + m) (hn : body.length ≤ offset + n) :
    bytesAt body offset m = bytesAt body offset n := by
  rw [bytesAt, bytesAt, List.take_of_length_le (by rw [List.length_drop]; omega),
    List.take_of_length_le (by rw [List.length_drop]; omega)]

end

theorem ofNat_gatherOf {n : Byte} (h : gatherOf n = some i) : BitVec.ofNat 8 i.val = n := by
  rw [← gatherOf_eq_some.1 h, BitVec.ofNat_toNat, BitVec.setWidth_eq]

/-! ### The gather summary (R86, R183) -/

/-- The presence bits of a gather summary (R181). -/
def Gather.presenceBits (g : Gather) : Nat :=
  bitWhen g.summary.lowest.isSome 0 + bitWhen g.summary.highest.isSome 1 + bitWhen g.firstSend.isSome 2 +
    bitWhen g.lastFinal.isSome 3

theorem Gather.presenceBits_lt (g : Gather) : g.presenceBits < 256 := by
  have h0 := bitWhen_le g.summary.lowest.isSome 0
  have h1 := bitWhen_le g.summary.highest.isSome 1
  have h2 := bitWhen_le g.firstSend.isSome 2
  have h3 := bitWhen_le g.lastFinal.isSome 3
  unfold Gather.presenceBits
  omega

theorem Gather.optionBits_lt (g : Gather) :
    bitWhen g.measure 0 + bitWhen g.benchOnFail 1 + bitWhen g.expectRestart 2 < 256 := by
  have h0 := bitWhen_le g.measure 0
  have h1 := bitWhen_le g.benchOnFail 1
  have h2 := bitWhen_le g.expectRestart 2
  omega

theorem Gather.flagBits_lt (g : Gather) : bitWhen g.cancelled 0 + bitWhen g.aborted 1 < 256 := by
  have h0 := bitWhen_le g.cancelled 0
  have h1 := bitWhen_le g.aborted 1
  omega

/-- The fields of a gather summary in the order of R183. -/
def gatherSummaryFields (i : GatherNo) (g : Gather) : List (List Byte) :=
  [[BitVec.ofNat 8 i.val], put 2 g.serial, [g.state.code], [g.flagsByte], put 3 g.bays, put 2 g.command,
    [BitVec.ofNat 8 g.profile.val], [g.failMask], put 2 g.timeoutMs, [g.optionsByte], put 6 g.armTime,
    [BitVec.ofNat 8 g.summary.endings.answered], [BitVec.ofNat 8 g.summary.endings.timedOut],
    [BitVec.ofNat 8 g.summary.endings.lost], [BitVec.ofNat 8 g.summary.endings.unreached],
    [BitVec.ofNat 8 g.summary.endings.skipped], [BitVec.ofNat 8 g.summary.endings.cancelled],
    [BitVec.ofNat 8 g.summary.queued], [BitVec.ofNat 8 g.summary.sent], put 3 g.summary.passSet,
    [BitVec.ofNat 8 g.summary.passCount], put 3 g.summary.failSet, [BitVec.ofNat 8 g.summary.failCount],
    [BitVec.ofNat 8 g.presenceBits], putExtreme g.summary.lowest, putExtreme g.summary.highest, putOption 6 g.firstSend,
    putOption 6 g.lastFinal]

/-- The sizes of the fields of a gather summary. -/
def gatherSummarySizes : List Nat :=
  [1, 2, 1, 1, 3, 2, 1, 1, 2, 1, 6, 1, 1, 1, 1, 1, 1, 1, 1, 3, 1, 3, 1, 1, 5, 5, 6, 6]

theorem gatherSummaryBody_eq_flatten (i : GatherNo) (g : Gather) :
    gatherSummaryBody i g = (gatherSummaryFields i g).flatten := by
  unfold gatherSummaryBody gatherSummaryFields Gather.presenceBits putExtreme
  dsimp only
  simp

theorem gatherSummaryFields_sizes (i : GatherNo) (g : Gather) :
    (gatherSummaryFields i g).map List.length = gatherSummarySizes := by
  simp [gatherSummaryFields, gatherSummarySizes, putExtreme_length]

theorem gatherSummaryBody_length (i : GatherNo) (g : Gather) : (gatherSummaryBody i g).length = 60 := by
  rw [gatherSummaryBody_eq_flatten, List.length_flatten, gatherSummaryFields_sizes]
  rfl

/-- A field of a gather summary at its offset. -/
theorem gatherSummaryBody_field {g : Gather} (k : Nat) {offset size : Nat} {f : List Byte}
    (hoffset : (gatherSummarySizes.take k).sum = offset) (hsize : gatherSummarySizes[k]? = some size)
    (hf : (gatherSummaryFields i g)[k]? = some f) : bytesAt (gatherSummaryBody i g) offset size = f := by
  rw [gatherSummaryBody_eq_flatten]
  exact bytesAt_field (gatherSummaryFields_sizes i g) k hoffset hsize hf

/-! ### The slot detail (R87, R183) -/

section
variable {serial : BitVec 16} {x : Slot}

/-- The fields of a slot detail in the order of R183. -/
def slotFields (i : GatherNo) (serial : BitVec 16) (b : BayNo) (x : Slot) : List (List Byte) :=
  [[BitVec.ofNat 8 i.val], put 2 serial, [BitVec.ofNat 8 b.val], [x.stage.code], [endingCode x.ending], [x.verdict.code],
    [x.indicators], [x.presence], [x.tag.getD 0], putOption 6 x.sendTime, putOption 6 x.answerTime, [x.status.getD 0],
    putOption 4 x.raw, putOption 4 x.scaled, putStats x.stats, [BitVec.ofNat 8 x.payload.length], x.payload]

/-- The sizes of the fields of a slot detail before its payload. -/
def slotHeadSizes : List Nat := [1, 2, 1, 1, 1, 1, 1, 1, 1, 6, 6, 1, 4, 4, 10, 1]

theorem slotBody_eq_flatten : slotBody i serial b x = (slotFields i serial b x).flatten := by
  simp [slotBody, slotFields]

theorem slotFields_sizes : (slotFields i serial b x).map List.length = slotHeadSizes ++ [x.payload.length] := by
  simp [slotFields, slotHeadSizes]

theorem slotBody_length : (slotBody i serial b x).length = 42 + x.payload.length := by
  rw [slotBody_eq_flatten, List.length_flatten, slotFields_sizes, List.sum_append, List.sum_singleton]
  rfl

/-- A field of a slot detail before its payload at its offset. -/
theorem slotBody_field (k : Nat) {offset size : Nat} {f : List Byte} (hoffset : (slotHeadSizes.take k).sum = offset)
    (hsize : slotHeadSizes[k]? = some size) (hf : (slotFields i serial b x)[k]? = some f) :
    bytesAt (slotBody i serial b x) offset size = f := by
  obtain ⟨hk, _⟩ := List.getElem?_eq_some_iff.1 hsize
  rw [slotBody_eq_flatten]
  refine bytesAt_field slotFields_sizes k ?_ ?_ hf
  · rw [List.take_append_of_le_length hk.le, hoffset]
  · rw [List.getElem?_append_left hk, hsize]

theorem slotBody_payload (h : x.payload.length ≤ 48) : bytesAt (slotBody i serial b x) 42 48 = x.payload := by
  rw [bytesAt_of_end (n := x.payload.length) (by rw [slotBody_length]; omega) slotBody_length.le]
  rw [slotBody_eq_flatten]
  exact bytesAt_field slotFields_sizes 16 (by simp [slotHeadSizes]) rfl rfl

end

/-! ### The requests (R86, R87) -/

section
variable {index bay : Byte} {serial : BitVec 16} {status : Status}

theorem requestGatherStatus_refused (h : s.named index serial = .error status) :
    requestGatherStatus index serial s = s.answer (.gatherStatus index serial) status [] := by
  rw [requestGatherStatus, h]

theorem requestGatherStatus_ok (h : s.named index serial = .ok i) : requestGatherStatus index serial s =
    s.answer (.gatherStatus index serial) .ok (gatherSummaryBody i (s.gather i)) := by
  rw [requestGatherStatus, h]

theorem requestGatherSlot_bad (h : bayOf bay = none) :
    requestGatherSlot index serial bay s = s.answer (.gatherSlot index serial bay) .badParam [] := by
  rw [requestGatherSlot, h]

theorem requestGatherSlot_refused (hb : bayOf bay = some b) (h : s.named index serial = .error status) :
    requestGatherSlot index serial bay s = s.answer (.gatherSlot index serial bay) status [] := by
  rw [requestGatherSlot, hb]
  dsimp only
  rw [h]

theorem requestGatherSlot_ok (hb : bayOf bay = some b) (h : s.named index serial = .ok i) :
    requestGatherSlot index serial bay s =
      s.answer (.gatherSlot index serial bay) .ok (slotBody i serial b ((s.gather i).slot b)) := by
  rw [requestGatherSlot, hb]
  dsimp only
  rw [h]

end

/-- Settles O11: the refusals in their order, and each field of the two bodies at its offset. -/
theorem gatherReadsReportTheGather : Obligations.GatherReadsReportTheGather := by
  intro s index bay serial hclear
  have hstatus : exec (.gatherStatus index serial) s = .next (requestGatherStatus index serial s) :=
    State.next_serve_of_clear hclear (.gatherStatus index serial) (requestGatherStatus index serial)
  have hslot : exec (.gatherSlot index serial bay) s = .next (requestGatherSlot index serial bay s) :=
    State.next_serve_of_clear hclear (.gatherSlot index serial bay) (requestGatherSlot index serial bay)
  have wide : 2 ^ 16 ≤ 256 ^ 2 := by norm_num
  have wide3 : 2 ^ 24 ≤ 256 ^ 3 := by norm_num
  have wide6 : 2 ^ 48 ≤ 256 ^ 6 := by norm_num
  refine ⟨fun hbad => ⟨_, hstatus, ?_⟩, fun hbad => ⟨_, hslot, ?_⟩, fun i hi habsent => ⟨⟨_, hstatus, ?_⟩, fun hbay =>
    ⟨_, hslot, ?_⟩⟩, fun i hi hstate hserial hsummary => ?_, fun i b hi hb hstate hserial hlen => ?_,
    Slot.presence_toNat, by decide, by decide, by decide, by decide⟩
  · rw [requestGatherStatus_refused (State.named_bad hbad)]
    exact s.answer_repliedAs ..
  · cases hb : bayOf bay with
    | none =>
      rw [requestGatherSlot_bad hb]
      exact s.answer_repliedAs ..
    | some b =>
      have hindex : 15 < index.toNat := hbad.resolve_right fun h => by simp [bayOf_eq_none.2 h] at hb
      rw [requestGatherSlot_refused hb (State.named_bad hindex)]
      exact s.answer_repliedAs ..
  · rw [requestGatherStatus_refused (State.named_absent hi habsent)]
    exact s.answer_repliedAs ..
  · rw [requestGatherSlot_refused (bayOf_of_lt (by omega)) (State.named_absent hi habsent)]
    exact s.answer_repliedAs ..
  · have field := fun k {offset size f} => gatherSummaryBody_field (i := i) (g := s.gather i) k (offset := offset)
      (size := size) (f := f)
    have counts := (s.gather i).summaryConsistent_iff.1 hsummary
    have ending : ∀ e, (s.gather i).summary.endings.of e < 256 := fun e => by
      rw [counts.endings]
      exact countBays_lt _
    obtain ⟨hnolow, hlow⟩ := numberAt_of_putExtreme (field 24 rfl rfl rfl)
    obtain ⟨hnohigh, hhigh⟩ := numberAt_of_putExtreme (field 25 rfl rfl rfl)
    obtain ⟨hfirst, hnofirst⟩ := numberAt_of_putOption (field 26 rfl rfl rfl) wide6
    obtain ⟨hlast, hnolast⟩ := numberAt_of_putOption (field 27 rfl rfl rfl) wide6
    refine ⟨_, gatherSummaryBody i (s.gather i), hstatus, ?_, gatherSummaryBody_length _ _, ?_, ?_,
      getElem?_of_bytesAt (field 2 rfl rfl rfl), numberAt_of_byte (field 3 rfl rfl rfl) (s.gather i).flagBits_lt,
      numberAt_of_put (field 4 rfl rfl rfl) wide3, numberAt_of_put (field 5 rfl rfl rfl) wide,
      numberAt_of_byte (field 6 rfl rfl rfl) (by omega), getElem?_of_bytesAt (field 7 rfl rfl rfl),
      numberAt_of_put (field 8 rfl rfl rfl) wide, numberAt_of_byte (field 9 rfl rfl rfl) (s.gather i).optionBits_lt,
      numberAt_of_put (field 10 rfl rfl rfl) wide6, numberAt_of_byte (field 11 rfl rfl rfl) (ending .answered),
      numberAt_of_byte (field 12 rfl rfl rfl) (ending .timedOut), numberAt_of_byte (field 13 rfl rfl rfl) (ending .lost),
      numberAt_of_byte (field 14 rfl rfl rfl) (ending .unreached),
      numberAt_of_byte (field 15 rfl rfl rfl) (ending .skipped),
      numberAt_of_byte (field 16 rfl rfl rfl) (ending .cancelled),
      numberAt_of_byte (field 17 rfl rfl rfl) (counts.queued.trans_lt (countBays_lt _)),
      numberAt_of_byte (field 18 rfl rfl rfl) (counts.sent.trans_lt (countBays_lt _)),
      numberAt_of_put (field 19 rfl rfl rfl) wide3,
      numberAt_of_byte (field 20 rfl rfl rfl) (counts.passCount.trans_lt (countBays_lt _)),
      numberAt_of_put (field 21 rfl rfl rfl) wide3,
      numberAt_of_byte (field 22 rfl rfl rfl) (counts.failCount.trans_lt (countBays_lt _)),
      numberAt_of_byte (field 23 rfl rfl rfl) (s.gather i).presenceBits_lt, hnolow, hnohigh, hnofirst, hnolast, hlow,
      hhigh, hfirst, hlast⟩
    · rw [requestGatherStatus_ok (State.named_ok hi hstate hserial)]
      exact s.answer_repliedAs ..
    · rw [← ofNat_gatherOf hi]
      exact getElem?_of_bytesAt (field 0 rfl rfl rfl)
    · rw [← hserial]
      exact numberAt_of_put (field 1 rfl rfl rfl) wide
  · have field := fun k {offset size f} => slotBody_field (i := i) (serial := serial) (b := b)
      (x := (s.gather i).slot b) k (offset := offset) (size := size) (f := f)
    have wide4 : 2 ^ 32 ≤ 256 ^ 4 := by norm_num
    obtain ⟨hsent, hunsent⟩ := numberAt_of_putOption (field 9 rfl rfl rfl) wide6
    obtain ⟨hanswered, hunanswered⟩ := numberAt_of_putOption (field 10 rfl rfl rfl) wide6
    obtain ⟨hraw, hnoraw⟩ := numberAt_of_putOption (field 12 rfl rfl rfl) wide4
    obtain ⟨hscaled, hnoscaled⟩ := numberAt_of_putOption (field 13 rfl rfl rfl) wide4
    obtain ⟨hstats, hnostats⟩ := numberAt_of_putStats (field 14 rfl rfl rfl)
    refine ⟨_, slotBody i serial b ((s.gather i).slot b), hslot, ?_, slotBody_length, ?_,
      numberAt_of_put (field 1 rfl rfl rfl) wide, ?_, getElem?_of_bytesAt (field 3 rfl rfl rfl),
      getElem?_of_bytesAt (field 4 rfl rfl rfl), getElem?_of_bytesAt (field 5 rfl rfl rfl),
      getElem?_of_bytesAt (field 6 rfl rfl rfl), getElem?_of_bytesAt (field 7 rfl rfl rfl),
      getElem?_of_bytesAt (field 8 rfl rfl rfl), hsent, hunsent, hanswered, hunanswered,
      getElem?_of_bytesAt (field 11 rfl rfl rfl), hraw, hnoraw, hscaled, hnoscaled, hstats, hnostats,
      numberAt_of_byte (field 15 rfl rfl rfl) (by omega), slotBody_payload hlen⟩
    · rw [requestGatherSlot_ok hb (State.named_ok hi hstate hserial)]
      exact s.answer_repliedAs ..
    · rw [← ofNat_gatherOf hi]
      exact getElem?_of_bytesAt (field 0 rfl rfl rfl)
    · rw [← ofNat_bayOf hb]
      exact getElem?_of_bytesAt (field 2 rfl rfl rfl)

end Sys2Proof.Machine
end

section
/-! SUPPORT. The request buffer of a consistent port: taking, answering, delivering and discarding entries keep their order,
and what the receiver does keeps a frame in assembly while the pipe accepts data alone (R170, R174, R178). -/

namespace Sys2Proof.Machine

/-! ### The order of the request buffer (R170) -/

theorem bufferOrdered_cons_replying {e : Entry} {frame : List Byte} (h : e.phase = .replying frame) (es : List Entry) :
    bufferOrdered (e :: es) = bufferOrdered es := by
  simp only [bufferOrdered, h]

/-- After an entry without its reply every entry waits. -/
theorem bufferOrdered_cons_unanswered {e : Entry} (h : ∀ frame, e.phase ≠ .replying frame) {es : List Entry} :
    bufferOrdered (e :: es) ↔ ∀ x ∈ es, x.phase = .waiting := by
  cases hp : e.phase with
  | replying frame => exact absurd hp (h frame)
  | waiting => simp [bufferOrdered, hp]
  | inHand discard => simp [bufferOrdered, hp]

theorem bufferOrdered_of_waiting : ∀ {es : List Entry}, (∀ x ∈ es, x.phase = .waiting) → bufferOrdered es
  | [], _ => rfl
  | e :: es, h => by
    have he : e.phase = .waiting := h e (by simp)
    exact (bufferOrdered_cons_unanswered (by simp [he])).2 fun x hx => h x (by simp [hx])

/-- The entries after the first of an ordered buffer are ordered. -/
theorem bufferOrdered_tail {e : Entry} {es : List Entry} (h : bufferOrdered (e :: es)) : bufferOrdered es := by
  by_cases hp : ∃ frame, e.phase = .replying frame
  · obtain ⟨frame, hp⟩ := hp
    rwa [bufferOrdered_cons_replying hp] at h
  · exact bufferOrdered_of_waiting ((bufferOrdered_cons_unanswered fun frame hf => hp ⟨frame, hf⟩).1 h)

/-- A request that joins waits behind the others (R174). -/
theorem bufferOrdered_append {n : Entry} (hn : n.phase = .waiting) :
    ∀ {es : List Entry}, bufferOrdered es → bufferOrdered (es ++ [n])
  | [], _ => bufferOrdered_of_waiting (by simpa using hn)
  | e :: es, h => by
    by_cases hp : ∃ frame, e.phase = .replying frame
    · obtain ⟨frame, hp⟩ := hp
      rw [List.cons_append, bufferOrdered_cons_replying hp]
      exact bufferOrdered_append hn (bufferOrdered_tail h)
    · have unanswered : ∀ frame, e.phase ≠ .replying frame := fun frame hf => hp ⟨frame, hf⟩
      rw [List.cons_append, bufferOrdered_cons_unanswered unanswered]
      have waits := (bufferOrdered_cons_unanswered unanswered).1 h
      simpa [or_imp, forall_and, hn] using waits

@[simp] theorem takeWaiting_length (flags : ReplyFlags) : ∀ es : List Entry, (takeWaiting flags es).length = es.length
  | [] => rfl
  | e :: es => by
    have ih := takeWaiting_length flags es
    cases hp : e.phase with
    | replying frame => simp [takeWaiting, hp, ih]
    | inHand discard => simp [takeWaiting, hp]
    | waiting =>
      simp only [takeWaiting, hp]
      split <;> simp [ih]

/-- The port takes WAITING entries in their order (R175). -/
theorem takeWaiting_ordered (flags : ReplyFlags) :
    ∀ {es : List Entry}, bufferOrdered es → bufferOrdered (takeWaiting flags es)
  | [], _ => rfl
  | e :: es, h => by
    have rest := takeWaiting_ordered flags (bufferOrdered_tail h)
    cases hp : e.phase with
    | replying frame => simpa only [takeWaiting, hp, bufferOrdered_cons_replying hp] using rest
    | inHand discard => rwa [takeWaiting_inHand flags e es discard hp]
    | waiting =>
      simp only [takeWaiting, hp]
      split
      · exact rest
      · exact rest
      · have waits := (bufferOrdered_cons_unanswered (by simp [hp])).1 h
        exact (bufferOrdered_cons_unanswered (by simp)).2 waits

theorem finishInHand_length (r : Reply) : ∀ es : List Entry, (finishInHand r es).length ≤ es.length
  | [] => Nat.le_refl _
  | e :: es => by
    have ih := finishInHand_length r es
    cases hp : e.phase with
    | replying frame => simpa [finishInHand, hp] using ih
    | waiting => simpa [finishInHand, hp] using ih
    | inHand discard => cases discard <;> simp [finishInHand, hp]

theorem finishInHand_of_waiting (r : Reply) :
    ∀ {es : List Entry}, (∀ x ∈ es, x.phase = .waiting) → finishInHand r es = es
  | [], _ => rfl
  | e :: es, h => by
    have he : e.phase = .waiting := h e (by simp)
    simp only [finishInHand, he, finishInHand_of_waiting r fun x hx => h x (List.mem_cons_of_mem e hx)]

/-- The entry IN_HAND becomes REPLYING or leaves, where it stands (R176, R178). -/
theorem finishInHand_ordered (r : Reply) : ∀ {es : List Entry}, bufferOrdered es → bufferOrdered (finishInHand r es)
  | [], _ => rfl
  | e :: es, h => by
    cases hp : e.phase with
    | replying frame =>
      simpa only [finishInHand, hp, bufferOrdered_cons_replying hp] using finishInHand_ordered r (bufferOrdered_tail h)
    | waiting =>
      have waits := (bufferOrdered_cons_unanswered (by simp [hp])).1 h
      simpa only [finishInHand, hp, finishInHand_of_waiting r waits] using h
    | inHand discard =>
      cases discard with
      | false =>
        simp only [finishInHand, hp]
        rw [bufferOrdered_cons_replying rfl]
        exact bufferOrdered_tail h
      | true => simpa only [finishInHand, hp] using bufferOrdered_tail h

/-- The oldest entry leaves, or none does (R177). -/
theorem deliverOldest_cases (es : List Entry) : deliverOldest es = es ∨ ∃ e, es = e :: deliverOldest es := by
  cases es with
  | nil => exact .inl rfl
  | cons e es => cases hp : e.phase <;> simp [deliverOldest, hp]

/-- At a detach WAITING entries leave (R178). -/
theorem filterMap_atDetach_of_waiting {es : List Entry} (h : ∀ x ∈ es, x.phase = .waiting) :
    es.filterMap Entry.atDetach = [] :=
  List.filterMap_eq_nil_iff.2 fun x hx => by simp [Entry.atDetach, h x hx]

/-- At most the entry IN_HAND stays at a detach (R178). -/
theorem filterMap_atDetach_ordered : ∀ {es : List Entry}, bufferOrdered es → bufferOrdered (es.filterMap Entry.atDetach)
  | [], _ => rfl
  | e :: es, h => by
    cases hp : e.phase with
    | replying frame =>
      rw [List.filterMap_cons_none (by simp [Entry.atDetach, hp])]
      exact filterMap_atDetach_ordered (bufferOrdered_tail h)
    | waiting =>
      have waits := (bufferOrdered_cons_unanswered (by simp [hp])).1 h
      rw [List.filterMap_cons_none (by simp [Entry.atDetach, hp]), filterMap_atDetach_of_waiting waits]
      rfl
    | inHand discard =>
      have waits := (bufferOrdered_cons_unanswered (by simp [hp])).1 h
      rw [List.filterMap_cons, filterMap_atDetach_of_waiting waits]
      simp [Entry.atDetach, hp, bufferOrdered]

/-! ### The port (R170, R174) -/

theorem Port.consistent_iff (p : Port) : p.consistent ↔ p.buffer.length ≤ 4 ∧ bufferOrdered p.buffer ∧
    (p.receiver = .disabled ↔ p.attached = false) ∧ (p.assembling → p.accepting) := by
  simp only [Port.consistent, Bool.and_eq_true, decide_eq_true_eq, beq_iff_eq, Bool.or_eq_true, Bool.not_eq_true',
    and_assoc]
  refine and_congr_right fun _ => and_congr_right fun _ => and_congr ?_ ?_
  · rw [Bool.eq_iff_iff]; simp
  · cases p.assembling <;> simp

theorem Port.accepting_iff (p : Port) : p.accepting ↔ p.attached = true ∧ p.buffer.length < 4 := by
  simp [Port.accepting]

/-- Entries that change in their order, and are no more than before. -/
theorem Port.withBuffer_consistent {p : Port} (h : p.consistent) {es : List Entry} (hlen : es.length ≤ p.buffer.length)
    (hes : bufferOrdered es) : ({ p with buffer := es } : Port).consistent := by
  obtain ⟨hfour, -, hreceiver, hframe⟩ := p.consistent_iff.1 h
  refine (Port.consistent_iff _).2 ⟨hlen.trans hfour, hes, hreceiver, fun ha => ?_⟩
  obtain ⟨hattached, hroom⟩ := p.accepting_iff.1 (hframe ha)
  exact (Port.accepting_iff _).2 ⟨hattached, hlen.trans_lt hroom⟩

/-- A port whose receiver hunts and whose function is attached has no frame in assembly. -/
theorem Port.consistent_of_hunting {p : Port} (hlen : p.buffer.length ≤ 4) (hes : bufferOrdered p.buffer)
    (hattached : p.attached = true) (hreceiver : p.receiver = .hunting) : p.consistent :=
  p.consistent_iff.2 ⟨hlen, hes, by simp [hreceiver, hattached], by simp [Port.assembling, hreceiver]⟩

theorem Port.discard_consistent {p : Port} (h : p.consistent) (hattached : p.attached = true) : p.discard.consistent := by
  obtain ⟨hfour, hes, -⟩ := p.consistent_iff.1 h
  exact Port.consistent_of_hunting hfour hes hattached rfl

/-- A frame that is accepted finds room in the buffer (R174). -/
theorem Port.accept_consistent {p : Port} (h : p.consistent) (hp : p.accepting) (f : RequestFrame) :
    (p.accept f).consistent := by
  obtain ⟨-, hes, -⟩ := p.consistent_iff.1 h
  obtain ⟨hattached, hroom⟩ := p.accepting_iff.1 hp
  refine Port.consistent_of_hunting ?_ (bufferOrdered_append rfl hes) hattached rfl
  simpa [Port.accept, Port.hunt] using hroom

/-- A frame in assembly that the bytes can be stands at a pipe that accepts data. -/
theorem Port.accepting_of_fits {p : Port} {bytes : List Byte} (h : p.fits bytes) : p.accepting := by
  unfold Port.fits at h
  split at h
  · exact (Bool.and_eq_true_iff.1 h).1
  · exact nomatch h
  · exact nomatch h

/-- A byte reaches the receiver alone, which stays enabled (R172). -/
theorem Port.receive_eq (p : Port) (byte : Byte) (clock : Time) :
    p.receive byte clock = p ∨ ∃ got gap,
      p.receive byte clock = { p with receiver := .inFrame got, gap := gap } := by
  unfold Port.receive
  split
  · exact .inl rfl
  · split
    · exact .inr ⟨_, _, rfl⟩
    · exact .inl rfl
  · split
    · exact .inl rfl
    · exact .inr ⟨_, _, rfl⟩

theorem Port.receive_consistent {p : Port} (h : p.consistent) (hp : p.accepting) (byte : Byte) (clock : Time) :
    (p.receive byte clock).consistent := by
  obtain ⟨hfour, hes, -, -⟩ := p.consistent_iff.1 h
  obtain ⟨hattached, -⟩ := p.accepting_iff.1 hp
  rcases p.receive_eq byte clock with he | ⟨got, gap, he⟩
  · rwa [he]
  · rw [he]
    exact (Port.consistent_iff _).2 ⟨hfour, hes, by simp [hattached], fun _ => hp⟩

theorem Port.detach_consistent {p : Port} (h : p.consistent) : p.detach.consistent := by
  obtain ⟨hfour, hes, -⟩ := p.consistent_iff.1 h
  exact (Port.consistent_iff _).2 ⟨(List.length_filterMap_le _ _).trans hfour, filterMap_atDetach_ordered hes,
    by simp [Port.detach], nofun⟩

theorem Port.attach_consistent {p : Port} (h : p.consistent) :
    ({ p with attached := true, receiver := .hunting, gap := none } : Port).consistent := by
  obtain ⟨hfour, hes, -⟩ := p.consistent_iff.1 h
  exact Port.consistent_of_hunting hfour hes rfl rfl

theorem Port.deliver_consistent {p : Port} (h : p.consistent) :
    ({ p with buffer := deliverOldest p.buffer } : Port).consistent := by
  obtain ⟨-, hes, -⟩ := p.consistent_iff.1 h
  rcases deliverOldest_cases p.buffer with he | ⟨e, he⟩
  · rwa [he]
  · rw [he] at hes
    refine Port.withBuffer_consistent h ?_ (bufferOrdered_tail hes)
    have hlength := congrArg List.length he
    rw [List.length_cons] at hlength
    omega

theorem Port.passMicrosecond_consistent {p : Port} (h : p.consistent) : p.passMicrosecond.consistent := by
  unfold Port.passMicrosecond
  split
  · exact h
  · exact h

end Sys2Proof.Machine
end

section
/-! SUPPORT. What in-use counts, the profile table and the accumulators of open windows rest on: an entry that changes moves
the count of its profile, an evaluation keeps the extremes in order, and a sample keeps the sums between the extremes (R91,
R92, R109, R121, R123). -/

namespace Sys2Proof.Machine

/-! ### In-use counts (R92) -/

/-- Two conditions that differ at one element of a list without repetition have counts that differ by that element. -/
theorem countP_update {α : Type} [DecidableEq α] {l : List α} (hl : l.Nodup) {a : α} (ha : a ∈ l) {p q : α → Bool}
    (h : ∀ c, c ≠ a → q c = p c) :
    l.countP q + (if p a then 1 else 0) = l.countP p + (if q a then 1 else 0) := by
  have split : ∀ r : α → Bool, l.countP r = (l.erase a).countP r + (if r a then 1 else 0) := fun r => by
    rw [(List.perm_cons_erase ha).countP_eq, List.countP_cons]
  have rest : (l.erase a).countP q = (l.erase a).countP p :=
    List.countP_congr fun c hc => by rw [h c (hl.mem_erase_iff.1 hc).1]
  rw [split p, split q, rest]
  omega

/-- The gather is OPEN and names this profile (R92). -/
def Gather.uses (g : Gather) (p : ProfileNo) : Bool := g.state == .opened && g.profile == p

theorem Gather.uses_congr {g k : Gather} (hstate : k.state = g.state) (hprofile : k.profile = g.profile) (p : ProfileNo) :
    k.uses p = g.uses p := by
  rw [Gather.uses, hstate, hprofile]
  rfl

theorem Gather.uses_of_not_opened {g : Gather} (h : g.state ≠ .opened) (p : ProfileNo) : g.uses p = false := by
  simp [Gather.uses, h]

theorem State.inUseAgrees_iff (s : State) :
    s.inUseAgrees ↔ ∀ p, (s.profile p).inUse = allGathers.countP (fun i => (s.gather i).uses p) := Iff.rfl

/-- The in-use counts agree when every entry uses what it used and every count is kept. -/
theorem State.inUseAgrees_congr {s t : State} (h : s.inUseAgrees) (huses : ∀ i p, (t.gather i).uses p = (s.gather i).uses p)
    (hinUse : ∀ p, (t.profile p).inUse = (s.profile p).inUse) : t.inUseAgrees := fun p => by
  rw [hinUse, (s.inUseAgrees_iff.1 h) p]
  exact List.countP_congr fun i _ => by rw [← huses i p]; rfl

/-- One entry changes, and with it the count of what it begins or ceases to use. -/
theorem State.inUseAgrees_of_entry {s t : State} {i : GatherNo} (h : s.inUseAgrees)
    (hothers : ∀ j, j ≠ i → t.gather j = s.gather j)
    (hinUse : ∀ p, (t.profile p).inUse + (if (s.gather i).uses p then 1 else 0) =
      (s.profile p).inUse + (if (t.gather i).uses p then 1 else 0)) : t.inUseAgrees := t.inUseAgrees_iff.2 fun p => by
  have entry := countP_update allGathers_nodup (mem_allGathers i) (p := fun j => (s.gather j).uses p)
    (q := fun j => (t.gather j).uses p) fun j hj => by rw [hothers j hj]
  have before := s.inUseAgrees_iff.1 h p
  have step := hinUse p
  omega

/-- An OPEN gather counts among those that use its profile. -/
theorem State.inUse_pos {s : State} {i : GatherNo} (h : s.inUseAgrees) (ho : (s.gather i).state = .opened) :
    0 < (s.profile (s.gather i).profile).inUse := by
  rw [s.inUseAgrees_iff.1 h]
  exact List.countP_pos_iff.2 ⟨i, mem_allGathers i, by simp [Gather.uses, ho]⟩

/-- A slot of an OPEN gather is made final: its profile has one gather less when it was the last open slot (R80, R92). -/
theorem State.inUseAgrees_of_finalise {s t : State} {b : BayNo} {i : GatherNo} {x : Slot} {e : Ending}
    (h : s.inUseAgrees) (ho : (s.gather i).state = .opened)
    (hgather : ∀ j, t.gather j = if i = j then ((s.gather i).finalise b x e).closedAt s.clock else s.gather j)
    (hinUse : ∀ p, (t.profile p).inUse =
      if (s.gather i).profile = p ∧ ((s.gather i).finalise b x e).hasOpenSlot = false then (s.profile p).inUse - 1
      else (s.profile p).inUse) : t.inUseAgrees := by
  have hpos := State.inUse_pos h ho
  refine State.inUseAgrees_of_entry (i := i) h (fun j hj => by rw [hgather, if_neg (Ne.symm hj)]) fun p => ?_
  have huses : (t.gather i).uses p =
      (((s.gather i).finalise b x e).hasOpenSlot && decide ((s.gather i).profile = p)) := by
    rw [hgather, if_pos rfl, Gather.closedAt]
    have hstate : ((s.gather i).finalise b x e).state = .opened := ho
    have hprofile : ((s.gather i).finalise b x e).profile = (s.gather i).profile := rfl
    cases ((s.gather i).finalise b x e).hasOpenSlot <;> simp [Gather.uses, hstate, hprofile, Bool.beq_eq_decide_eq]
  rw [hinUse, huses]
  by_cases hp : (s.gather i).profile = p
  · subst hp
    cases ((s.gather i).finalise b x e).hasOpenSlot <;> simp [Gather.uses, ho]
    omega
  · simp [Gather.uses, hp]

/-! ### The profile table (R91, R109) -/

theorem satInc_ne_zero {w : Nat} (hw : 0 < w) (x : BitVec w) : satInc x ≠ 0 := fun h => by
  have hnat := satInc_toNat x
  have htwo : 2 ≤ 2 ^ w := Nat.le_self_pow (by omega) 2
  rw [h] at hnat
  simp at hnat
  omega

/-- The extremes of a profile are present exactly while values are counted, and in order (R109). -/
def Profile.extremesAgree (p : Profile) : Prop :=
  (p.minimum.isSome ↔ p.evaluated ≠ 0) ∧ (p.maximum.isSome ↔ p.evaluated ≠ 0) ∧
  p.minimum.all (fun lo => p.maximum.all (fun hi => lo.toInt ≤ hi.toInt))

theorem State.profilesConsistent_iff (s : State) : s.profilesConsistent ↔
    (s.profile 0).definitionKept .builtIn ∧ (s.profile 0).evaluated = 0 ∧ ∀ p, (s.profile p).extremesAgree := Iff.rfl

theorem Profile.extremesAgree.congr {p q : Profile} (h : p.extremesAgree) (hk : q.valuesKept p) : q.extremesAgree := by
  obtain ⟨hevaluated, hminimum, hmaximum⟩ := hk
  rw [Profile.extremesAgree, hevaluated, hminimum, hmaximum]
  exact h

/-- No value is counted and no extreme present. -/
theorem Profile.extremesAgree_of_none {p : Profile} (hevaluated : p.evaluated = 0) (hminimum : p.minimum = none)
    (hmaximum : p.maximum = none) : p.extremesAgree := by
  simp [Profile.extremesAgree, hevaluated, hminimum, hmaximum]

/-- A value counted takes its place between the extremes (R109). -/
theorem Profile.account_extremesAgree {p : Profile} (h : p.extremesAgree) (x : Slot) : (p.account x).extremesAgree := by
  cases hx : x.scaled with
  | none => exact h.congr (p.account_valuesKept hx)
  | some v =>
    obtain ⟨hevaluated, hminimum, hmaximum⟩ := p.account_values hx
    obtain ⟨hmin, hmax, horder⟩ := h
    have counted : satInc p.evaluated ≠ 0 := satInc_ne_zero (by omega) _
    rw [Profile.extremesAgree, hevaluated, hminimum, hmaximum]
    cases hlow : p.minimum with
    | none =>
      have hhigh : p.maximum = none := by
        rw [← Option.not_isSome_iff_eq_none, hmax, ← hmin, hlow]
        simp
      rw [hhigh]
      exact ⟨iff_of_true rfl counted, iff_of_true rfl counted, by simp [lowerOf, higherOf]⟩
    | some lo =>
      obtain ⟨hi, hhigh⟩ := Option.isSome_iff_exists.1 (hmax.2 (hmin.1 (by simp [hlow])))
      have hle : lo.toInt ≤ hi.toInt := by simpa [hlow, hhigh] using horder
      rw [hhigh, lowerOf_some, higherOf_some]
      refine ⟨iff_of_true rfl counted, iff_of_true rfl counted, ?_⟩
      simp only [Option.all_some, decide_eq_true_eq]
      split <;> split <;> omega

/-- A profile table whose definitions and values are kept. -/
theorem State.profilesConsistent_congr {s t : State} (h : s.profilesConsistent)
    (hdefinition : (t.profile 0).definitionKept (s.profile 0)) (hvalues : ∀ p, (t.profile p).valuesKept (s.profile p)) :
    t.profilesConsistent := by
  obtain ⟨hbuiltIn, hzero, hext⟩ := s.profilesConsistent_iff.1 h
  exact ⟨hbuiltIn.trans hdefinition, (hvalues 0).1.trans hzero, fun p => (hext p).congr (hvalues p)⟩

/-- Under a STATUS_ONLY profile no scaled value is formed (R99). -/
theorem exactScaled_of_statusOnly {p : Profile} (h : p.mode = .statusOnly) (x : Slot) : exactScaled p x = none := by
  unfold exactScaled
  split
  · simp [h]
  · rfl

/-- An evaluation keeps the profile table: the built-in profile forms no value, and every other keeps its extremes (R91,
R109). -/
theorem State.finishEvaluated_profilesConsistent {s : State} (h : s.profilesConsistent) (b : BayNo) (i : GatherNo)
    (e : Ending) (a : Option Answer) : (s.finishEvaluated b i e a).profilesConsistent := by
  obtain ⟨hbuiltIn, hzero, hext⟩ := s.profilesConsistent_iff.1 h
  have extremes : ∀ p, ((s.finishEvaluated b i e a).profile p).extremesAgree := fun p => by
    rw [State.finishEvaluated_profile]
    split
    · exact (Profile.account_extremesAgree (hext p) _).congr ⟨rfl, rfl, rfl⟩
    · exact hext p
  have zero : ((s.finishEvaluated b i e a).profile 0).definitionKept (s.profile 0) ∧
      ((s.finishEvaluated b i e a).profile 0).evaluated = (s.profile 0).evaluated := by
    rw [State.finishEvaluated_profile]
    split
    · rename_i hp
      have hscaled : (s.slotJudged b i e a).scaled = none := by
        have hmode : (s.profile (s.gather i).profile).mode = .statusOnly := by
          obtain ⟨-, hmode, -⟩ := hbuiltIn
          rw [hp, hmode]
          rfl
        exact congrArg (Option.map saturate32) (exactScaled_of_statusOnly hmode _)
      obtain ⟨hevaluated, -⟩ := (s.profile 0).account_valuesKept hscaled
      exact ⟨(s.profile 0).account_definitionKept _, hevaluated⟩
    · exact ⟨Profile.definitionKept_refl _, rfl⟩
  exact ⟨hbuiltIn.trans zero.1, zero.2.trans hzero, extremes⟩

/-! ### The accumulators of a window (R121, R123) -/

theorem clampSample_le (x : Int) : clampSample x ≤ 8191 := by
  unfold clampSample clampInt
  split
  · simp
  · split <;> omega

theorem minOf_some (x c : Nat) : minOf (some x) c = some (min x c) := by
  simp only [minOf, Option.some.injEq]
  split <;> omega

theorem maxOf_some (x c : Nat) : maxOf (some x) c = some (max x c) := by
  simp only [maxOf, Option.some.injEq]
  split <;> omega

theorem Accumulator.cleared_consistent : Accumulator.cleared.consistent := ⟨by decide, rfl, rfl, rfl⟩

/-- One more sample keeps the square of a sum within the count times the sum of squares. -/
theorem square_of_sum_succ {n sum squares c : Nat} (hn : 0 < n) (h : sum * sum ≤ n * squares) :
    (sum + c) * (sum + c) ≤ (n + 1) * (squares + c * c) := by
  have mean : 2 * (sum * c) ≤ squares + n * (c * c) := by
    zify at h hn ⊢
    have hsq : (0 : Int) ≤ ((n : Int) * c - sum) * (n * c - sum) := mul_self_nonneg _
    have : (n : Int) * (2 * (sum * c)) ≤ n * (squares + n * (c * c)) := by nlinarith only [h, hsq]
    exact le_of_mul_le_mul_left this hn
  nlinarith only [mean, h]

/-- A sample credited keeps the sums between what the extremes allow (R121, R122). -/
theorem Accumulator.credit_consistent {a : Accumulator} (h : a.consistent) (x : Int) : (a.credit x).consistent := by
  unfold Accumulator.credit
  split
  case isFalse => exact h
  case isTrue hn =>
    have hc := clampSample_le x
    generalize clampSample x = c at hc
    obtain ⟨-, h⟩ := h
    refine ⟨hn, ?_⟩
    split at h
    · rename_i lo hi hlo hhi
      obtain ⟨hpos, horder, htop, hlow, hhigh, hsquares, hsum⟩ := h
      simp only [hlo, hhi, minOf_some, maxOf_some]
      have below : (a.n + 1) * min lo c ≤ a.sum + c := by
        have := Nat.mul_le_mul_left a.n (Nat.min_le_left lo c)
        rw [Nat.succ_mul]
        omega
      have above : a.sum + c ≤ (a.n + 1) * max hi c := by
        have := Nat.mul_le_mul_left a.n (Nat.le_max_left hi c)
        rw [Nat.succ_mul]
        omega
      have squares : a.sumSquares + c * c ≤ (a.n + 1) * (max hi c * max hi c) := by
        have hhigh := Nat.mul_le_mul_left a.n (Nat.mul_self_le_mul_self (Nat.le_max_left hi c))
        have hcode := Nat.mul_self_le_mul_self (Nat.le_max_right hi c)
        rw [Nat.succ_mul]
        omega
      exact ⟨by omega, by omega, by omega, below, above, squares, square_of_sum_succ hpos hsum⟩
    · rename_i hlo hhi
      obtain ⟨hzero, hsum, hsquares⟩ := h
      simp [hlo, hhi, minOf, maxOf, hzero, hsum, hsquares, hc]
    · exact h.elim

end Sys2Proof.Machine
end

section
/-! SUPPORT. What keeps the in-use counts, the profile table, the accumulators and the request buffer, said once for each
shared operation (R91, R92, R109, R121, R123, R170, R174). -/

namespace Sys2Proof.Machine

/-- Whatever of these four invariants holds in s holds in t. -/
structure State.Maintains (s t : State) : Prop where
  counts : s.gathersConsistent ∧ s.inUseAgrees → t.gathersConsistent ∧ t.inUseAgrees
  profiles : s.profilesConsistent → t.profilesConsistent
  accumulators : s.accumulatorsConsistent → t.accumulatorsConsistent
  port : s.port.consistent → t.port.consistent

/-! ### Completions, one invariant at a time -/

section
variable {s : State}

theorem State.accumulatorsConsistent_congr {t : State} (h : s.accumulatorsConsistent)
    (hw : ∀ b, (t.bay b).window = (s.bay b).window) : t.accumulatorsConsistent := fun b a ha => h b a (by rwa [hw] at ha)

/-- The window of one bay changes, and what it then holds is consistent. -/
theorem State.accumulatorsConsistent_of_bay {t : State} {b : BayNo} (h : s.accumulatorsConsistent)
    (hothers : ∀ c, b ≠ c → (t.bay c).window = (s.bay c).window)
    (hb : ∀ a, (t.bay b).window = .opened a → a.consistent) : t.accumulatorsConsistent := fun c a ha => by
  by_cases hc : b = c
  · subst hc; exact hb a ha
  · exact h c a (by rwa [hothers c hc] at ha)

theorem State.openWindow_accumulatorsConsistent (h : s.accumulatorsConsistent) (b : BayNo) :
    (s.openWindow b).accumulatorsConsistent := by
  refine State.accumulatorsConsistent_of_bay (b := b) h (fun c hc => by simp [hc]) fun a ha => ?_
  simp only [State.openWindow_bay, if_true, Window.opened.injEq] at ha
  exact ha ▸ Accumulator.cleared_consistent

theorem State.completeEvaluated_accumulatorsConsistent (h : s.accumulatorsConsistent) (b : BayNo) (i : GatherNo)
    (e : Ending) (a : Option Answer) : (s.completeEvaluated b i e a).accumulatorsConsistent := by
  refine State.accumulatorsConsistent_of_bay (b := b) h (fun c hc => by rw [s.completeEvaluated_bay_ne hc]) fun acc ha => ?_
  rw [State.completeEvaluated_window] at ha
  split at ha
  · exact nomatch ha
  · exact h b acc ha

theorem State.creditSample_accumulatorsConsistent (h : s.accumulatorsConsistent) (b : BayNo) (tied : Bool)
    (code : BitVec 12) : (s.creditSample b tied code).accumulatorsConsistent := by
  unfold State.creditSample
  split
  · rename_i acc hacc
    refine State.accumulatorsConsistent_of_bay (b := b) h (fun c hc => by simp [hc]) fun a ha => ?_
    simp only [State.bay_modBay, if_true, Window.opened.injEq] at ha
    exact ha ▸ Accumulator.credit_consistent (h b acc hacc) _
  · exact h

theorem State.completeEvaluated_inUseAgrees (hg : s.gathersConsistent) (h : s.inUseAgrees) (b : BayNo) (i : GatherNo)
    (e : Ending) (a : Option Answer) : (s.completeEvaluated b i e a).inUseAgrees := by
  unfold State.completeEvaluated
  split
  · rename_i hopen
    refine State.inUseAgrees_of_finalise h (Gather.opened_of_endable (hg i).1 hopen)
      (fun j => s.finishEvaluated_gather b i j e a) fun p => ?_
    rw [State.finishEvaluated_profile, ← State.finalSlot_eq_slotJudged]
    cases ((s.gather i).finalise b (s.finalSlot i b e a) e).hasOpenSlot <;> by_cases hp : (s.gather i).profile = p <;>
      simp [hp]
  · exact h

theorem State.completeUnevaluated_inUseAgrees (hg : s.gathersConsistent) (h : s.inUseAgrees) (b : BayNo) (i : GatherNo)
    (e : Ending) : (s.completeUnevaluated b i e).inUseAgrees := by
  unfold State.completeUnevaluated
  split
  · rename_i hopen
    refine State.inUseAgrees_of_finalise h (Gather.opened_of_endable (hg i).1 hopen)
      (fun j => s.finishUnevaluated_gather b i j e) fun p => ?_
    simp only [State.finishUnevaluated, State.completeGatherIfFinal_profile, State.gather_modGather, if_true,
      State.modGather_profile]
    exact apply_ite Profile.inUse ..
  · exact h

theorem State.completeEvaluated_profilesConsistent (h : s.profilesConsistent) (b : BayNo) (i : GatherNo) (e : Ending)
    (a : Option Answer) : (s.completeEvaluated b i e a).profilesConsistent := by
  unfold State.completeEvaluated
  split
  · exact State.finishEvaluated_profilesConsistent h b i e a
  · exact h

theorem State.completeUnevaluated_profilesConsistent (h : s.profilesConsistent) (b : BayNo) (i : GatherNo) {e : Ending}
    (he : e.evaluated = false) : (s.completeUnevaluated b i e).profilesConsistent :=
  State.profilesConsistent_congr h ((s.completeUnevaluated_ends b i he).same.definitions 0) fun p => by
    obtain ⟨hevaluated, hminimum, hmaximum, -⟩ := s.completeUnevaluated_statsKept b i e p
    exact ⟨hevaluated, hminimum, hmaximum⟩

/-! ### The port of the state -/

theorem State.takeRequests_port_consistent (h : s.port.consistent) : s.takeRequests.port.consistent := by
  unfold State.takeRequests
  split
  · exact h
  · obtain ⟨-, hordered, -⟩ := s.port.consistent_iff.1 h
    exact Port.withBuffer_consistent h (takeWaiting_length _ _).le (takeWaiting_ordered _ hordered)

theorem State.answer_port_consistent (h : s.port.consistent) (c : Instr) (status : Status) (body : List Byte) :
    (s.answer c status body).port.consistent := by
  unfold State.answer
  dsimp only
  split
  · obtain ⟨-, hordered, -⟩ := s.port.consistent_iff.1 h
    exact State.takeRequests_port_consistent
      (Port.withBuffer_consistent h (finishInHand_length _ _) (finishInHand_ordered _ hordered))
  · exact h

theorem State.keepWaiting_port_consistent (h : s.port.consistent) (c : Instr) : (s.keepWaiting c).port.consistent := by
  unfold State.keepWaiting
  split
  · exact h
  · split
    · rename_i hreceives
      simp only [Port.receivesFrame, Bool.and_eq_true, beq_iff_eq] at hreceives
      obtain ⟨⟨hp, hhunting⟩, -⟩ := hreceives
      obtain ⟨hattached, hroom⟩ := s.port.accepting_iff.1 hp
      obtain ⟨-, hordered, -⟩ := s.port.consistent_iff.1 h
      refine Port.consistent_of_hunting ?_ (bufferOrdered_append rfl hordered) hattached hhunting
      simpa using hroom
    · exact h

end

/-! ### The shared operations -/

namespace State.Maintains

variable {s t u : State} {b : BayNo}

theorem refl : s.Maintains s := ⟨id, id, id, id⟩

theorem trans (h : s.Maintains t) (h' : t.Maintains u) : s.Maintains u :=
  ⟨h'.counts ∘ h.counts, h'.profiles ∘ h.profiles, h'.accumulators ∘ h.accumulators, h'.port ∘ h.port⟩

/-- A change that leaves gathers and profiles alone, and keeps the accumulators and the port consistent. -/
theorem ofTables (h : s.Maintains t) (hg : u.gathers = t.gathers) (hp : u.profiles = t.profiles)
    (hw : t.accumulatorsConsistent → u.accumulatorsConsistent) (hport : t.port.consistent → u.port.consistent) :
    s.Maintains u := by
  have hgather : ∀ i, u.gather i = t.gather i := fun i => by rw [State.gather_eq_get, hg]; rfl
  have hprofile : ∀ p, u.profile p = t.profile p := fun p => by rw [State.profile_eq_get, hp]; rfl
  refine h.trans ⟨fun ⟨hcons, huse⟩ => ⟨State.gathersConsistent_congr hcons hg, ?_⟩, fun hcons => ?_, hw, hport⟩
  · exact State.inUseAgrees_congr huse (fun i p => by rw [hgather]) fun p => by rw [hprofile]
  · refine State.profilesConsistent_congr hcons ?_ fun p => ?_ <;> rw [hprofile]
    · exact Profile.definitionKept_refl _
    · exact Profile.valuesKept_refl _

/-- A change that reaches neither gathers, profiles, windows nor the port. -/
theorem kept (h : s.Maintains t) (hg : u.gathers = t.gathers) (hp : u.profiles = t.profiles)
    (hw : ∀ c, (u.bay c).window = (t.bay c).window) (hport : u.port = t.port) : s.Maintains u :=
  h.ofTables hg hp (fun ha => State.accumulatorsConsistent_congr ha hw) fun hcons => by rwa [hport]

/-- A change of a bay that leaves its window. -/
theorem modBay {f : Bay → Bay} (hf : ∀ x, (f x).window = x.window) (h : s.Maintains t) :
    s.Maintains (t.modBay b f) := h.kept rfl rfl (fun c => by rw [State.bay_modBay]; split <;> simp_all) rfl

/-- A change of the port that keeps it consistent. -/
theorem modPort {f : Port → Port} (h : s.Maintains t) (hf : t.port.consistent → (f t.port).consistent) :
    s.Maintains (t.modPort f) := h.ofTables rfl rfl id hf

theorem answer {c : Instr} {status : Status} {body : List Byte} (h : s.Maintains t) :
    s.Maintains (t.answer c status body) :=
  h.ofTables (by simp) (by simp) (fun ha => State.accumulatorsConsistent_congr ha (by simp)) fun hp =>
    State.answer_port_consistent hp c status body

theorem takeRequests (h : s.Maintains t) : s.Maintains t.takeRequests := by
  have heq := t.takeRequests_eq
  exact h.ofTables (by rw [heq]) (by rw [heq])
    (fun ha => State.accumulatorsConsistent_congr ha fun c => by rw [heq]; rfl) State.takeRequests_port_consistent

theorem keepWaiting (h : s.Maintains t) (c : Instr) : s.Maintains (t.keepWaiting c) := by
  have heq := t.keepWaiting_eq c
  exact h.ofTables (by rw [heq]) (by rw [heq])
    (fun ha => State.accumulatorsConsistent_congr ha fun c => by rw [heq]; rfl) fun hp =>
    State.keepWaiting_port_consistent hp c

theorem raise {p : Place} (h : s.Maintains t) : s.Maintains (t.raise p) :=
  h.kept (by simp) (by simp) (fun c => by simp) (by simp)

theorem clearNotice {p : Place} (h : s.Maintains t) : s.Maintains (t.clearNotice p) := h.kept rfl rfl (fun _ => rfl) rfl

theorem writeRecord {kind : RecordKind} {own : List Byte} (h : s.Maintains t) :
    s.Maintains (t.writeRecord b kind own) :=
  h.kept (by simp) (by simp) (fun c => by rw [State.writeRecord_bay]; split <;> simp_all) (by simp)

theorem beginFrame (h : s.Maintains t) : s.Maintains (t.beginFrame b) :=
  h.kept (by simp) (by simp) (fun c => by
    obtain ⟨_, _, _, he⟩ := t.beginFrame_bay b c
    rw [he]
    split <;> simp_all) (by simp)

theorem startWake (h : s.Maintains t) : s.Maintains (t.startWake b) := h.modBay fun _ => rfl

theorem openWindow (h : s.Maintains t) : s.Maintains (t.openWindow b) :=
  h.ofTables (by simp) (by simp) (fun ha => State.openWindow_accumulatorsConsistent ha b) (by simp)

theorem emptyTunnels (h : s.Maintains t) : s.Maintains (t.emptyTunnels b) :=
  h.kept rfl rfl (fun c => by rw [State.emptyTunnels_bay]; split <;> simp_all) rfl

theorem foldl {α : Type} {f : State → α → State} (hf : ∀ (t : State) a, t.Maintains (f t a)) :
    ∀ (l : List α) {t : State}, s.Maintains t → s.Maintains (l.foldl f t)
  | [], _, h => h
  | a :: l, t, h => foldl hf l (h.trans (hf t a))

/-- A change of one entry that completes nothing. -/
theorem modGather {i : GatherNo} {f : Gather → Gather} (h : s.Maintains t)
    (hcons : (t.gather i).consistent ∧ (t.gather i).summaryConsistent →
      (f (t.gather i)).consistent ∧ (f (t.gather i)).summaryConsistent)
    (hstate : (f (t.gather i)).state = (t.gather i).state) (hprofile : (f (t.gather i)).profile = (t.gather i).profile) :
    s.Maintains (t.modGather i f) := by
  refine h.trans ⟨fun ⟨hg, hu⟩ => ⟨?_, ?_⟩, fun hp => hp, fun ha => ha, fun hp => hp⟩
  · exact State.gathersConsistent_of_entry (i := i) hg (fun j hj => by simp [Ne.symm hj]) (by simpa using hcons (hg i))
  · refine State.inUseAgrees_congr hu (fun j p => ?_) fun _ => rfl
    rw [State.gather_modGather]
    split
    · rename_i hj; subst hj; exact Gather.uses_congr hstate hprofile p
    · rfl

theorem completeEvaluated {i : GatherNo} {e : Ending} {a : Option Answer} (h : s.Maintains t) (he : e.evaluated) :
    s.Maintains (t.completeEvaluated b i e a) :=
  h.trans ⟨fun ⟨hg, hu⟩ => ⟨State.completeEvaluated_gathersConsistent b i a he hg,
      State.completeEvaluated_inUseAgrees hg hu b i e a⟩,
    fun hp => State.completeEvaluated_profilesConsistent hp b i e a,
    fun ha => State.completeEvaluated_accumulatorsConsistent ha b i e a, by simp⟩

theorem completeUnevaluated {i : GatherNo} {e : Ending} (h : s.Maintains t) (he : e.evaluated = false) :
    s.Maintains (t.completeUnevaluated b i e) :=
  h.trans ⟨fun ⟨hg, hu⟩ => ⟨State.completeUnevaluated_gathersConsistent b i he hg,
      State.completeUnevaluated_inUseAgrees hg hu b i e⟩,
    fun hp => State.completeUnevaluated_profilesConsistent hp b i he,
    fun ha => State.accumulatorsConsistent_congr ha (by simp), by simp⟩

theorem unreachQueue (h : s.Maintains t) : s.Maintains (t.unreachQueue b) := by
  unfold State.unreachQueue
  exact foldl (fun _ _ => refl.completeEvaluated rfl) _ (modBay (fun _ => rfl) h)

theorem dropQueue {e : Ending} (h : s.Maintains t) (he : e.evaluated = false) : s.Maintains (t.dropQueue b e) := by
  unfold State.dropQueue
  exact foldl (fun _ _ => refl.completeUnevaluated he) _ (modBay (fun _ => rfl) h)

theorem loseAsk (h : s.Maintains t) : s.Maintains (t.loseAsk b) := by
  unfold State.loseAsk
  split
  · dsimp only
    split
    · exact .modBay (fun _ => rfl) h
    · exact .completeEvaluated (.modBay (fun _ => rfl) h) rfl
  · exact h

theorem followAsk {i : GatherNo} (h : s.Maintains t) : s.Maintains (t.followAsk b i) := by
  unfold State.followAsk
  dsimp only
  split
  · exact .dropQueue (.modBay (fun _ => rfl) h) rfl
  · split
    · exact h.startWake
    · exact .modBay (fun _ => rfl) h

theorem endAsk {e : Ending} {a : Option Answer} (h : s.Maintains t) (he : e.evaluated) :
    s.Maintains (t.endAsk b e a) := by
  unfold State.endAsk
  dsimp only
  split
  · exact .modBay (fun _ => rfl) (.modBay (fun _ => rfl) h)
  · exact .followAsk (.completeEvaluated (.modBay (fun _ => rfl) h) he)

/-- A slot QUEUED for the bay becomes SENT (R70). -/
theorem dispatchHead {i : GatherNo} {rest : List GatherNo} (h : s.Maintains t)
    (hq : ((t.gather i).slot b).stage = .queued) : s.Maintains (t.dispatchHead b i rest) :=
  .beginFrame (.modBay (fun _ => rfl) (.modGather h (fun hcons => Gather.sendSlot_consistent _ hcons hq) rfl rfl))

/-- The send time is reported to the slot, and the window of a measured gather opens (R71). -/
theorem recordSend {i : GatherNo} (h : s.Maintains t) : s.Maintains (t.recordSend b i) := by
  have timed : s.Maintains (t.modGather i (fun g => g.sentAt b t.clock)) := h.modGather
    (fun hcons => Gather.sendTime_consistent hcons rfl rfl rfl fun c => (t.gather i).sentAt_slot b c _) rfl rfl
  rw [State.recordSend_eq]
  split
  · exact timed.openWindow
  · exact timed

theorem askLeft (h : s.Maintains t) : s.Maintains (t.askLeft b) := by
  unfold State.askLeft
  split
  · exact h
  · exact .recordSend (.modBay (fun _ => rfl) h)

end State.Maintains

end Sys2Proof.Machine
end

section
/-! SUPPORT. Every event and every request keeps the in-use counts, the profile table, the accumulators and the request
buffer (R91, R92, R109, R121, R123, R170, R174). -/

namespace Sys2Proof.Machine

section
variable {s : State} (b : BayNo)

/-! ### Bays (chapter 1) -/

theorem Bay.abandonCycle_window (x : Bay) : x.abandonCycle.window = x.window := by rw [Bay.abandonCycle_eq]

theorem eventPresenceContactChange_maintains (closed : Bool) : s.Maintains (eventPresenceContactChange b closed s) := by
  unfold eventPresenceContactChange
  split
  · exact .refl
  · exact .modBay (fun _ => rfl) .refl

theorem State.remove_maintains : s.Maintains (s.remove b) :=
  .raise (.modBay (fun _ => rfl) (.emptyTunnels (.unreachQueue (.loseAsk (.modBay Bay.abandonCycle_window .refl)))))

theorem eventDebounceExpiry_maintains : s.Maintains (eventDebounceExpiry b s) := by
  have stopped : s.Maintains (s.modBay b (fun x => { x with debounce := none })) := .modBay (fun _ => rfl) .refl
  unfold eventDebounceExpiry
  dsimp only
  split
  · split
    · exact stopped
    · split
      · exact .raise (.modBay (fun _ => rfl) stopped)
      · exact stopped.trans (State.remove_maintains b)
  · exact .refl

theorem eventSignOnAccepted_maintains (frame : BayFrame) : s.Maintains (eventSignOnAccepted b frame s) := by
  unfold eventSignOnAccepted
  split
  · split
    · exact .refl
    · exact .beginFrame (.raise (.writeRecord (.modBay (fun _ => rfl) (.loseAsk (.modBay (fun _ => rfl) .refl)))))
  · exact .refl

theorem eventWakeTimerExpiry_maintains : s.Maintains (eventWakeTimerExpiry b s) := by
  unfold eventWakeTimerExpiry
  dsimp only
  split
  · split
    · exact .raise (.unreachQueue (.modBay (fun _ => rfl) (.modBay (fun _ => rfl) .refl)))
    · exact .modBay (fun _ => rfl) .refl
  · exact .refl

theorem State.resetBay_maintains : s.Maintains (s.resetBay b) := by
  unfold State.resetBay
  exact .modBay (fun _ => rfl) (.clearNotice (.clearNotice (.clearNotice (.clearNotice (.modBay (fun _ => rfl)
    (.emptyTunnels (.dropQueue (.loseAsk (.modBay (fun _ => rfl) .refl)) rfl)))))))

theorem requestReleaseBay_maintains (bay : Byte) : s.Maintains (requestReleaseBay bay s) := by
  unfold requestReleaseBay
  split
  · exact .answer .refl
  · split
    · exact .answer (.beginFrame (.modBay (fun _ => rfl) .refl))
    · exact .answer (.startWake .refl)
    · exact .answer (.modBay (fun _ => rfl) .refl)
    all_goals exact .answer .refl

theorem requestResetBay_maintains (bay : Byte) : s.Maintains (requestResetBay bay s) := by
  unfold requestResetBay
  split
  · exact .answer .refl
  · exact .answer (State.resetBay_maintains _)

theorem requestBayStatus_maintains (bay : Byte) : s.Maintains (requestBayStatus bay s) := by
  unfold requestBayStatus
  split <;> exact .answer .refl

/-! ### Bay supply (chapter 3) -/

theorem State.supplyOff_maintains : s.Maintains (s.supplyOff b) := by
  unfold State.supplyOff
  exact .modBay (fun _ => rfl) (.unreachQueue (.loseAsk (.modBay (fun _ => rfl) .refl)))

theorem State.setSupply_maintains {mode : SupplyMode} {t : State} (h : s.setSupply b mode = some t) : s.Maintains t := by
  unfold State.setSupply at h
  split at h <;> simp only [Option.some.injEq, reduceCtorEq] at h <;> subst h
  · exact .refl
  · exact .startWake (.modBay (fun _ => rfl) .refl)
  · exact .unreachQueue (.modBay (fun _ => rfl) (.modBay Bay.abandonCycle_window .refl))
  · exact .modBay (fun _ => rfl) .refl
  · exact State.supplyOff_maintains b
  · exact .modBay (fun _ => rfl) .refl

theorem requestSetSupply_maintains (bay mode : Byte) : s.Maintains (requestSetSupply bay mode s) := by
  unfold requestSetSupply
  split
  · split
    · exact .answer .refl
    · rename_i ht
      exact .answer (State.setSupply_maintains _ ht)
  · exact .answer .refl

theorem eventTrip_maintains (milliamps : Nat) : s.Maintains (eventTrip b milliamps s) := by
  unfold eventTrip
  split
  · exact .refl
  · split
    · exact .raise (.modBay (fun _ => rfl) (.unreachQueue (.loseAsk (.modBay (fun _ => rfl) (.writeRecord
        (.modBay (fun _ => rfl) (.modBay (fun _ => rfl) .refl)))))))
    · exact .refl

theorem eventSag_maintains : s.Maintains (eventSag b s) := by
  unfold eventSag
  split
  · exact .refl
  · split
    · exact .startWake (.loseAsk (.modBay (fun _ => rfl) (.writeRecord (.modBay (fun _ => rfl) .refl))))
    · exact .refl

theorem eventRailRiseClear_maintains : s.Maintains (eventRailRiseClear b s) := by
  unfold eventRailRiseClear
  split
  · exact .modBay (fun _ => rfl) .refl
  · exact .refl

theorem State.cycle_maintains (off : Nat) (saved mode : OnMode) : s.Maintains (s.cycle b off saved mode) := by
  unfold State.cycle
  exact .modBay (fun _ => rfl) (.loseAsk (.modBay (fun _ => rfl) (.writeRecord (.modBay (fun _ => rfl) .refl))))

theorem requestCycleBay_maintains (bay : Byte) (offMs : BitVec 16) (restore : Option Byte) :
    s.Maintains (requestCycleBay bay offMs restore s) := by
  unfold requestCycleBay
  split
  · split
    case h_1 => exact .answer .refl
    case h_6 => exact .answer .refl
    all_goals exact .answer (State.cycle_maintains _ _ _ _)
  · exact .answer .refl

theorem eventCycleTimerExpiry_maintains : s.Maintains (eventCycleTimerExpiry b s) := by
  unfold eventCycleTimerExpiry
  dsimp only
  split
  · split
    · exact .startWake (.writeRecord (.modBay (fun _ => rfl) (.modBay (fun _ => rfl) .refl)))
    · exact .modBay (fun _ => rfl) .refl
  · exact .refl

/-! ### The bay link (chapter 2) -/

/-- An event that changes the link of its bay, or nothing. -/
theorem State.modLink_or_maintains (p : Prop) [Decidable p] (f : Link → Link) :
    s.Maintains (if p then s.modBay b (fun x => x.modLink f) else s) := by
  split
  · exact .modBay (fun _ => rfl) .refl
  · exact .refl

theorem eventAnswerAccepted_maintains (frame : BayFrame) : s.Maintains (eventAnswerAccepted b frame s) := by
  unfold eventAnswerAccepted
  split
  · split
    · exact .refl
    · split
      · exact .endAsk (.modBay (fun _ => rfl) .refl) rfl
      · exact .modBay (fun _ => rfl) (.modBay (fun _ => rfl) .refl)
  · exact .refl

theorem eventTunnelInAccepted_maintains (frame : BayFrame) : s.Maintains (eventTunnelInAccepted b frame s) := by
  have hunting : s.Maintains (s.huntAgain b) := .modBay (fun _ => rfl) .refl
  unfold eventTunnelInAccepted State.tunnelArrives
  split
  · split
    · have stored : s.Maintains ((s.huntAgain b).modBay b (fun x => x.modLink (fun l =>
        { l with tunnelIn := some frame.body }))) := hunting.modBay fun _ => rfl
      exact stored.kept rfl rfl (fun _ => rfl) rfl
    · exact hunting.modBay fun _ => rfl
  · exact .refl

theorem eventDispatch_maintains : s.Maintains (eventDispatch b s) := by
  unfold eventDispatch
  split
  · split
    · exact .refl
    · split
      · rename_i hq
        exact .dispatchHead .refl hq
      · exact .modBay (fun _ => rfl) .refl
  · exact .refl

theorem eventAskSent_maintains : s.Maintains (eventAskSent b s) := by
  have left : s.Maintains (s.modBay b (fun x => x.modLink Link.frameLeft)) := .modBay (fun _ => rfl) .refl
  unfold eventAskSent
  dsimp only
  split
  · split
    · exact left.askLeft.beginFrame
    · exact left.beginFrame
  · exact .refl

theorem eventTunnelOutSent_maintains : s.Maintains (eventTunnelOutSent b s) := by
  unfold eventTunnelOutSent
  split
  · exact .beginFrame (.modBay (fun _ => rfl) .refl)
  · exact .refl

theorem eventAnswerTimerExpiry_maintains : s.Maintains (eventAnswerTimerExpiry b s) := by
  unfold eventAnswerTimerExpiry
  split
  · split
    · exact .endAsk .refl rfl
    · exact .modBay (fun _ => rfl) .refl
  · exact .refl

theorem requestSetLineRate_maintains (bay rate : Byte) : s.Maintains (requestSetLineRate bay rate s) := by
  unfold requestSetLineRate
  split
  · split
    · exact .answer (.modBay (fun _ => rfl) .refl)
    · exact .answer .refl
  · exact .answer .refl

theorem requestPutTunnel_maintains (bay : Byte) (block : List Byte) : s.Maintains (requestPutTunnel bay block s) := by
  unfold requestPutTunnel
  split
  · exact .answer .refl
  · split
    · exact .answer .refl
    · split
      · exact .answer .refl
      · split
        · exact .answer .refl
        · exact .answer (.beginFrame (.modBay (fun _ => rfl) .refl))

theorem requestGetTunnel_maintains (bay : Byte) : s.Maintains (requestGetTunnel bay s) := by
  unfold requestGetTunnel
  split
  · exact .answer .refl
  · rename_i b _
    have emptied : s.Maintains (s.modBay b (fun x => x.modLink (fun l => { l with tunnelIn := none }))) :=
      .modBay (fun _ => rfl) .refl
    exact .answer (emptied.kept rfl rfl (fun _ => rfl) rfl)

theorem requestPeekTunnel_maintains (bay : Byte) : s.Maintains (requestPeekTunnel bay s) := by
  unfold requestPeekTunnel
  split <;> exact .answer .refl

/-! ### Gathers (chapter 4) -/

theorem State.cancelSlot_maintains (i : GatherNo) : s.Maintains (s.cancelSlot i b) := by
  unfold State.cancelSlot
  split
  · exact .completeUnevaluated (.modBay (fun _ => rfl) .refl) rfl
  · exact .refl

theorem requestCancelGather_maintains (index : Byte) (serial : BitVec 16) :
    s.Maintains (requestCancelGather index serial s) := by
  unfold requestCancelGather
  split
  · exact .answer .refl
  · rename_i i _
    dsimp only
    split
    · have flagged : s.Maintains (s.modGather i (fun g => { g with cancelled := true })) :=
        .modGather .refl (Gather.consistent_of_same rfl rfl rfl rfl) rfl rfl
      exact .answer (.foldl (fun t b => State.cancelSlot_maintains b i) _ flagged)
    · exact .answer .refl

theorem requestGatherStatus_maintains (index : Byte) (serial : BitVec 16) :
    s.Maintains (requestGatherStatus index serial s) := by
  unfold requestGatherStatus
  split <;> exact .answer .refl

theorem requestGatherSlot_maintains (index : Byte) (serial : BitVec 16) (bay : Byte) :
    s.Maintains (requestGatherSlot index serial bay s) := by
  unfold requestGatherSlot
  split
  · exact .answer .refl
  · split <;> exact .answer .refl

/-- A DONE gather counts for no profile, and neither does a FREE entry (R88, R92). -/
theorem State.freeGather_maintains {i : GatherNo} (hdone : (s.gather i).state = .done) :
    s.Maintains (s.setGather i .free) := by
  refine ⟨fun ⟨hg, hu⟩ => ⟨?_, ?_⟩, id, id, id⟩
  · refine State.gathersConsistent_of_entry (i := i) hg (fun j hj => by simp [Ne.symm hj]) ?_
    rw [State.gather_setGather, if_pos rfl]
    exact Gather.free_consistent
  · refine State.inUseAgrees_congr hu (fun j p => ?_) fun _ => rfl
    rw [State.gather_setGather]
    split
    · rename_i hj
      subst hj
      exact (Gather.uses_of_not_opened (by simp [Gather.free]) p).trans (Gather.uses_of_not_opened (by simp [hdone]) p).symm
    · rfl

theorem requestReleaseGather_maintains (index : Byte) (serial : BitVec 16) :
    s.Maintains (requestReleaseGather index serial s) := by
  unfold requestReleaseGather
  split
  · exact .answer .refl
  · split
    · rename_i hdone
      exact .answer (.clearNotice (State.freeGather_maintains hdone))
    · exact .answer .refl

/-- An arm that queues a slot counts one gather more for its profile (R67, R92). -/
theorem State.arm_profile_inUse (i : GatherNo) (g : Gather) (p : ProfileNo) : ((s.arm i g).profile p).inUse =
    (s.profile p).inUse + (if g.hasOpenSlot && g.profile == p then 1 else 0) := by
  have henqueue : ∀ q, (({ s with gatherSerial := g.serial } : State).enqueue g.bays i).profile q = s.profile q :=
    fun _ => rfl
  by_cases hopen : g.hasOpenSlot
  · rw [s.arm_of_open i hopen]
    by_cases hp : g.profile = p <;> simp [henqueue, hopen, hp]
  · rw [s.arm_of_closed i hopen]
    simp [henqueue, hopen]

theorem State.arm_window (i : GatherNo) (g : Gather) (c : BayNo) : ((s.arm i g).bay c).window = (s.bay c).window := by
  rw [State.arm_bay]
  split <;> rfl

theorem State.arm_port (i : GatherNo) (g : Gather) : (s.arm i g).port = s.port := by
  unfold State.arm
  dsimp only
  split
  · rfl
  · exact State.raise_port _ _

theorem State.arm_maintains {i : GatherNo} {g : Gather} (hfree : (s.gather i).state = .free) (ho : g.state = .opened)
    (hcons : g.armedEntry.consistent ∧ g.armedEntry.summaryConsistent) : s.Maintains (s.arm i g) := by
  refine ⟨fun ⟨hg, hu⟩ => ⟨?_, ?_⟩, fun hp => ?_, fun ha => State.accumulatorsConsistent_congr ha (State.arm_window i g),
    fun hp => by rwa [State.arm_port]⟩
  · refine State.gathersConsistent_of_entry (i := i) hg (fun j hj => ?_) ?_
    · rw [State.arm_gather, if_neg (Ne.symm hj)]
    · rw [State.arm_gather, if_pos rfl]; exact hcons
  · refine State.inUseAgrees_of_entry (i := i) hu (fun j hj => ?_) fun p => ?_
    · rw [State.arm_gather, if_neg (Ne.symm hj)]
    · have huses : ((s.arm i g).gather i).uses p = (g.hasOpenSlot && g.profile == p) := by
        rw [State.arm_gather, if_pos rfl, Gather.armedEntry]
        cases g.hasOpenSlot <;> simp [Gather.uses, ho]
      rw [State.arm_profile_inUse, huses, Gather.uses_of_not_opened (by simp [hfree])]
      rfl
  · exact State.profilesConsistent_congr hp (s.arm_profile i g 0).1 fun p => (s.arm_profile i g p).2

theorem requestArmGather_maintains (bays : BaySet) (command : BitVec 16) (profile : Byte) (failMask : Indicators)
    (timeoutMs : BitVec 16) (options : Byte) (args : List Byte) :
    s.Maintains (requestArmGather bays command profile failMask timeoutMs options args s) := by
  unfold requestArmGather
  dsimp only
  split
  · exact .answer .refl
  · rename_i p i hok
    obtain ⟨hentry, -⟩ := State.armChecks_ok hok
    exact .answer (State.arm_maintains (State.freeEntry_free hentry) rfl (s.armedEntry_consistent ..))

/-! ### Profiles (chapter 5) -/

/-- A profile other than the built-in one, or one whose definition is kept, with no value counted, and its in-use count
kept. -/
theorem State.modProfile_maintains {p : ProfileNo} {f : Profile → Profile}
    (hdefinition : p = 0 → (f (s.profile p)).definitionKept (s.profile p))
    (hinUse : (f (s.profile p)).inUse = (s.profile p).inUse) (hevaluated : (f (s.profile p)).evaluated = 0)
    (hminimum : (f (s.profile p)).minimum = none) (hmaximum : (f (s.profile p)).maximum = none) :
    s.Maintains (s.modProfile p f) := by
  refine ⟨fun ⟨hg, hu⟩ => ⟨hg, State.inUseAgrees_congr hu (fun _ _ => rfl) fun q => ?_⟩, fun h => ?_, id, id⟩
  · rw [State.profile_modProfile]
    split
    · rename_i hq; subst hq; exact hinUse
    · rfl
  · obtain ⟨hbuiltIn, hzero, hext⟩ := s.profilesConsistent_iff.1 h
    refine (State.profilesConsistent_iff _).2 ⟨?_, ?_, fun q => ?_⟩ <;> rw [State.profile_modProfile] <;> split
    · rename_i hp; subst hp; exact hbuiltIn.trans (hdefinition rfl)
    · exact hbuiltIn
    · exact hevaluated
    · exact hzero
    · exact Profile.extremesAgree_of_none hevaluated hminimum hmaximum
    · exact hext q

theorem State.defineChecks_ok {profile valueMode : Byte} {d : BitVec 16} {low high : BitVec 32} {currentMa : BitVec 16}
    {p : ProfileNo} {mode : ValueMode} (h : s.defineChecks profile valueMode d low high currentMa = .ok (p, mode)) :
    p ≠ 0 := by
  unfold State.defineChecks at h
  repeat' split at h
  all_goals cases h
  assumption

theorem requestDefineProfile_maintains (profile valueMode : Byte) (m d : BitVec 16) (b low high : BitVec 32)
    (latencyMs currentMa : BitVec 16) :
    s.Maintains (requestDefineProfile profile valueMode m d b low high latencyMs currentMa s) := by
  unfold requestDefineProfile
  dsimp only
  split
  · exact .answer .refl
  · rename_i p mode hok
    exact .answer (State.modProfile_maintains (fun hp => absurd hp (State.defineChecks_ok hok)) rfl rfl rfl rfl)

theorem requestReadProfile_maintains (profile : Byte) : s.Maintains (requestReadProfile profile s) := by
  unfold requestReadProfile
  split <;> exact .answer .refl

theorem requestClearStats_maintains (profile : Byte) : s.Maintains (requestClearStats profile s) := by
  unfold requestClearStats
  split
  · exact .answer .refl
  · exact .answer (State.modProfile_maintains (fun _ => Profile.definitionKept_refl _) rfl rfl rfl rfl)

/-! ### Rings, calibration and notices (chapters 6, 7 and 9) -/

theorem requestSetRing_maintains (bay : Byte) (base length : BitVec 16) (mode : Byte) :
    s.Maintains (requestSetRing bay base length mode s) := by
  unfold requestSetRing
  split
  · exact .answer .refl
  · exact .answer (.modBay (fun _ => rfl) .refl)

theorem requestReadResults_maintains (bay max : Byte) : s.Maintains (requestReadResults bay max s) := by
  unfold requestReadResults
  split
  · exact .answer .refl
  · exact .answer (.modBay (fun _ => rfl) .refl)

theorem requestClearDrops_maintains (bay : Byte) (drops overwrites : BitVec 16) :
    s.Maintains (requestClearDrops bay drops overwrites s) := by
  unfold requestClearDrops State.clearLosses
  split
  · exact .answer .refl
  · rename_i b _
    have lowered : s.Maintains (s.modBay b (fun x => { x with ring := x.ring.lowerCounts drops overwrites })) :=
      .modBay (fun _ => rfl) .refl
    dsimp only
    split
    · exact .answer (lowered.kept rfl rfl (fun _ => rfl) rfl)
    · exact lowered.answer

theorem requestRingStatus_maintains (bay : Byte) : s.Maintains (requestRingStatus bay s) := by
  unfold requestRingStatus
  split <;> exact .answer .refl

theorem requestWriteCal_maintains (bay : Byte) (gain offset : BitVec 16) :
    s.Maintains (requestWriteCal bay gain offset s) := by
  unfold requestWriteCal
  split
  · exact .answer .refl
  · split
    · exact .answer .refl
    · exact .answer (.modBay (fun _ => rfl) .refl)

theorem requestReadCal_maintains (bay : Byte) : s.Maintains (requestReadCal bay s) := by
  unfold requestReadCal
  split <;> exact .answer .refl

theorem requestUnlockCal_maintains : s.Maintains (requestUnlockCal s) := by
  unfold requestUnlockCal
  split
  · exact .answer (.kept .refl rfl rfl (fun _ => rfl) rfl)
  · exact .answer .refl

theorem requestPollNotice_maintains : s.Maintains (requestPollNotice s) := by
  unfold requestPollNotice
  split
  · exact .answer .refl
  · exact .answer (.kept .refl rfl rfl (fun _ => rfl) rfl)

theorem eventConversionEnd_maintains (code : BitVec 12) : s.Maintains (eventConversionEnd code s) := by
  unfold eventConversionEnd
  split
  · exact .refl
  · rename_i b ends tied _
    split
    · refine State.Maintains.refl.ofTables (by simp) (by simp) (fun ha => ?_) (by simp)
      exact State.accumulatorsConsistent_congr (State.creditSample_accumulatorsConsistent ha b tied code) fun c => by
        simp [State.bay_eq_get]
    · exact .refl

/-! ### Run state and stop line (chapter 8) -/

theorem requestSetParam_maintains (number : Byte) (value : BitVec 32) : s.Maintains (requestSetParam number value s) := by
  refine .answer ?_
  unfold State.setParameter
  split <;> exact .kept .refl rfl rfl (fun _ => rfl) rfl

theorem requestResume_maintains : s.Maintains (requestResume s) := by
  unfold requestResume
  split
  · exact .answer .refl
  · split
    · exact .answer .refl
    · exact .answer (.foldl (fun _ _ => .beginFrame .refl) _ (.kept .refl rfl rfl (fun _ => rfl) rfl))

theorem State.abortBay_maintains : s.Maintains (s.abortBay b) := by
  unfold State.abortBay
  split
  · exact .refl
  · exact .modBay (fun _ => rfl) (.dropQueue (.loseAsk (.modBay Bay.abandonCycle_window .refl)) rfl)

/-- The abort flags the OPEN gathers (R81). -/
theorem State.flagAborted_maintains : s.Maintains s.flagAborted := by
  refine ⟨fun ⟨hg, hu⟩ => ⟨fun i => ?_, State.inUseAgrees_congr hu (fun i p => ?_) fun _ => rfl⟩, id, id, id⟩ <;>
    rw [State.flagAborted_gather]
  · exact Gather.consistent_of_same rfl rfl rfl rfl (hg i)
  · rfl

theorem State.abort_maintains : s.Maintains s.abort := by
  have held : s.Maintains { s with run := .held } := .kept .refl rfl rfl (fun _ => rfl) rfl
  exact .foldl (fun _ b => State.abortBay_maintains b) _ (held.trans State.flagAborted_maintains)

theorem eventStopLineChange_maintains (asserted : Bool) : s.Maintains (eventStopLineChange asserted s) := by
  have raised : s.Maintains (({ s with stopLine := asserted } : State).raise .stopLine) :=
    .raise (.kept .refl rfl rfl (fun _ => rfl) rfl)
  unfold eventStopLineChange State.actOnStop
  split
  · exact .refl
  · dsimp only
    split
    · split
      · exact raised.kept rfl rfl (fun _ => rfl) rfl
      · exact raised.trans State.abort_maintains
    · exact raised

/-! ### Power-on, station reset and start-up (R17, R158, R160) -/

/-- Gathers and profiles at their values of power-on, and every window CLOSED. -/
theorem State.Maintains.of_cleared {t : State} (hg : t.gathers = State.reset.gathers)
    (hp : t.profiles = State.reset.profiles) (hw : ∀ b, (t.bay b).window = .closed)
    (hport : s.port.consistent → t.port.consistent) : s.Maintains t where
  counts _ := by
    refine ⟨State.gathersConsistent_congr State.reset_tableAgrees.gathers hg, ?_⟩
    refine State.inUseAgrees_congr State.reset_inUseAgrees (fun i p => ?_) fun p => ?_
    · rw [State.gather_eq_get, hg]; rfl
    · rw [State.profile_eq_get, hp]; rfl
  profiles _ := by
    have hprofile : ∀ p, t.profile p = State.reset.profile p := fun p => by rw [State.profile_eq_get, hp]; rfl
    simpa only [State.profilesConsistent, hprofile] using State.reset_profilesConsistent
  accumulators _ b a ha := by rw [hw] at ha; exact nomatch ha
  port := hport

theorem State.stationReset_port : s.stationReset.port = s.abort.port := by simp only [State.stationReset]

theorem requestStationReset_maintains : s.Maintains (requestStationReset s) := by
  have hgathers : s.stationReset.gathers = Vector.replicate 16 .free := rfl
  have hprofiles : s.stationReset.profiles = Profile.table := rfl
  refine .answer (.of_cleared hgathers hprofiles (fun b => ?_) fun hp => ?_)
  · rw [State.stationReset_bay]; rfl
  · rw [State.stationReset_port]; exact State.abort_maintains.port hp

theorem State.poweredOn_maintains (stopAsserted : Bool) (contacts : BaySet) (attached : Bool) :
    s.Maintains (s.poweredOn stopAsserted contacts attached) := by
  refine .of_cleared rfl rfl (fun b => ?_) fun _ => ?_
  · rw [State.poweredOn_bay]; rfl
  · cases attached <;> rfl

theorem State.startedUp_maintains : s.Maintains s.startedUp :=
  .kept .refl rfl rfl (fun c => by rw [State.startedUp_bay]) rfl

end

end Sys2Proof.Machine
end

section
/-! PROOFS. Every step keeps the in-use counts, the profile table, the accumulators and the request buffer: each request and
each event does, and so does what a command finds carried out before it. -/

namespace Sys2Proof.Machine

variable {s : State}

/-! ### The port's own commands (chapter 10) -/

/-- A frame that ends badly leaves the pipe accepting data (R172, R173). -/
theorem State.discard_or_maintains (p : Prop) [Decidable p] (h : p → s.port.accepting) :
    s.Maintains (if p then s.modPort Port.discard else s) := by
  split
  · rename_i hp
    obtain ⟨hattached, -⟩ := s.port.accepting_iff.1 (h hp)
    exact .modPort .refl fun hcons => Port.discard_consistent hcons hattached
  · exact .refl

theorem eventRequestFrameCheckFail_maintains (f : RequestFrame) : s.Maintains (eventRequestFrameCheckFail f s) :=
  State.discard_or_maintains _ fun h => by
    simp only [Bool.and_eq_true] at h
    obtain ⟨⟨hfits, -⟩, -⟩ := h
    exact Port.accepting_of_fits hfits

theorem eventRequestLengthDiscard_maintains (length : BitVec 16) : s.Maintains (eventRequestLengthDiscard length s) :=
  State.discard_or_maintains _ fun h => Port.accepting_of_fits (Bool.and_eq_true_iff.1 h).1

theorem eventRequestGapExpiry_maintains : s.Maintains (eventRequestGapExpiry s) :=
  State.discard_or_maintains _ fun h => ((s.port.gapRunOut_iff _).1 h).1

theorem execRequestFrameAccepted_maintains (f : RequestFrame) {t : State} (ht : execRequestFrameAccepted f s = .next t) :
    s.Maintains t := by
  obtain rfl := Host.Outcome.next.inj ht
  split
  · rename_i h
    simp only [Bool.and_eq_true] at h
    obtain ⟨⟨hfits, -⟩, -⟩ := h
    exact .takeRequests (.modPort .refl fun hcons => Port.accept_consistent hcons (Port.accepting_of_fits hfits) f)
  · exact .refl

theorem execRequestSyncReceived_maintains (byte : Byte) {t : State} (ht : execRequestSyncReceived byte s = .next t) :
    s.Maintains t := by
  obtain rfl := Host.Outcome.next.inj ht
  refine .modPort .refl fun hcons => ?_
  split
  · rename_i hp
    exact Port.receive_consistent hcons hp byte s.clock
  · exact hcons

theorem execReplyDelivered_maintains {t : State} (ht : execReplyDelivered s = .next t) : s.Maintains t := by
  obtain rfl := Host.Outcome.next.inj ht
  split
  · exact .modPort .refl Port.deliver_consistent
  · exact .refl

theorem execLinkDetach_maintains {t : State} (ht : execLinkDetach s = .next t) : s.Maintains t := by
  obtain rfl := Host.Outcome.next.inj ht
  split
  · exact .modPort .refl Port.detach_consistent
  · exact .refl

theorem execLinkAttach_maintains {t : State} (ht : execLinkAttach s = .next t) : s.Maintains t := by
  obtain rfl := Host.Outcome.next.inj ht
  split
  · exact .refl
  · exact .modPort .refl Port.attach_consistent

theorem execStartupDebounceEnd_maintains {t : State} (ht : execStartupDebounceEnd s = .next t) : s.Maintains t := by
  obtain rfl := Host.Outcome.next.inj ht
  split
  · exact .takeRequests State.startedUp_maintains
  · exact .refl

/-! ### Every command -/

/-- The requests, by their own lemmas; no other command is carried out (R175). -/
theorem State.carryOut_maintains (c : Instr) : s.Maintains (s.carryOut c) := by
  cases c
  case setParam => exact requestSetParam_maintains _ _
  case resume => exact requestResume_maintains
  case stationReset => exact requestStationReset_maintains
  case bayStatus => exact requestBayStatus_maintains _
  case setSupply => exact requestSetSupply_maintains _ _
  case cycleBay => exact requestCycleBay_maintains _ _ _
  case releaseBay => exact requestReleaseBay_maintains _
  case resetBay => exact requestResetBay_maintains _
  case setLineRate => exact requestSetLineRate_maintains _ _
  case putTunnel => exact requestPutTunnel_maintains _ _
  case getTunnel => exact requestGetTunnel_maintains _
  case peekTunnel => exact requestPeekTunnel_maintains _
  case armGather => exact requestArmGather_maintains _ _ _ _ _ _ _
  case gatherStatus => exact requestGatherStatus_maintains _ _
  case gatherSlot => exact requestGatherSlot_maintains _ _ _
  case cancelGather => exact requestCancelGather_maintains _ _
  case releaseGather => exact requestReleaseGather_maintains _ _
  case defineProfile => exact requestDefineProfile_maintains _ _ _ _ _ _ _ _ _
  case readProfile => exact requestReadProfile_maintains _
  case clearStats => exact requestClearStats_maintains _
  case setRing => exact requestSetRing_maintains _ _ _ _
  case readResults => exact requestReadResults_maintains _ _
  case clearDrops => exact requestClearDrops_maintains _ _ _
  case ringStatus => exact requestRingStatus_maintains _
  case pollNotice => exact requestPollNotice_maintains
  case writeCal => exact requestWriteCal_maintains _ _ _
  case readCal => exact requestReadCal_maintains _
  case unlockCal => exact requestUnlockCal_maintains
  case hold | clearNotices | lockCal => exact .answer (.kept .refl rfl rfl (fun _ => rfl) rfl)
  case identify | getParam | readClock => exact .answer .refl
  all_goals exact .refl

theorem State.before_maintains (c : Instr) : s.Maintains (s.before c) :=
  .foldl (fun t _ => by
    unfold State.carryInHand
    split
    · exact .refl
    · split
      · exact .refl
      · exact State.carryOut_maintains _) _ .refl

/-- A request at the part waits or is carried out. -/
theorem State.serve_maintains {c : Instr} {f : State → State} (hf : ∀ u, f u = u.carryOut c) :
    s.Maintains (s.serve c f) := by
  unfold State.serve
  split
  · exact .keepWaiting .refl c
  · rw [hf]
    exact (State.before_maintains c).trans (State.carryOut_maintains c)

/-- Every command: a request through carryOut, an event through its own lemma on what was carried out before it, and what
passes the requests as it stands. -/
theorem exec_maintains (c : Instr) {t : State} (ht : exec c s = .next t) : s.Maintains t := by
  have before := State.before_maintains (s := s) c
  cases c
  case startupDebounceEnd => exact execStartupDebounceEnd_maintains ht
  case requestFrameAccepted => exact execRequestFrameAccepted_maintains _ ht
  case requestSyncReceived => exact execRequestSyncReceived_maintains _ ht
  case replyDelivered => exact execReplyDelivered_maintains ht
  case linkDetach => exact execLinkDetach_maintains ht
  case linkAttach => exact execLinkAttach_maintains ht
  all_goals obtain rfl := Host.Outcome.next.inj ht
  case powerOn => exact State.poweredOn_maintains _ _ _
  case requestFrameCheckFail => exact before.trans (eventRequestFrameCheckFail_maintains _)
  case requestLengthDiscard => exact before.trans (eventRequestLengthDiscard_maintains _)
  case requestGapExpiry => exact before.trans eventRequestGapExpiry_maintains
  case signOnAccepted => exact before.trans (eventSignOnAccepted_maintains _ _)
  case answerAccepted => exact before.trans (eventAnswerAccepted_maintains _ _)
  case tunnelInAccepted => exact before.trans (eventTunnelInAccepted_maintains _ _)
  case bayFrameRejected | bayFrameLengthDiscard | bayFrameGapExpiry | syncGapExpiry =>
    exact before.trans (State.modLink_or_maintains _ _ _)
  case bayCharacterFault | baySyncReceived => exact before.modBay fun _ => rfl
  case dispatch => exact before.trans (eventDispatch_maintains _)
  case askSent => exact before.trans (eventAskSent_maintains _)
  case tunnelOutSent => exact before.trans (eventTunnelOutSent_maintains _)
  case answerTimerExpiry => exact before.trans (eventAnswerTimerExpiry_maintains _)
  case wakeTimerExpiry => exact before.trans (eventWakeTimerExpiry_maintains _)
  case cycleTimerExpiry => exact before.trans (eventCycleTimerExpiry_maintains _)
  case presenceContactChange => exact before.trans (eventPresenceContactChange_maintains _ _)
  case debounceExpiry => exact before.trans (eventDebounceExpiry_maintains _)
  case trip => exact before.trans (eventTrip_maintains _ _)
  case sag => exact before.trans (eventSag_maintains _)
  case railRiseClear => exact before.trans (eventRailRiseClear_maintains _)
  case stopLineChange => exact before.trans (eventStopLineChange_maintains _)
  case conversionEnd => exact before.trans (eventConversionEnd_maintains _)
  all_goals exact State.serve_maintains fun _ => rfl

/-- What the block does of its own accord reaches the queue of commands, the clock and the gap timer of the port. -/
theorem State.idle_maintains : s.Maintains s.idle := by
  unfold State.idle
  split
  · exact .kept .refl rfl rfl (fun _ => rfl) rfl
  · split
    · exact .kept .refl rfl rfl (fun _ => rfl) rfl
    · exact .ofTables .refl rfl rfl id Port.passMicrosecond_consistent

/-- Settles O57: the command at the front maintains the four invariants (exec_maintains), and so does what the block does of
its own accord. -/
theorem everyStepKeepsCountsAndBuffer : Obligations.EveryStepKeepsCountsAndBuffer := by
  intro s t ht
  have step : s.Maintains t := by
    unfold step at ht
    split at ht
    · obtain rfl := Host.Outcome.next.inj ht
      exact State.idle_maintains
    · rename_i rest _
      have front : s.Maintains { s with pending := rest } := .kept .refl rfl rfl (fun _ => rfl) rfl
      exact front.trans (exec_maintains _ ht)
  exact ⟨step.counts, step.profiles, step.accumulators, step.port⟩

end Sys2Proof.Machine
end

section
/-! PROOFS. The Evaluation Unit (chapter 5): scaling by the remainder of the quotient, the range of the scaled value, and
the judgement of a slot bit by bit (R99 to R108). -/

namespace Sys2Proof.Machine

/-! ### Scaling (R100, R101) -/

/-- The remainder of the quotient that truncates has the sign of the dividend and is smaller than the divisor. -/
theorem tdiv_remainder (P : Int) {d : Int} (hd : 0 < d) :
    (0 ≤ P → 0 ≤ P - P.tdiv d * d) ∧ (P ≤ 0 → P - P.tdiv d * d ≤ 0) ∧ (P - P.tdiv d * d).natAbs < d.natAbs := by
  have remainder : P - P.tdiv d * d = P.tmod d := by rw [Int.tmod_def, Int.mul_comm]
  rw [remainder]
  refine ⟨fun h => Int.tmod_nonneg d h, fun h => ?_, ?_⟩
  · have := Int.tmod_nonneg d (Int.neg_nonneg.2 h)
    rw [Int.neg_tmod] at this
    omega
  · rw [Int.natAbs_tmod]
    exact Nat.mod_lt _ (by omega)

/-- The rounded quotient is nearest, and at a tie it is the one further from zero: a remainder of half the divisor or more
moves the truncated quotient one away from zero. -/
theorem roundedQuotient_nearest (P : Int) {d : Int} (hd : 0 < d) :
    2 * (P - roundedQuotient P d * d).natAbs ≤ d.natAbs ∧
    (2 * (P - roundedQuotient P d * d).natAbs = d.natAbs → P.natAbs < (roundedQuotient P d * d).natAbs) := by
  obtain ⟨hpos, hneg, hlt⟩ := tdiv_remainder P hd
  unfold roundedQuotient
  dsimp only
  split
  · split
    · rw [Int.add_mul]; omega
    · rw [Int.sub_mul]; omega
  · omega

theorem int32Min_le_max : int32Min ≤ int32Max := by decide

theorem clampInt_range {low high : Int} (h : low ≤ high) (x : Int) :
    low ≤ clampInt low high x ∧ clampInt low high x ≤ high := by
  unfold clampInt
  split <;> [skip; split] <;> omega

/-- Only a value in the range is left as it is. -/
theorem clampInt_ne_iff {low high x : Int} : clampInt low high x ≠ x ↔ x < low ∨ high < x := by
  unfold clampInt
  split <;> [skip; split] <;> omega

theorem saturate32_toInt (S : Int) : (saturate32 S).toInt = clampInt int32Min int32Max S := by
  obtain ⟨low, high⟩ := clampInt_range int32Min_le_max S
  exact BitVec.toInt_ofInt_eq_self (by decide) low (Int.lt_add_one_of_le high)

theorem clipped_iff (S : Int) : clipped S = true ↔ clampInt int32Min int32Max S ≠ S := by
  rw [clampInt_ne_iff]
  simp [clipped]

/-- Settles O50: the quotient is the rounded one (roundedQuotient_nearest), and the scaled value is the clamped result. -/
theorem scalingRoundsAndSaturates : Obligations.ScalingRoundsAndSaturates := by
  intro v m d b hd q
  have quotient : q = roundedQuotient (v * m) d := by simp only [q, scaleExact]; omega
  obtain ⟨nearest, tie⟩ := roundedQuotient_nearest (v * m) hd
  rw [quotient, saturate32_toInt]
  exact ⟨nearest, tie, rfl, clipped_iff _⟩

/-! ### The scaled value and the indicators (R99, R102 to R107) -/

/-- A scaled value is formed of an answer with status 0 and a value, under a NUMERIC profile (R99). -/
theorem exactScaled_eq_some {p : Profile} {x : Slot} {S : Int} :
    exactScaled p x = some S ↔ (x.ending = some .answered ∧ x.status = some 0 ∧ p.mode = .numeric) ∧
      ∃ v, x.raw = some v ∧ scaleExact v.toInt p.m.toInt p.d.toNat p.b.toInt = S := by
  unfold exactScaled
  split
  · rename_i status raw hending hstatus hraw
    simp [hending, hstatus, hraw, and_assoc]
  · rename_i h
    simp only [reduceCtorEq, false_iff, not_and, not_exists]
    rintro ⟨hending, hstatus, -⟩ v hraw
    exact absurd hraw (h 0 v hending hstatus)

/-- An indicator that is bit n of the set, when its condition holds. -/
theorem setWhen_getLsbD {i : Indicators} {n : Nat} (hi : i = BitVec.twoPow 8 n) (hn : n < 8) (p : Bool) (k : Nat) :
    (setWhen p i).getLsbD k = (p && decide (k = n)) := by
  subst hi
  cases p <;> simp [setWhen, hn, eq_comm]

/-- A scaled value sets indicators 0 to 3 alone, each by its own rule (R101, R103). -/
theorem valueIndicators_getLsbD (p : Profile) (S : Int) (k : Nat) :
    (valueIndicators p S).getLsbD k =
      ((decide ((saturate32 S).toInt < p.low.toInt) && decide (k = 0)) ||
       (decide (p.high.toInt < (saturate32 S).toInt) && decide (k = 1)) ||
       (decide ((saturate32 S).toInt = p.low.toInt ∨ (saturate32 S).toInt = p.high.toInt) && decide (k = 2)) ||
       (clipped S && decide (k = 3))) := by
  simp only [valueIndicators, BitVec.getLsbD_or, Bool.decide_or,
    setWhen_getLsbD (i := indLow) (n := 0) rfl (by decide), setWhen_getLsbD (i := indHigh) (n := 1) rfl (by decide),
    setWhen_getLsbD (i := indEdge) (n := 2) rfl (by decide),
    setWhen_getLsbD (i := indClipped) (n := 3) rfl (by decide)]

/-- Indicators 0 to 3 are those of the exact result, 4 to 7 each by its own rule (R102 to R107). -/
theorem indicatorsOf_getLsbD (p : Profile) (measure : Bool) (x : Slot) (k : Nat) :
    (indicatorsOf p measure x).getLsbD k =
      ((exactScaled p x).any (fun S => (valueIndicators p S).getLsbD k) || (absentFound p x && decide (k = 4)) ||
       (lateFound p x && decide (k = 5)) || (drawFound p measure x && decide (k = 6)) ||
       (silentFound x && decide (k = 7))) := by
  have scaled : ((exactScaled p x).elim 0 (valueIndicators p)).getLsbD k =
      (exactScaled p x).any fun S => (valueIndicators p S).getLsbD k := by
    cases exactScaled p x <;> simp
  simp only [indicatorsOf, BitVec.getLsbD_or, scaled,
    setWhen_getLsbD (i := indAbsent) (n := 4) rfl (by decide), setWhen_getLsbD (i := indLate) (n := 5) rfl (by decide),
    setWhen_getLsbD (i := indDraw) (n := 6) rfl (by decide), setWhen_getLsbD (i := indSilent) (n := 7) rfl (by decide)]

theorem absentFound_iff (p : Profile) (x : Slot) : absentFound p x = true ↔
    x.ending = some .answered ∧ (x.status ≠ some 0 ∨ p.mode = .numeric ∧ x.raw = none) := by
  simp [absentFound]

theorem lateFound_iff (p : Profile) (x : Slot) : lateFound p x = true ↔
    x.ending = some .answered ∧ p.latencyMs ≠ 0 ∧ p.latencyMs.toNat * 1000 < x.latency := by
  simp [lateFound, and_assoc]

theorem drawFound_iff (p : Profile) (measure : Bool) (x : Slot) : drawFound p measure x = true ↔
    p.currentMa ≠ 0 ∧ measure = true ∧ ∃ st, x.stats = some st ∧ p.currentMa.toNat < st.rms := by
  simp [drawFound, and_assoc, Option.any_eq_true]

theorem silentFound_iff (x : Slot) :
    silentFound x = true ↔ x.ending ∈ [some .timedOut, some .lost, some .unreached] := by
  simp [silentFound, or_assoc]

/-- The verdict is FAIL when an indicator is in the fail mask (R108). -/
theorem verdictOf_eq_fail (indicators mask : Indicators) : verdictOf indicators mask = .fail ↔
    ∃ k, k < 8 ∧ indicators.getLsbD k = true ∧ mask.getLsbD k = true := by
  have common : indicators &&& mask = 0 ↔ ∀ k < 8, (indicators &&& mask).getLsbD k = false :=
    ⟨fun h k _ => by simp [h], fun h => BitVec.eq_of_getLsbD_eq fun k hk => by simpa using h k hk⟩
  unfold verdictOf
  split
  · rename_i h
    simpa using common.1 h
  · rename_i h
    simpa only [common, BitVec.getLsbD_and, not_forall, Bool.not_eq_false, Bool.and_eq_true, exists_prop, true_iff]
      using h

theorem verdictOf_eq_pass (indicators mask : Indicators) :
    verdictOf indicators mask = .pass ↔ verdictOf indicators mask ≠ .fail := by
  unfold verdictOf
  split <;> simp

/-- Settles O51: the scaled value is the saturated exact result, and each bit of the indicators is read by
indicatorsOf_getLsbD. -/
theorem aSlotIsJudgedByItsProfile : Obligations.ASlotIsJudgedByItsProfile := by
  intro p mask measure x y scaledWhen
  have scaled : y.scaled = (exactScaled p x).map saturate32 := rfl
  have bit : ∀ k, y.indicators.getLsbD k = _ := indicatorsOf_getLsbD p measure x
  simp only [valueIndicators_getLsbD] at bit
  have formed : ∀ v, scaledWhen → x.raw = some v →
      exactScaled p x = some (scaleExact v.toInt p.m.toInt p.d.toNat p.b.toInt) := fun v hw hv => by
    obtain ⟨hending, hstatus, -, hmode⟩ := hw
    exact exactScaled_eq_some.2 ⟨⟨hending, hstatus, hmode⟩, v, hv, rfl⟩
  refine ⟨⟨fun h => ?_, fun hw => ?_⟩, fun v hw hv => ?_, ?_, ?_, ?_, ?_, ?_, ?_, ?_, ?_, verdictOf_eq_fail _ _,
    verdictOf_eq_pass _ _, rfl⟩
  · rw [scaled, Option.isSome_map] at h
    obtain ⟨S, hS⟩ := Option.isSome_iff_exists.1 h
    obtain ⟨⟨hending, hstatus, hmode⟩, v, hv, -⟩ := exactScaled_eq_some.1 hS
    exact ⟨hending, hstatus, by rw [hv]; rfl, hmode⟩
  · have ⟨_, _, hraw, _⟩ := hw
    obtain ⟨v, hv⟩ := Option.isSome_iff_exists.1 hraw
    rw [scaled, formed v hw hv]
    rfl
  · rw [bit, scaled, formed v hw hv]
    simp
  · rw [bit, scaled]
    simp [Option.any_eq_true]
  · rw [bit, scaled]
    simp [Option.any_eq_true]
  · rw [bit, scaled]
    simp [Option.any_eq_true]
  · rw [bit, scaled]
    cases exactScaled p x <;> simp
  · rw [bit, ← absentFound_iff]
    simp
  · rw [bit, ← lateFound_iff]
    simp
  · rw [bit, ← drawFound_iff]
    simp
  · rw [bit, ← silentFound_iff]
    simp

end Sys2Proof.Machine
end

section
/-! PROOFS. DEFINE_PROFILE and CLEAR_STATS (R93, R94, R97): the checks in their order, the definition taken, and the
statistics cleared. -/

namespace Sys2Proof.Machine

variable {s : State}

/-! ### Operands -/

theorem valueModeOf_eq_none {n : Byte} : valueModeOf n = none ↔ 1 < n.toNat := by
  have zero : n = 0 ↔ n.toNat = 0 := BitVec.toNat_eq
  have one : n = 1 ↔ n.toNat = 1 := BitVec.toNat_eq
  simp only [valueModeOf, zero, one]
  split <;> [skip; split] <;> simp only [reduceCtorEq, true_iff, false_iff] <;> omega

/-- The number of profile 0 is 0 alone. -/
theorem eq_zero_of_profileOf {n : Byte} {p : ProfileNo} (h : profileOf n = some p) : p = 0 ↔ n = 0 := by
  have number := profileOf_eq_some.1 h
  rw [Fin.ext_iff, ← number]
  exact (BitVec.toNat_eq (y := (0 : Byte))).symm

/-- The latency limit is brought down to 60000 (R94). -/
theorem latencyInEffect_eq (ms : BitVec 16) : latencyInEffect ms = if 60000 < ms.toNat then 60000 else ms := by
  unfold latencyInEffect clampNat
  rw [if_neg ms.toNat.not_lt_zero]
  split
  · rfl
  · rw [BitVec.ofNat_toNat, BitVec.setWidth_eq]

/-! ### The checks of DEFINE_PROFILE (R93) -/

section
variable {profile valueMode : Byte} {d : BitVec 16} {low high : BitVec 32} {current : BitVec 16}

/-- With a profile and a value mode named, the other operands are judged, and then the use of the profile. -/
theorem State.defineChecks_eq {p : ProfileNo} {v : ValueMode} (hp : profileOf profile = some p) (hz : profile ≠ 0)
    (hv : valueModeOf valueMode = some v) : s.defineChecks profile valueMode d low high current =
      if d.toNat = 0 ∨ 32767 < d.toNat ∨ high.toInt < low.toInt ∨ 8191 < current.toNat then .error .badParam
      else if 0 < (s.profile p).inUse then .error .busy else .ok (p, v) := by
  have hp0 : p ≠ 0 := fun h => hz ((eq_zero_of_profileOf hp).1 h)
  simp only [State.defineChecks, hp, hp0, hv, if_false, ← or_assoc]
  split <;> [skip; split <;> [skip; split]] <;> simp_all

theorem State.defineChecks_bad (h : profile = 0 ∨ 31 < profile.toNat ∨ 1 < valueMode.toNat ∨ d.toNat = 0 ∨
    32767 < d.toNat ∨ high.toInt < low.toInt ∨ 8191 < current.toNat) :
    s.defineChecks profile valueMode d low high current = .error .badParam := by
  cases hp : profileOf profile with
  | none => simp [State.defineChecks, hp]
  | some p =>
    by_cases hz : profile = 0
    · simp [State.defineChecks, hp, (eq_zero_of_profileOf hp).2 hz]
    · cases hv : valueModeOf valueMode with
      | none => simp [State.defineChecks, hp, hv]
      | some v =>
        have named : ¬ 31 < profile.toNat ∧ ¬ 1 < valueMode.toNat := by
          simp [← profileOf_eq_none, ← valueModeOf_eq_none, hp, hv]
        rw [State.defineChecks_eq hp hz hv, if_pos (by tauto)]

end

theorem requestDefineProfile_refused {profile mode : Byte} {m d : BitVec 16} {b low high : BitVec 32}
    {latency current : BitVec 16} {status : Status}
    (h : s.defineChecks profile mode d low high current = .error status) :
    requestDefineProfile profile mode m d b low high latency current s =
      s.answer (.defineProfile profile mode m d b low high latency current) status [] := by
  simp only [requestDefineProfile, h]

theorem requestDefineProfile_ok {profile mode : Byte} {m d : BitVec 16} {b low high : BitVec 32}
    {latency current : BitVec 16} {p : ProfileNo} {v : ValueMode}
    (h : s.defineChecks profile mode d low high current = .ok (p, v)) :
    requestDefineProfile profile mode m d b low high latency current s =
      (s.setProfile p ((s.profile p).define v m d b low high latency current)).answer
        (.defineProfile profile mode m d b low high latency current) .ok
        (profile :: put 2 (latencyInEffect latency)) := by
  simp only [requestDefineProfile, h]
  rfl

/-! ### The profile a number names (R96, R97) -/

theorem State.namedProfile_absent {profile : Byte} (h : 31 < profile.toNat) :
    s.namedProfile profile = .error .badParam := by
  simp only [State.namedProfile, profileOf_eq_none.2 h]

theorem State.namedProfile_undefined {profile : Byte} {p : ProfileNo} (hp : profileOf profile = some p)
    (h : (s.profile p).defined = false) : s.namedProfile profile = .error .notFound := by
  simp [State.namedProfile, hp, h]

theorem State.namedProfile_defined {profile : Byte} {p : ProfileNo} (hp : profileOf profile = some p)
    (h : (s.profile p).defined = true) : s.namedProfile profile = .ok p := by
  simp [State.namedProfile, hp, h]

theorem requestClearStats_refused {profile : Byte} {status : Status} (h : s.namedProfile profile = .error status) :
    requestClearStats profile s = s.answer (.clearStats profile) status [] := by
  simp only [requestClearStats, h]

theorem requestClearStats_ok {profile : Byte} {p : ProfileNo} (h : s.namedProfile profile = .ok p) :
    requestClearStats profile s =
      (s.setProfile p (s.profile p).clearStats).answer (.clearStats profile) .ok [] := by
  simp only [requestClearStats, h]
  rfl

/-- Settles O42: the checks of DEFINE_PROFILE by defineChecks_eq, and CLEAR_STATS by what namedProfile finds. -/
theorem profilesAreDefinedAndCleared : Obligations.ProfilesAreDefinedAndCleared := by
  intro s profile mode m d b low high latency current hclear request effective
  have hdefine : exec request s = .next (requestDefineProfile profile mode m d b low high latency current s) :=
    State.next_serve_of_clear hclear request (requestDefineProfile profile mode m d b low high latency current)
  have hclears : exec (.clearStats profile) s = .next (requestClearStats profile s) :=
    State.next_serve_of_clear hclear (.clearStats profile) (requestClearStats profile)
  have effect : latencyInEffect latency = effective := latencyInEffect_eq latency
  refine ⟨fun hbad => ⟨_, hdefine, ?_⟩, fun p v hp hz hv hd0 hd hlimits hcurrent => ?_, fun hbad => ⟨_, hclears, ?_⟩,
    fun p hp hundefined => ⟨_, hclears, ?_⟩, fun p hp hdefined => ⟨_, hclears, ?_⟩⟩
  · rw [requestDefineProfile_refused (State.defineChecks_bad hbad)]
    exact s.answer_repliedAs ..
  · have checks : s.defineChecks profile mode d low high current =
        if 0 < (s.profile p).inUse then .error .busy else .ok (p, v) := by
      rw [State.defineChecks_eq hp hz hv, if_neg (by omega)]
    refine ⟨fun hbusy => ⟨_, hdefine, ?_⟩, fun hfree => ⟨_, hdefine, ?_⟩⟩
    · rw [if_pos hbusy] at checks
      rw [requestDefineProfile_refused checks]
      exact s.answer_repliedAs ..
    · rw [if_neg (by omega)] at checks
      rw [requestDefineProfile_ok checks, effect]
      simp only [Profile.define, effect, hfree]
      exact State.answer_repliedAs ..
  · rw [requestClearStats_refused (State.namedProfile_absent hbad)]
    exact s.answer_repliedAs ..
  · rw [requestClearStats_refused (State.namedProfile_undefined hp hundefined)]
    exact s.answer_repliedAs ..
  · rw [requestClearStats_ok (State.namedProfile_defined hp hdefined)]
    exact State.answer_repliedAs ..

end Sys2Proof.Machine
end

section
/-! PROOFS. READ_PROFILE and RING_STATUS (R96, R139): the bodies by their fields, and the oldest sequence read from the
oldest record. -/

namespace Sys2Proof.Machine

variable {s : State}

/-! ### A number read from its bytes and put again -/

theorem readLE_lt : ∀ bs : List Byte, readLE bs < 256 ^ bs.length
  | [] => by simp [readLE]
  | x :: bs => by
    have hbs := readLE_lt bs
    have hx : x.toNat < 256 := x.isLt
    rw [readLE, List.length_cons, Nat.pow_succ]
    omega

theorem leBytes_readLE : ∀ bs : List Byte, leBytes bs.length (readLE bs) = bs
  | [] => rfl
  | x :: bs => by
    have hx : x.toNat < 256 := x.isLt
    have low : BitVec.ofNat 8 (readLE (x :: bs)) = x := BitVec.eq_of_toNat_eq <| by
      simpa [readLE, Nat.add_mul_mod_self_left] using hx
    have high : readLE (x :: bs) / 256 = readLE bs := by
      rw [readLE]
      omega
    rw [List.length_cons, leBytes, low, high, leBytes_readLE bs]

/-- A field as wide as its bytes is put as it was read. -/
theorem put_field {w : Nat} {bs : List Byte} (h : 256 ^ bs.length = 2 ^ w) : put bs.length (field w bs) = bs := by
  rw [put, field, BitVec.toNat_ofNat, Nat.mod_eq_of_lt (h ▸ readLE_lt bs), leBytes_readLE]

theorem bytesAt_length {body : List Byte} {offset size : Nat} (h : offset + size ≤ body.length) :
    (bytesAt body offset size).length = size := by
  rw [bytesAt, List.length_take, List.length_drop]
  omega

/-! ### The fields of READ_PROFILE (R183) -/

/-- The presence bits of READ_PROFILE (R181). -/
def Profile.presenceBits (p : Profile) : Nat := bitWhen p.minimum.isSome 0 + bitWhen p.maximum.isSome 1

theorem Profile.presenceBits_eq (p : Profile) :
    p.presenceBits = (if p.minimum.isSome then 1 else 0) + (if p.maximum.isSome then 2 else 0) := rfl

theorem Profile.presenceBits_lt (p : Profile) : p.presenceBits < 256 := by
  have hlow := bitWhen_le p.minimum.isSome 0
  have hhigh := bitWhen_le p.maximum.isSome 1
  unfold Profile.presenceBits
  omega

def profileFields (n : ProfileNo) (p : Profile) : List (List Byte) :=
  [[BitVec.ofNat 8 n.val], [p.mode.code], put 2 p.m, put 2 p.d, put 4 p.b, put 4 p.low, put 4 p.high,
    put 2 p.latencyMs, put 2 p.currentMa, [BitVec.ofNat 8 p.inUse], put 4 p.evaluated, [BitVec.ofNat 8 p.presenceBits],
    putOption 4 p.minimum, putOption 4 p.maximum, put 4 p.fails]

def profileSizes : List Nat := [1, 1, 2, 2, 4, 4, 4, 2, 2, 1, 4, 1, 4, 4, 4]

theorem profileBody_eq_flatten (n : ProfileNo) (p : Profile) : profileBody n p = (profileFields n p).flatten := by
  simp [profileBody, profileFields, Profile.presenceBits]

theorem profileFields_sizes {n : ProfileNo} {p : Profile} : (profileFields n p).map List.length = profileSizes := by
  simp [profileFields, profileSizes, putOption]

theorem profileBody_length {n : ProfileNo} {p : Profile} : (profileBody n p).length = 40 := by
  rw [profileBody_eq_flatten, List.length_flatten, profileFields_sizes]
  rfl

theorem profileBody_field {n : ProfileNo} {p : Profile} (k : Nat) {offset size : Nat} {f : List Byte}
    (hoffset : (profileSizes.take k).sum = offset) (hsize : profileSizes[k]? = some size)
    (hf : (profileFields n p)[k]? = some f) : bytesAt (profileBody n p) offset size = f := by
  rw [profileBody_eq_flatten]
  exact bytesAt_field profileFields_sizes k hoffset hsize hf

theorem ofNat_profileOf {n : Byte} {p : ProfileNo} (h : profileOf n = some p) : BitVec.ofNat 8 p.val = n := by
  rw [← profileOf_eq_some.1 h, BitVec.ofNat_toNat, BitVec.setWidth_eq]

theorem requestReadProfile_refused {profile : Byte} {status : Status} (h : s.namedProfile profile = .error status) :
    requestReadProfile profile s = s.answer (.readProfile profile) status [] := by
  simp only [requestReadProfile, h]

theorem requestReadProfile_ok {profile : Byte} {p : ProfileNo} (h : s.namedProfile profile = .ok p) :
    requestReadProfile profile s = s.answer (.readProfile profile) .ok (profileBody p (s.profile p)) := by
  simp only [requestReadProfile, h]

/-! ### The fields of RING_STATUS (R139, R183) -/

def ringStatusFields (b : BayNo) (r : Ring) (oldest : Option (BitVec 32)) : List (List Byte) :=
  [[BitVec.ofNat 8 b.val], leBytes 2 r.base, leBytes 2 r.length, [r.mode.code], leBytes 2 r.occupancy,
    leBytes 2 r.oldest, [flagByte oldest.isSome], putOption 4 oldest, put 2 r.drops, put 2 r.overwrites,
    put 4 r.nextSeq]

def ringStatusSizes : List Nat := [1, 2, 2, 1, 2, 2, 1, 4, 2, 2, 4]

section
variable {b : BayNo} {r : Ring} {oldest : Option (BitVec 32)}

theorem ringStatusBody_eq_flatten : ringStatusBody b r oldest = (ringStatusFields b r oldest).flatten := by
  simp [ringStatusBody, ringStatusFields]

theorem ringStatusFields_sizes : (ringStatusFields b r oldest).map List.length = ringStatusSizes := by
  simp [ringStatusFields, ringStatusSizes, putOption]

theorem ringStatusBody_length : (ringStatusBody b r oldest).length = 23 := by
  rw [ringStatusBody_eq_flatten, List.length_flatten, ringStatusFields_sizes]
  rfl

theorem ringStatusBody_field (k : Nat) {offset size : Nat} {f : List Byte}
    (hoffset : (ringStatusSizes.take k).sum = offset) (hsize : ringStatusSizes[k]? = some size)
    (hf : (ringStatusFields b r oldest)[k]? = some f) : bytesAt (ringStatusBody b r oldest) offset size = f := by
  rw [ringStatusBody_eq_flatten]
  exact bytesAt_field ringStatusFields_sizes k hoffset hsize hf

end

theorem State.oldestSequence_isSome (b : BayNo) :
    (s.oldestSequence b).isSome = decide (0 < (s.bay b).ring.occupancy) := by
  unfold State.oldestSequence
  split <;> simp_all

/-- The oldest sequence is put as it stands in the cell of the oldest record. -/
theorem State.putOption_oldestSequence {b : BayNo} (h : 0 < (s.bay b).ring.occupancy) :
    putOption 4 (s.oldestSequence b) = bytesAt (s.recordAt b 0) 1 4 := by
  have four : (bytesAt (s.recordAt b 0) 1 4).length = 4 := bytesAt_length (by
    rw [State.recordAt, readCells_length]
    decide)
  have oldest : s.oldestSequence b = some (field 32 (bytesAt (s.recordAt b 0) 1 4)) := if_pos h
  have again := put_field (w := 32) (bs := bytesAt (s.recordAt b 0) 1 4) (by rw [four]; norm_num)
  rw [four] at again
  rw [oldest, putOption_some, again]

theorem requestRingStatus_bad {bay : Byte} (h : bayOf bay = none) :
    requestRingStatus bay s = s.answer (.ringStatus bay) .badParam [] := by
  rw [requestRingStatus, h]

theorem requestRingStatus_ok {bay : Byte} {b : BayNo} (h : bayOf bay = some b) : requestRingStatus bay s =
    s.answer (.ringStatus bay) .ok (ringStatusBody b (s.bay b).ring (s.oldestSequence b)) := by
  rw [requestRingStatus, h]

/-- Settles O12: each field of the two bodies at its offset. -/
theorem profileAndRingReads : Obligations.ProfileAndRingReads := by
  intro s profile bay hclear
  have hread : exec (.readProfile profile) s = .next (requestReadProfile profile s) :=
    State.next_serve_of_clear hclear (.readProfile profile) (requestReadProfile profile)
  have hring : exec (.ringStatus bay) s = .next (requestRingStatus bay s) :=
    State.next_serve_of_clear hclear (.ringStatus bay) (requestRingStatus bay)
  have wide2 : 2 ^ 16 ≤ 256 ^ 2 := by norm_num
  have wide4 : 2 ^ 32 ≤ 256 ^ 4 := by norm_num
  refine ⟨fun hbad => ⟨_, hread, ?_⟩, fun p hp hundefined => ⟨_, hread, ?_⟩, fun p hp hdefined huse => ?_,
    fun hbad => ⟨_, hring, ?_⟩, fun b hb hcons => ?_, by decide, by decide⟩
  · rw [requestReadProfile_refused (State.namedProfile_absent hbad)]
    exact s.answer_repliedAs ..
  · rw [requestReadProfile_refused (State.namedProfile_undefined hp hundefined)]
    exact s.answer_repliedAs ..
  · have field := fun k {offset size f} => profileBody_field (n := p) (p := s.profile p) k (offset := offset)
      (size := size) (f := f)
    obtain ⟨hminimum, hnominimum⟩ := numberAt_of_putOption (field 12 rfl rfl rfl) wide4
    obtain ⟨hmaximum, hnomaximum⟩ := numberAt_of_putOption (field 13 rfl rfl rfl) wide4
    refine ⟨_, profileBody p (s.profile p), hread, ?_, profileBody_length, ?_,
      getElem?_of_bytesAt (field 1 rfl rfl rfl), numberAt_of_put (field 2 rfl rfl rfl) wide2,
      numberAt_of_put (field 3 rfl rfl rfl) wide2, numberAt_of_put (field 4 rfl rfl rfl) wide4,
      numberAt_of_put (field 5 rfl rfl rfl) wide4, numberAt_of_put (field 6 rfl rfl rfl) wide4,
      numberAt_of_put (field 7 rfl rfl rfl) wide2, numberAt_of_put (field 8 rfl rfl rfl) wide2,
      numberAt_of_byte (field 9 rfl rfl rfl) (by omega), numberAt_of_put (field 10 rfl rfl rfl) wide4,
      ?_, hminimum, hnominimum, hmaximum, hnomaximum, numberAt_of_put (field 14 rfl rfl rfl) wide4⟩
    · rw [requestReadProfile_ok (State.namedProfile_defined hp hdefined)]
      exact s.answer_repliedAs ..
    · rw [← ofNat_profileOf hp]
      exact getElem?_of_bytesAt (field 0 rfl rfl rfl)
    · rw [← Profile.presenceBits_eq]
      exact numberAt_of_byte (field 11 rfl rfl rfl) (s.profile p).presenceBits_lt
  · rw [requestRingStatus_bad (bayOf_eq_none.2 hbad)]
    exact s.answer_repliedAs ..
  · have field := fun k {offset size f} => ringStatusBody_field (b := b) (r := (s.bay b).ring)
      (oldest := s.oldestSequence b) k (offset := offset) (size := size) (f := f)
    have bounds : (s.bay b).ring.base ≤ 4096 ∧ (s.bay b).ring.length ≤ 4096 ∧ (s.bay b).ring.occupancy ≤ 4096 ∧
        (s.bay b).ring.oldest ≤ 4096 := by
      simp only [Ring.consistent, Bool.and_eq_true, Bool.or_eq_true, decide_eq_true_eq, beq_iff_eq] at hcons
      omega
    obtain ⟨hbase, hlength, hoccupancy, holdest⟩ := bounds
    refine ⟨_, ringStatusBody b (s.bay b).ring (s.oldestSequence b), hring, ?_, ringStatusBody_length, ?_,
      numberAt_of_leBytes (field 1 rfl rfl rfl) (by omega), numberAt_of_leBytes (field 2 rfl rfl rfl) (by omega),
      getElem?_of_bytesAt (field 3 rfl rfl rfl), numberAt_of_leBytes (field 4 rfl rfl rfl) (by omega),
      numberAt_of_leBytes (field 5 rfl rfl rfl) (by omega), ?_, fun hsome => ?_, fun hnone => ?_,
      numberAt_of_put (field 8 rfl rfl rfl) wide2, numberAt_of_put (field 9 rfl rfl rfl) wide2,
      numberAt_of_put (field 10 rfl rfl rfl) wide4⟩
    · rw [requestRingStatus_ok hb]
      exact s.answer_repliedAs ..
    · rw [← ofNat_bayOf hb]
      exact getElem?_of_bytesAt (field 0 rfl rfl rfl)
    · rw [← State.oldestSequence_isSome]
      exact getElem?_of_bytesAt (field 6 rfl rfl rfl)
    · rw [← State.putOption_oldestSequence hsome]
      exact field 7 rfl rfl rfl
    · obtain ⟨-, absent⟩ := numberAt_of_putOption (field 7 rfl rfl rfl) wide4
      exact absent (if_neg (by omega))

end Sys2Proof.Machine
end

section
/-! PROOFS. The statistics of a window: what a window hands over, and the order of its values (R114, R123). -/

namespace Sys2Proof.Machine

/-! ### The mean and the mean square of a window (R123) -/

section
variable {n sum squares hi : Nat}

/-- The square of a mean, rounded down, does not exceed the mean square. -/
theorem mean_mul_self_le (hn : 0 < n) (h : sum * sum ≤ n * squares) : sum / n * (sum / n) ≤ squares / n := by
  have rounded : sum / n * n ≤ sum := Nat.div_mul_le_self sum n
  rw [Nat.le_div_iff_mul_le hn]
  refine Nat.le_of_mul_le_mul_left ?_ hn
  calc n * (sum / n * (sum / n) * n) = sum / n * n * (sum / n * n) := by ring
    _ ≤ sum * sum := Nat.mul_self_le_mul_self rounded
    _ ≤ n * squares := h

/-- The root of a mean square does not exceed the largest sample. -/
theorem floorSqrt_mean_le (h : squares ≤ n * (hi * hi)) : floorSqrt (squares / n) ≤ hi := by
  obtain ⟨below, -⟩ := floorSqrt_spec (squares / n)
  have bounded : squares / n ≤ hi * hi := Nat.div_le_of_le_mul h
  exact Nat.mul_self_le_mul_self_iff.1 (below.trans bounded)

end

/-! ### What a window hands over (R114, R123) -/

/-- Statistics are formed exactly while n is above 0. -/
theorem Accumulator.stats_eq_some {a : Accumulator} {x : Stats} : a.stats = some x ↔ 0 < a.n ∧
    { n := a.n, mean := a.sum / a.n, rms := floorSqrt (a.sumSquares / a.n), peak := a.maximum.getD 0,
      min := a.minimum.getD 0, sat := a.sat, clamp := a.clamp } = x := by
  rw [Accumulator.stats, Nat.pos_iff_ne_zero]
  split <;> simp_all

/-- Consistent accumulators with n above 0 hold both extremes, and the sums lie between them. -/
theorem Accumulator.consistent_of_pos {a : Accumulator} (h : a.consistent) (hn : 0 < a.n) :
    ∃ lo hi, a.minimum = some lo ∧ a.maximum = some hi ∧ a.n ≤ 65535 ∧ hi ≤ 8191 ∧ a.n * lo ≤ a.sum ∧
      a.sumSquares ≤ a.n * (hi * hi) ∧ a.sum * a.sum ≤ a.n * a.sumSquares := by
  obtain ⟨hmost, h⟩ := h
  split at h
  case h_1 lo hi hlo hhi =>
    obtain ⟨-, -, htop, hlow, -, hsquares, hsum⟩ := h
    exact ⟨lo, hi, hlo, hhi, hmost, htop, hlow, hsquares, hsum⟩
  case h_2 => omega
  case h_3 => exact h.elim

/-- Settles O53: the mean lies at or above the least sample, its square at or below the mean square, and the root of the
mean square at or below the peak. -/
theorem statisticsKeepTheirOrder : Obligations.StatisticsKeepTheirOrder := by
  intro a x hcons hstats
  obtain ⟨hn, rfl⟩ := Accumulator.stats_eq_some.1 hstats
  obtain ⟨lo, hi, hlo, hhi, hmost, htop, hlow, hsquares, hsum⟩ := Accumulator.consistent_of_pos hcons hn
  obtain ⟨rootBelow, rootAbove⟩ := floorSqrt_spec (a.sumSquares / a.n)
  have leastBelowMean : lo ≤ a.sum / a.n := (Nat.le_div_iff_mul_le hn).2 (by rwa [Nat.mul_comm])
  have meanBelowRoot : a.sum / a.n ≤ floorSqrt (a.sumSquares / a.n) := le_floorSqrt.2 (mean_mul_self_le hn hsum)
  have rootBelowPeak : floorSqrt (a.sumSquares / a.n) ≤ hi := floorSqrt_mean_le hsquares
  rw [hlo, hhi]
  exact ⟨rfl, hn, hmost, leastBelowMean, meanBelowRoot, rootBelowPeak, htop, rfl, rootBelow, rootAbove,
    rfl, rfl, rfl, rfl⟩

end Sys2Proof.Machine
end

section
/-! PROOFS. The end of a conversion: its sample, the window it is credited to and the next grant (R115 to R117, R119 to
R122). -/

namespace Sys2Proof.Machine

variable {s : State} {b : BayNo}

/-! ### The sample and its credit (R119 to R122) -/

theorem clampSample_eq (x : Int) : clampSample x = if x < 0 then 0 else if 8191 < x then 8191 else x.toNat := by
  unfold clampSample clampInt
  split
  · rfl
  · split <;> rfl

theorem minOf_eq (m : Option Nat) (c : Nat) : minOf m c = some (min (m.getD c) c) := by
  cases m with
  | none => simp [minOf]
  | some x => exact minOf_some x c

theorem maxOf_eq (m : Option Nat) (c : Nat) : maxOf m c = some (max (m.getD c) c) := by
  cases m with
  | none => simp [maxOf]
  | some x => exact maxOf_some x c

theorem Accumulator.credit_eq (a : Accumulator) (x : Int) : a.credit x =
    if a.n < 65535 then
      { n := a.n + 1, sum := a.sum + clampSample x, sumSquares := a.sumSquares + clampSample x * clampSample x,
        minimum := some (min (a.minimum.getD (clampSample x)) (clampSample x)),
        maximum := some (max (a.maximum.getD (clampSample x)) (clampSample x)),
        sat := a.sat, clamp := a.clamp || sampleClamped x }
    else { a with sat := true } := by
  rw [Accumulator.credit, minOf_eq, maxOf_eq]

/-! ### The window credited (R117) -/

/-- Without its tie, or with its window CLOSED, a conversion's sample is discarded. -/
theorem State.creditSample_of_discarded {tied : Bool} (h : tied = false ∨ (s.bay b).window = .closed)
    (code : BitVec 12) : s.creditSample b tied code = s := by
  unfold State.creditSample
  split <;> simp_all

theorem State.creditSample_of_opened {a : Accumulator} (h : (s.bay b).window = .opened a) (code : BitVec 12) :
    s.creditSample b true code =
      s.modBay b (fun x => { x with window := .opened (a.credit (calibrate x.cal code)) }) := by
  simp only [State.creditSample, h]

/-- Crediting a sample changes the record of the granted bay alone. -/
theorem State.creditSample_frame (s : State) (b : BayNo) (tied : Bool) (code : BitVec 12) :
    s.creditSample b tied code = { s with bays := (s.creditSample b tied code).bays } ∧
      ∀ d, d ≠ b → (s.creditSample b tied code).bay d = s.bay d := by
  unfold State.creditSample
  split
  · exact ⟨rfl, fun d hd => by rw [State.bay_modBay, if_neg hd.symm]⟩
  · exact ⟨rfl, fun _ _ => rfl⟩

/-- Crediting a sample opens and closes no window. -/
@[simp] theorem State.creditSample_isOpen (s : State) (b : BayNo) (tied : Bool) (code : BitVec 12) (d : BayNo) :
    ((s.creditSample b tied code).bay d).window.isOpen = (s.bay d).window.isOpen := by
  unfold State.creditSample
  split
  case h_1 a ha =>
    by_cases hd : b = d
    · subst hd
      simp [ha, Window.isOpen]
    · simp [hd]
  case h_2 => rfl

/-! ### The next grant (R116) -/

/-- With every window CLOSED there is no grant. -/
theorem State.grant_of_closed (h : ∀ d : BayNo, (s.bay d).window.isOpen = false) : s.grant = s := by
  unfold State.grant
  split
  · rename_i hnext
    exact absurd (s.nextGrant_open hnext) (by simp [h])
  · rfl

theorem State.grant_frame (s : State) :
    s.grant = { s with converter := s.grant.converter, lastGranted := s.grant.lastGranted } := by
  unfold State.grant
  split <;> rfl

/-! ### The end of a conversion (R115, R117) -/

/-- The state in which the next grant is made: the sample credited and the converter IDLE. -/
def State.conversionEnded (s : State) (b : BayNo) (tied : Bool) (code : BitVec 12) : State :=
  { s.creditSample b tied code with converter := .idle }

theorem eventConversionEnd_of_reached {ends : Time} {tied : Bool} (hconv : s.converter = .converting b ends tied)
    (hends : reached ends s.clock) (code : BitVec 12) :
    eventConversionEnd code s = (s.conversionEnded b tied code).grant := by
  simp only [eventConversionEnd, hconv, hends, if_true, State.conversionEnded]

theorem State.conversionEnded_bay (tied : Bool) (code : BitVec 12) (d : BayNo) :
    (s.conversionEnded b tied code).bay d = (s.creditSample b tied code).bay d := rfl

theorem State.conversionEnded_lastGranted (tied : Bool) (code : BitVec 12) :
    (s.conversionEnded b tied code).lastGranted = s.lastGranted := s.creditSample_lastGranted b tied code

theorem State.conversionEnded_clock (tied : Bool) (code : BitVec 12) :
    (s.conversionEnded b tied code).clock = s.clock := s.creditSample_clock b tied code

/-- Settles O49: the credit decides the granted bay's record, and the windows, none of which opens or closes, decide the
next grant. -/
theorem aConversionCreditsItsWindow : Obligations.AConversionCreditsItsWindow := by
  intro s b ends tied code hnone hconv hends
  have hexec : exec (.conversionEnd code) s = .next (s.conversionEnded b tied code).grant := by
    rw [← eventConversionEnd_of_reached hconv hends]
    exact State.next_before_of_none hnone _ (eventConversionEnd code)
  obtain ⟨hcredit, hothers⟩ := s.creditSample_frame b tied code
  refine ⟨_, hexec, ?_, fun d hd => ?_, fun hdiscarded => ?_, fun a htied hopen => ?_, fun hclosed => ?_,
    fun d hd hnearest => ?_⟩
  · rw [State.grant_frame, State.conversionEnded, hcredit]
  · rw [State.grant_bay, State.conversionEnded_bay, hothers d hd]
  · rw [State.grant_bay, State.conversionEnded_bay, State.creditSample_of_discarded hdiscarded]
  · subst htied
    rw [State.grant_bay, State.conversionEnded_bay, State.creditSample_of_opened hopen, State.bay_modBay, if_pos rfl,
      Accumulator.credit_eq, clampSample_eq]
    rfl
  · rw [State.grant_of_closed fun d => by rw [State.conversionEnded_bay, State.creditSample_isOpen, hclosed d]; rfl]
    exact ⟨rfl, State.conversionEnded_lastGranted tied code⟩
  · rw [← State.conversionEnded_clock (b := b) tied code]
    refine State.grant_of_nearest rfl ?_ fun e he => ?_
    · rwa [State.conversionEnded_bay, State.creditSample_isOpen, Window.isOpen_iff]
    · rw [State.conversionEnded_bay, State.creditSample_isOpen, Window.isOpen_iff] at he
      rw [State.conversionEnded_lastGranted]
      exact hnearest e he

end Sys2Proof.Machine
end

section
/-! PROOFS. The calibration store and its lock (R125 to R128). -/

namespace Sys2Proof.Machine

variable {s : State} {b : BayNo} {bay : Byte}

/-! ### The powered set (R41, R181) -/

theorem getLsbD_bayBit : ∀ b d : BayNo, (1#24 <<< b.val).getLsbD d.val = decide (d = b) := by decide

/-- Setting the bits of the bays of a list that satisfy a condition keeps the bits set before. -/
theorem getLsbD_foldl_bay (p : BayNo → Bool) (d : BayNo) : ∀ (l : List BayNo) (set : BaySet),
    (l.foldl (fun set b => if p b then set ||| (1#24 <<< b.val) else set) set).getLsbD d.val =
      (set.getLsbD d.val || decide (d ∈ l) && p d)
  | [], set => by simp
  | b :: l, set => by
    have added : (if p b then set ||| (1#24 <<< b.val) else set).getLsbD d.val =
        (set.getLsbD d.val || decide (d = b) && p b) := by
      cases p b
      · rw [Bool.and_false, Bool.or_false, if_neg Bool.false_ne_true]
      · rw [Bool.and_true, if_pos rfl, BitVec.getLsbD_or, getLsbD_bayBit]
    rw [List.foldl_cons, getLsbD_foldl_bay p d l, added]
    by_cases hd : d = b
    · subst hd
      cases p d <;> simp
    · simp [hd]

/-- A bay set carries bay n in bit n. -/
theorem getLsbD_baySetOf (p : BayNo → Bool) (d : BayNo) : (baySetOf p).getLsbD d.val = p d := by
  rw [baySetOf, getLsbD_foldl_bay, BitVec.ofNat_eq_ofNat, BitVec.getLsbD_zero, decide_eq_true (mem_allBays d),
    Bool.true_and, Bool.false_or]

theorem baySetOf_eq_zero {p : BayNo → Bool} : baySetOf p = 0 ↔ ∀ d, p d = false := by
  constructor
  · intro h d
    rw [← getLsbD_baySetOf p d, h]
    exact BitVec.getLsbD_zero
  · intro h
    refine BitVec.eq_of_getLsbD_eq fun k hk => ?_
    rw [getLsbD_baySetOf p ⟨k, hk⟩, h]
    exact BitVec.getLsbD_zero.symm

theorem State.poweredSet_eq_zero : s.poweredSet = 0 ↔ ∀ d : BayNo, (s.bay d).supply.mode = .off := by
  rw [State.poweredSet, baySetOf_eq_zero]
  simp [Bay.powered]

/-! ### The pair stored (R112, R125) -/

theorem clampedPair_gain (gain offset : BitVec 16) :
    (clampedPair gain offset).gain.toNat = if 8191 < gain.toNat then 8191 else gain.toNat := by
  simp only [clampedPair, clampNat, if_neg gain.toNat.not_lt_zero, BitVec.toNat_ofNat]
  split <;> omega

theorem clampedPair_offset (gain offset : BitVec 16) : (clampedPair gain offset).offset.toInt =
    if offset.toInt < -512 then -512 else if 511 < offset.toInt then 511 else offset.toInt := by
  obtain ⟨low, high⟩ := clampInt_range (low := -512) (high := 511) (by decide) offset.toInt
  rw [clampedPair, BitVec.toInt_ofInt, Int.bmod_eq_of_le (by omega) (by omega)]
  rfl

/-! ### The fields of READ_CAL (R126, R183) -/

def readCalBody (bay : Byte) (c : Calibration) (lock : Bool) : List Byte := bay :: calBody c ++ [flagByte lock]

def readCalFields (bay : Byte) (c : Calibration) (lock : Bool) : List (List Byte) :=
  [[bay], put 2 c.gain, put 2 (c.offset.signExtend 16), [flagByte lock]]

def readCalSizes : List Nat := [1, 2, 2, 1]

section
variable {c : Calibration} {lock : Bool}

theorem readCalBody_eq_flatten : readCalBody bay c lock = (readCalFields bay c lock).flatten := by
  simp [readCalBody, readCalFields, calBody]

theorem readCalFields_sizes : (readCalFields bay c lock).map List.length = readCalSizes := by
  simp [readCalFields, readCalSizes]

theorem readCalBody_length : (readCalBody bay c lock).length = 6 := by
  rw [readCalBody_eq_flatten, List.length_flatten, readCalFields_sizes]
  rfl

theorem readCalBody_field (k : Nat) {offset size : Nat} {f : List Byte}
    (hoffset : (readCalSizes.take k).sum = offset) (hsize : readCalSizes[k]? = some size)
    (hf : (readCalFields bay c lock)[k]? = some f) : bytesAt (readCalBody bay c lock) offset size = f := by
  rw [readCalBody_eq_flatten]
  exact bytesAt_field readCalFields_sizes k hoffset hsize hf

/-- The offset is carried in 16 bits with its sign. -/
theorem readCalBody_offset : (field 16 (bytesAt (readCalBody bay c lock) 3 2)).toInt = c.offset.toInt := by
  have carried : bytesAt (readCalBody bay c lock) 3 2 = put 2 (c.offset.signExtend 16) :=
    readCalBody_field 2 rfl rfl rfl
  rw [carried, put, field_leBytes 2 _ (by decide), BitVec.toInt_signExtend_of_le (by decide)]

end

/-! ### The requests, case by case -/

theorem requestReadCal_bad (h : bayOf bay = none) : requestReadCal bay s = s.answer (.readCal bay) .badParam [] := by
  rw [requestReadCal, h]

theorem requestReadCal_ok (h : bayOf bay = some b) :
    requestReadCal bay s = s.answer (.readCal bay) .ok (readCalBody bay (s.bay b).cal s.calLock) := by
  rw [requestReadCal, h]
  rfl

section
variable {gain offset : BitVec 16}

theorem requestWriteCal_bad (h : bayOf bay = none) :
    requestWriteCal bay gain offset s = s.answer (.writeCal bay gain offset) .badParam [] := by
  rw [requestWriteCal, h]

theorem requestWriteCal_locked (h : bayOf bay = some b) (hlock : s.calLock = true) :
    requestWriteCal bay gain offset s = s.answer (.writeCal bay gain offset) .locked [] := by
  rw [requestWriteCal, h]
  exact if_pos hlock

theorem requestWriteCal_stored (h : bayOf bay = some b) (hlock : s.calLock = false) :
    requestWriteCal bay gain offset s =
      (s.setBay b { s.bay b with cal := clampedPair gain offset }).answer (.writeCal bay gain offset) .ok
        (bay :: calBody (clampedPair gain offset)) := by
  rw [requestWriteCal, h]
  exact if_neg (by simp [hlock])

end

theorem requestUnlockCal_unpowered (h : s.poweredSet = 0) :
    requestUnlockCal s = { s with calLock := false }.answer .unlockCal .ok [0] := if_pos h

theorem requestUnlockCal_powered (h : s.poweredSet ≠ 0) : requestUnlockCal s = s.answer .unlockCal .wrongState [] :=
  if_neg h

/-- Settles O13: each field of the reply at its offset. -/
theorem readCalReportsPairAndLock : Obligations.ReadCalReportsPairAndLock := by
  intro s₀ bay hup s
  have hexec : exec (.readCal bay) s₀ = .next (requestReadCal bay s) :=
    congrArg Host.Outcome.next (s₀.serve_of_up (.readCal bay) (requestReadCal bay) hup)
  refine ⟨fun hbad => ⟨_, hexec, ?_⟩, fun b hb => ⟨_, readCalBody bay (s.bay b).cal s.calLock, hexec, ?_,
    readCalBody_length, getElem?_of_bytesAt (readCalBody_field 0 rfl rfl rfl),
    numberAt_of_put (readCalBody_field 1 rfl rfl rfl) (by decide), readCalBody_offset,
    getElem?_of_bytesAt (readCalBody_field 3 rfl rfl rfl)⟩⟩
  · rw [requestReadCal_bad (bayOf_eq_none.2 hbad)]
    exact s.answer_repliedAs ..
  · rw [requestReadCal_ok hb]
    exact s.answer_repliedAs ..

/-- Settles O48: WRITE_CAL by the bay number and the lock, UNLOCK_CAL by the powered set. -/
theorem theCalibrationStoreAndItsLock : Obligations.TheCalibrationStoreAndItsLock := by
  intro s bay gain offset hclear
  have hwrite : exec (.writeCal bay gain offset) s = .next (requestWriteCal bay gain offset s) :=
    State.next_serve_of_clear hclear (.writeCal bay gain offset) (requestWriteCal bay gain offset)
  have hlock : exec .lockCal s = .next (requestLockCal s) := State.next_serve_of_clear hclear .lockCal requestLockCal
  have hunlock : exec .unlockCal s = .next (requestUnlockCal s) :=
    State.next_serve_of_clear hclear .unlockCal requestUnlockCal
  refine ⟨fun hbad => ⟨_, hwrite, ?_⟩, fun b hb hlocked => ⟨_, hwrite, ?_⟩,
    fun b hb hopen => ⟨_, clampedPair gain offset, hwrite, ?_, clampedPair_gain .., clampedPair_offset ..⟩,
    ⟨_, hlock, State.answer_repliedAs ..⟩, fun hoff => ⟨_, hunlock, ?_⟩, fun ⟨b, hon⟩ => ⟨_, hunlock, ?_⟩⟩
  · rw [requestWriteCal_bad (bayOf_eq_none.2 hbad)]
    exact s.answer_repliedAs ..
  · rw [requestWriteCal_locked hb hlocked]
    exact s.answer_repliedAs ..
  · rw [requestWriteCal_stored hb hopen]
    exact State.answer_repliedAs ..
  · rw [requestUnlockCal_unpowered (State.poweredSet_eq_zero.2 hoff)]
    exact State.answer_repliedAs ..
  · rw [requestUnlockCal_powered fun h => hon (State.poweredSet_eq_zero.1 h b)]
    exact s.answer_repliedAs ..

end Sys2Proof.Machine
end

section
/-! SUPPORT. What keeps the rings within their windows, the condition places with their causes and the Result Store's
bytes in canonical form, said once for each shared operation (R38, R130, R131, R134, R142). -/

namespace Sys2Proof.Machine

/-! ### One ring (R130, R131, R134) -/

theorem Ring.consistent_iff (r : Ring) : r.consistent ↔ r.occupancy ≤ r.length ∧
    (r.oldest < r.length ∨ (r.length = 0 ∧ r.oldest = 0)) ∧ r.base ≤ 4095 ∧ r.base + r.length ≤ 4096 := by
  simp [Ring.consistent, and_assoc]

/-- A window of length 0 takes no record; the sequence number is used (R133, R134). -/
theorem Ring.afterWrite_of_empty {r : Ring} (h : r.length = 0) : r.afterWrite = { r with nextSeq := r.nextSeq + 1 } :=
  if_pos h

/-- A ring with room takes the record after its youngest (R134). -/
theorem Ring.afterWrite_of_room {r : Ring} (h : r.occupancy < r.length) :
    r.afterWrite = { r with nextSeq := r.nextSeq + 1, occupancy := r.occupancy + 1 } :=
  (if_neg (show r.length ≠ 0 by omega)).trans (if_pos (decide_eq_true h))

/-- A full ring in STOP mode drops the record (R134). -/
theorem Ring.afterWrite_of_stop {r : Ring} (h : r.length ≠ 0) (hfull : r.length ≤ r.occupancy)
    (hmode : r.mode = .stop) :
    r.afterWrite = { r with nextSeq := r.nextSeq + 1, drops := satInc r.drops } := by
  refine (if_neg h).trans ((if_neg (show ¬decide (r.occupancy < r.length) = true by simpa using hfull)).trans ?_)
  dsimp only
  rw [hmode]

/-- A full ring in WRAP mode gives up its oldest record (R134). -/
theorem Ring.afterWrite_of_wrap {r : Ring} (h : r.length ≠ 0) (hfull : r.length ≤ r.occupancy)
    (hmode : r.mode = .wrap) :
    r.afterWrite = { r with
      nextSeq := r.nextSeq + 1, oldest := (r.oldest + 1) % r.length, overwrites := satInc r.overwrites } := by
  refine (if_neg h).trans ((if_neg (show ¬decide (r.occupancy < r.length) = true by simpa using hfull)).trans ?_)
  dsimp only
  rw [hmode]

theorem Ring.afterWrite_consistent {r : Ring} (h : r.consistent) : r.afterWrite.consistent := by
  obtain ⟨hocc, hold, hbase, hstore⟩ := r.consistent_iff.1 h
  rw [Ring.consistent_iff]
  by_cases hlen : r.length = 0
  · rw [Ring.afterWrite_of_empty hlen]
    exact ⟨hocc, hold, hbase, hstore⟩
  · by_cases hroom : r.occupancy < r.length
    · rw [Ring.afterWrite_of_room hroom]
      exact ⟨hroom, hold, hbase, hstore⟩
    · cases hmode : r.mode
      · rw [Ring.afterWrite_of_stop hlen (Nat.le_of_not_lt hroom) hmode]
        exact ⟨hocc, hold, hbase, hstore⟩
      · rw [Ring.afterWrite_of_wrap hlen (Nat.le_of_not_lt hroom) hmode]
        exact ⟨hocc, .inl (Nat.mod_lt _ (Nat.pos_of_ne_zero hlen)), hbase, hstore⟩

theorem Ring.removeOldest_consistent {r : Ring} (h : r.consistent) (n : Nat) : (r.removeOldest n).consistent := by
  obtain ⟨hocc, hold, hbase, hstore⟩ := r.consistent_iff.1 h
  refine (Ring.consistent_iff _).2 ⟨(Nat.sub_le _ n).trans hocc, ?_, hbase, hstore⟩
  unfold Ring.removeOldest
  dsimp only
  split
  · exact hold
  · rename_i hlen
    exact .inl (Nat.mod_lt _ (Nat.pos_of_ne_zero hlen))

/-- A window within the store is set with its oldest offset at 0, or the mode alone changes (R143, R144). -/
theorem Ring.setWindow_consistent {r : Ring} (h : r.consistent) {base length : Nat} (mode : RingMode)
    (hbase : base ≤ 4095) (hstore : base + length ≤ 4096) : (r.setWindow base length mode).consistent := by
  unfold Ring.setWindow
  split
  · exact h
  · refine (Ring.consistent_iff _).2 ⟨Nat.zero_le _, ?_, hbase, hstore⟩
    show 0 < length ∨ length = 0 ∧ 0 = 0
    omega

theorem Ring.setWindow_window (r : Ring) (base length : Nat) (mode : RingMode) :
    (r.setWindow base length mode).base = base ∧ (r.setWindow base length mode).length = length := by
  unfold Ring.setWindow
  split
  · rename_i h
    simpa [Ring.sameWindow] using h
  · exact ⟨rfl, rfl⟩

theorem Ring.setWindow_lossless (r : Ring) (base length : Nat) (mode : RingMode) :
    (r.setWindow base length mode).lossless = r.lossless := by
  unfold Ring.setWindow
  split <;> rfl

theorem windowsMeet_comm (base length base' length' : Nat) :
    windowsMeet base length base' length' = windowsMeet base' length' base length := by
  rw [Bool.eq_iff_iff]
  simp only [windowsMeet, Bool.and_eq_true, decide_eq_true_eq]
  omega

/-- A ring without losses is one whose two counts are 0 (R142). -/
theorem Ring.lossless_iff (r : Ring) : r.lossless ↔ r.drops = 0 ∧ r.overwrites = 0 := by simp [Ring.lossless]

/-- A record is lost, or costs another, when it comes to a full ring (R134). -/
theorem Ring.loses_iff (r : Ring) : r.loses ↔ r.length ≠ 0 ∧ r.length ≤ r.occupancy := by
  simp [Ring.loses, Ring.hasRoom]

/-- A record handed over ends the absence of losses exactly when it is a loss (R134, R142). -/
theorem Ring.afterWrite_lossless (r : Ring) : r.afterWrite.lossless ↔ r.lossless ∧ ¬r.loses := by
  have counted := fun x : BitVec 16 => satInc_ne_zero (by decide) x
  rw [Ring.lossless_iff, Ring.lossless_iff, Ring.loses_iff]
  by_cases hlen : r.length = 0
  · simp [Ring.afterWrite_of_empty hlen, hlen]
  · by_cases hroom : r.occupancy < r.length
    · simp [Ring.afterWrite_of_room hroom, Nat.not_le.2 hroom]
    · have hfull := Nat.le_of_not_lt hroom
      cases hmode : r.mode
      · simpa [Ring.afterWrite_of_stop hlen hfull hmode, hlen, hfull] using fun h => absurd h (counted r.drops)
      · simpa [Ring.afterWrite_of_wrap hlen hfull hmode, hlen, hfull] using fun _ => counted r.overwrites

/-! ### The causes of one bay (R38, R142) -/

/-- The two condition places of a bay follow their causes. -/
def State.causesAgreeAt (s : State) (b : BayNo) : Prop :=
  (s.notices.ringFull.get b = .inactive ↔ (s.bay b).ring.lossless) ∧
  (s.notices.tunnelIn.get b = .inactive ↔ (s.bay b).link.tunnelIn = none)

theorem State.causesConsistent_iff (s : State) : s.causesConsistent ↔ ∀ b, s.causesAgreeAt b := Iff.rfl

theorem Condition.rise_ne_inactive (c : Condition) : c.rise ≠ .inactive := by cases c <;> simp [Condition.rise]

theorem Condition.mark_eq_inactive (c : Condition) : c.mark = .inactive ↔ c = .inactive := by
  cases c <;> simp [Condition.mark]

section
variable (s : State) (b : BayNo) {c : BayNo}

@[simp] theorem State.ringFullRises_get :
    (s.ringFullRises b).notices.ringFull.get b = (s.notices.ringFull.get b).rise :=
  (vector_get_set ..).trans (if_pos rfl)

@[simp] theorem State.ringFullFalls_get : (s.ringFullFalls b).notices.ringFull.get b = .inactive :=
  (vector_get_set ..).trans (if_pos rfl)

theorem State.ringFullRises_get_ne (h : b ≠ c) :
    (s.ringFullRises b).notices.ringFull.get c = s.notices.ringFull.get c := (vector_get_set ..).trans (if_neg h)

theorem State.ringFullFalls_get_ne (h : b ≠ c) :
    (s.ringFullFalls b).notices.ringFull.get c = s.notices.ringFull.get c := (vector_get_set ..).trans (if_neg h)

theorem State.tunnelInRises_get_ne (h : b ≠ c) :
    (s.tunnelInRises b).notices.tunnelIn.get c = s.notices.tunnelIn.get c := (vector_get_set ..).trans (if_neg h)

theorem State.tunnelInFalls_get_ne (h : b ≠ c) :
    (s.tunnelInFalls b).notices.tunnelIn.get c = s.notices.tunnelIn.get c := (vector_get_set ..).trans (if_neg h)

end

/-! ### What a step keeps of the store -/

/-- What the three invariants read of a bay: its ring and its tunnel-in slot. -/
def Bay.store (x : Bay) : Ring × Option (List Byte) := (x.ring, x.link.tunnelIn)

/-- Whatever of these three invariants holds in s holds in t. -/
structure State.KeepsStore (s t : State) : Prop where
  rings : s.ringsConsistent → t.ringsConsistent
  causes : s.causesConsistent → t.causesConsistent
  cells : Memory.wf s.cells → Memory.wf t.cells

namespace State.KeepsStore

variable {s t u : State} {b : BayNo}

theorem refl : s.KeepsStore s := ⟨id, id, id⟩

theorem trans (h : s.KeepsStore t) (h' : t.KeepsStore u) : s.KeepsStore u :=
  ⟨h'.rings ∘ h.rings, h'.causes ∘ h.causes, h'.cells ∘ h.cells⟩

/-- Windows that stand where they stood, on rings that stay consistent. -/
theorem rings_of_windows (hwindow : ∀ c, (t.bay c).ring.base = (s.bay c).ring.base ∧
      (t.bay c).ring.length = (s.bay c).ring.length)
    (hring : ∀ c, (s.bay c).ring.consistent → (t.bay c).ring.consistent) (h : s.ringsConsistent) :
    t.ringsConsistent := by
  obtain ⟨hcons, hapart⟩ := h
  refine ⟨fun c => hring c (hcons c), fun c d hcd => ?_⟩
  obtain ⟨hcbase, hclen⟩ := hwindow c
  obtain ⟨hdbase, hdlen⟩ := hwindow d
  rw [hcbase, hclen, hdbase, hdlen]
  exact hapart c d hcd

/-- A change that reaches neither a ring, a tunnel-in slot, a condition place nor the bytes. -/
theorem kept (h : s.KeepsStore t) (hcells : u.cells = t.cells)
    (hbay : ∀ c, (u.bay c).store = (t.bay c).store)
    (hplace : u.notices.ringFull = t.notices.ringFull ∧ u.notices.tunnelIn = t.notices.tunnelIn) : s.KeepsStore u := by
  have hring : ∀ c, (u.bay c).ring = (t.bay c).ring := fun c => congrArg Prod.fst (hbay c)
  obtain ⟨hfull, htunnel⟩ := hplace
  refine h.trans ⟨rings_of_windows (fun c => ?_) fun c hc => ?_, fun hc c => ?_, fun hw => ?_⟩
  · rw [hring]; exact ⟨rfl, rfl⟩
  · rwa [hring]
  · have hslot : (u.bay c).link.tunnelIn = (t.bay c).link.tunnelIn := congrArg Prod.snd (hbay c)
    rw [hfull, htunnel, hring, hslot]
    exact hc c
  · rwa [hcells]

/-- A change that reaches neither bytes, bays nor notices. -/
theorem elsewhere (h : s.KeepsStore t) (hcells : u.cells = t.cells) (hbays : u.bays = t.bays)
    (hnotices : u.notices = t.notices) : s.KeepsStore u := by
  have hbay : ∀ c, u.bay c = t.bay c := fun c => by rw [State.bay_eq_get, hbays]; rfl
  exact h.kept hcells (fun c => by rw [hbay]) (by rw [hnotices]; exact ⟨rfl, rfl⟩)

/-- A change at one bay that leaves its ring's window where it is. -/
theorem atBay (b : BayNo) (h : s.KeepsStore t) (hbays : ∀ c, b ≠ c → u.bay c = t.bay c)
    (hplaces : ∀ c, b ≠ c → u.notices.ringFull.get c = t.notices.ringFull.get c ∧
      u.notices.tunnelIn.get c = t.notices.tunnelIn.get c)
    (hwindow : (u.bay b).ring.base = (t.bay b).ring.base ∧ (u.bay b).ring.length = (t.bay b).ring.length)
    (hring : (t.bay b).ring.consistent → (u.bay b).ring.consistent)
    (hcauses : t.causesAgreeAt b → u.causesAgreeAt b) (hcells : Memory.wf t.cells → Memory.wf u.cells) :
    s.KeepsStore u := by
  refine h.trans ⟨rings_of_windows (fun c => ?_) fun c hc => ?_, fun hc c => ?_, hcells⟩ <;> by_cases hbc : b = c
  · subst hbc; exact hwindow
  · rw [hbays c hbc]; exact ⟨rfl, rfl⟩
  · subst hbc; exact hring hc
  · rwa [hbays c hbc]
  · subst hbc; exact hcauses (hc b)
  · obtain ⟨hfull, htunnel⟩ := hplaces c hbc
    rw [hbays c hbc, hfull, htunnel]
    exact hc c

/-! ### The shared operations -/

/-- A change of a bay that leaves its ring and its tunnel-in slot. -/
theorem modBay {f : Bay → Bay} (hf : ∀ x, (f x).store = x.store) (h : s.KeepsStore t) :
    s.KeepsStore (t.modBay b f) := by
  refine h.kept rfl (fun c => ?_) ⟨rfl, rfl⟩
  rw [State.bay_modBay]
  split
  · rename_i hc; subst hc; exact hf _
  · rfl

theorem answer {c : Instr} {status : Status} {body : List Byte} (h : s.KeepsStore t) :
    s.KeepsStore (t.answer c status body) := h.kept (by simp) (by simp) (by simp)

theorem takeRequests (h : s.KeepsStore t) : s.KeepsStore t.takeRequests := by
  rw [t.takeRequests_eq]
  exact h.elsewhere rfl rfl rfl

theorem keepWaiting (h : s.KeepsStore t) (c : Instr) : s.KeepsStore (t.keepWaiting c) := by
  rw [t.keepWaiting_eq]
  exact h.elsewhere rfl rfl rfl

theorem raise {p : Place} (h : s.KeepsStore t) : s.KeepsStore (t.raise p) := h.kept (by simp) (by simp) (by simp)

theorem clearNotice {p : Place} (h : s.KeepsStore t) : s.KeepsStore (t.clearNotice p) :=
  h.kept rfl (fun _ => rfl) (t.notices.setEvent_conditions false p)

/-- A record is placed within its ring's window, and the first loss makes RING_FULL ACTIVE (R134, R142). -/
theorem writeRecord {kind : RecordKind} {own : List Byte} (h : s.KeepsStore t) :
    s.KeepsStore (t.writeRecord b kind own) := by
  have hbay : ((t.writeRecord b kind own).bay b) = { t.bay b with ring := (t.bay b).ring.afterWrite } := by simp
  obtain ⟨hbase, hlen, -⟩ := (t.bay b).ring.afterWrite_window
  refine h.atBay b (fun c hc => by simp [hc]) (fun c hc => ?_) ?_ (fun hr => ?_) (fun ⟨hfull, htunnel⟩ => ?_)
    fun hw => ?_
  · rw [State.writeRecord_notices]
    split
    · exact ⟨t.ringFullRises_get_ne b hc, rfl⟩
    · exact ⟨rfl, rfl⟩
  · rw [hbay]; exact ⟨hbase, hlen⟩
  · rw [hbay]; exact Ring.afterWrite_consistent hr
  · unfold State.causesAgreeAt
    rw [hbay, State.writeRecord_notices]
    dsimp only
    rw [Ring.afterWrite_lossless]
    split
    · rename_i hlost
      obtain ⟨hloses, -⟩ := Bool.and_eq_true_iff.1 hlost
      refine ⟨iff_of_false ?_ fun hkept => hkept.2 hloses, htunnel⟩
      rw [State.ringFullRises_get]
      exact Condition.rise_ne_inactive _
    · rename_i hkept
      refine ⟨hfull.trans ⟨fun hlossless => ⟨hlossless, fun hloses => hkept ?_⟩, And.left⟩, htunnel⟩
      exact Bool.and_eq_true_iff.2 ⟨hloses, hlossless⟩
  · rw [State.writeRecord_cells]
    split
    · exact writeCells_wf _ _ _ hw
    · exact hw

theorem beginFrame (h : s.KeepsStore t) : s.KeepsStore (t.beginFrame b) :=
  h.kept (by simp) (fun c => by
    obtain ⟨_, _, _, he⟩ := t.beginFrame_bay b c
    rw [he]
    split
    · rename_i hc; subst hc; rfl
    · rfl) (by simp)

theorem startWake (h : s.KeepsStore t) : s.KeepsStore (t.startWake b) := .modBay (fun _ => rfl) h

theorem openWindow (h : s.KeepsStore t) : s.KeepsStore (t.openWindow b) :=
  h.kept (by simp) (fun c => by
    rw [State.openWindow_bay]
    split
    · rename_i hc; subst hc; rfl
    · rfl) (by simp)

theorem closeWindowFor {i : GatherNo} (h : s.KeepsStore t) : s.KeepsStore (t.closeWindowFor i b) := by
  have closed : s.KeepsStore (t.modBay b (fun x => { x with window := .closed })) := .modBay (fun _ => rfl) h
  unfold State.closeWindowFor
  split
  · exact closed.elsewhere rfl rfl rfl
  · exact h

/-- A change of the tunnel-in slot that its place follows (R38, R39). -/
theorem ofTunnel (h : s.KeepsStore t) (hcells : u.cells = t.cells) (hbays : ∀ c, b ≠ c → u.bay c = t.bay c)
    (hring : (u.bay b).ring = (t.bay b).ring) (hfull : u.notices.ringFull = t.notices.ringFull)
    (hothers : ∀ c, b ≠ c → u.notices.tunnelIn.get c = t.notices.tunnelIn.get c)
    (hplace : u.notices.tunnelIn.get b = .inactive ↔ (u.bay b).link.tunnelIn = none) : s.KeepsStore u := by
  refine h.atBay b hbays (fun c hc => ⟨by rw [hfull], hothers c hc⟩) ?_ (fun hr => ?_) (fun ⟨hf, _⟩ => ⟨?_, hplace⟩)
    fun hw => ?_
  · rw [hring]; exact ⟨rfl, rfl⟩
  · rwa [hring]
  · rwa [hring, hfull]
  · rwa [hcells]

theorem tunnelStored {block : List Byte} (h : s.KeepsStore t) : s.KeepsStore
    ((t.modBay b (fun x => x.modLink (fun l => { l with tunnelIn := some block }))).tunnelInRises b) := by
  refine h.ofTunnel (b := b) rfl (fun c hc => by simp [hc]) (by simp) rfl
    (fun c hc => State.tunnelInRises_get_ne _ b hc) (iff_of_false ?_ (by simp))
  rw [State.tunnelInRises_get]
  exact Condition.rise_ne_inactive _

theorem takeTunnelIn (h : s.KeepsStore t) : s.KeepsStore (t.takeTunnelIn b) :=
  h.ofTunnel (b := b) rfl (fun c hc => by simp [hc]) (by simp) rfl (fun c hc => State.tunnelInFalls_get_ne _ b hc)
    (iff_of_true (State.tunnelInFalls_get _ b) (by simp))

theorem emptyTunnels (h : s.KeepsStore t) : s.KeepsStore (t.emptyTunnels b) :=
  h.ofTunnel (b := b) rfl (fun c hc => by simp [hc]) (by simp) rfl (fun c hc => State.tunnelInFalls_get_ne _ b hc)
    (iff_of_true (State.tunnelInFalls_get _ b) (by simp))

theorem foldl {α : Type} {f : State → α → State} (hf : ∀ (t : State) a, t.KeepsStore (f t a)) :
    ∀ (l : List α) {t : State}, s.KeepsStore t → s.KeepsStore (l.foldl f t)
  | [], _, h => h
  | a :: l, t, h => foldl hf l (h.trans (hf t a))

/-! ### Completions, queues and asks (R34, R64, R73 to R80) -/

theorem completeGatherIfFinal {i : GatherNo} (h : s.KeepsStore t) : s.KeepsStore (t.completeGatherIfFinal i) := by
  unfold State.completeGatherIfFinal
  split
  · exact h
  · exact .raise (.elsewhere h rfl rfl rfl)

theorem completeEvaluated {i : GatherNo} {e : Ending} {a : Option Answer} (h : s.KeepsStore t) :
    s.KeepsStore (t.completeEvaluated b i e a) := by
  have closed : s.KeepsStore (t.closeWindowFor i b) := h.closeWindowFor
  unfold State.completeEvaluated State.finishEvaluated
  split
  · exact .completeGatherIfFinal (.writeRecord (closed.elsewhere rfl rfl rfl))
  · exact h

theorem completeUnevaluated {i : GatherNo} {e : Ending} (h : s.KeepsStore t) :
    s.KeepsStore (t.completeUnevaluated b i e) := by
  unfold State.completeUnevaluated
  split
  · exact .completeGatherIfFinal (.elsewhere h rfl rfl rfl)
  · exact h

theorem unreachQueue (h : s.KeepsStore t) : s.KeepsStore (t.unreachQueue b) :=
  foldl (fun _ _ => refl.completeEvaluated) _ (.modBay (fun _ => rfl) h)

theorem dropQueue {e : Ending} (h : s.KeepsStore t) : s.KeepsStore (t.dropQueue b e) :=
  foldl (fun _ _ => refl.completeUnevaluated) _ (.modBay (fun _ => rfl) h)

theorem loseAsk (h : s.KeepsStore t) : s.KeepsStore (t.loseAsk b) := by
  unfold State.loseAsk
  split
  · dsimp only
    split
    · exact .modBay (fun _ => rfl) h
    · exact .completeEvaluated (.modBay (fun _ => rfl) h)
  · exact h

theorem followAsk {i : GatherNo} (h : s.KeepsStore t) : s.KeepsStore (t.followAsk b i) := by
  unfold State.followAsk
  dsimp only
  split
  · exact .dropQueue (.modBay (fun _ => rfl) h)
  · split
    · exact h.startWake
    · exact .modBay (fun _ => rfl) h

theorem endAsk {e : Ending} {a : Option Answer} (h : s.KeepsStore t) : s.KeepsStore (t.endAsk b e a) := by
  unfold State.endAsk
  dsimp only
  split
  · exact .modBay (fun _ => rfl) (.modBay (fun _ => rfl) h)
  · exact .followAsk (.completeEvaluated (.modBay (fun _ => rfl) h))

end State.KeepsStore

end Sys2Proof.Machine
end

section
/-! SUPPORT. Every event and every request keeps the rings, the causes and the bytes (R38, R39, R130, R131, R134, R138,
R140 to R145). -/

namespace Sys2Proof.Machine

section
variable {s : State} (b : BayNo)

/-! ### Bays (chapter 1) -/

/-- A supply cycle given up reaches the supply alone (R55). -/
theorem Bay.abandonCycle_store (x : Bay) : x.abandonCycle.store = x.store := by
  rw [Bay.abandonCycle_eq]
  rfl

theorem State.remove_keepsStore : s.KeepsStore (s.remove b) :=
  .raise (.modBay (fun _ => rfl) (.emptyTunnels (.unreachQueue (.loseAsk (.modBay Bay.abandonCycle_store .refl)))))

theorem eventPresenceContactChange_keepsStore (closed : Bool) :
    s.KeepsStore (eventPresenceContactChange b closed s) := by
  unfold eventPresenceContactChange
  split
  · exact .refl
  · exact .modBay (fun _ => rfl) .refl

theorem eventDebounceExpiry_keepsStore : s.KeepsStore (eventDebounceExpiry b s) := by
  have stopped : s.KeepsStore (s.modBay b (fun x => { x with debounce := none })) := .modBay (fun _ => rfl) .refl
  unfold eventDebounceExpiry
  dsimp only
  split
  · split
    · exact stopped
    · split
      · exact .raise (.modBay (fun _ => rfl) stopped)
      · exact stopped.trans (State.remove_keepsStore b)
  · exact .refl

theorem eventSignOnAccepted_keepsStore (frame : BayFrame) : s.KeepsStore (eventSignOnAccepted b frame s) := by
  unfold eventSignOnAccepted
  split
  · split
    · exact .refl
    · exact .beginFrame (.raise (.writeRecord (.modBay (fun _ => rfl) (.loseAsk (.modBay (fun _ => rfl) .refl)))))
  · exact .refl

theorem eventWakeTimerExpiry_keepsStore : s.KeepsStore (eventWakeTimerExpiry b s) := by
  unfold eventWakeTimerExpiry
  dsimp only
  split
  · split
    · exact .raise (.unreachQueue (.modBay (fun _ => rfl) (.modBay (fun _ => rfl) .refl)))
    · exact .modBay (fun _ => rfl) .refl
  · exact .refl

theorem State.resetBay_keepsStore : s.KeepsStore (s.resetBay b) := by
  unfold State.resetBay
  exact .modBay (fun _ => rfl) (.clearNotice (.clearNotice (.clearNotice (.clearNotice (.modBay (fun _ => rfl)
    (.emptyTunnels (.dropQueue (.loseAsk (.modBay (fun _ => rfl) .refl)))))))))

theorem requestReleaseBay_keepsStore (bay : Byte) : s.KeepsStore (requestReleaseBay bay s) := by
  unfold requestReleaseBay
  split
  · exact .answer .refl
  · split
    · exact .answer (.beginFrame (.modBay (fun _ => rfl) .refl))
    · exact .answer (.startWake .refl)
    · exact .answer (.modBay (fun _ => rfl) .refl)
    all_goals exact .answer .refl

theorem requestResetBay_keepsStore (bay : Byte) : s.KeepsStore (requestResetBay bay s) := by
  unfold requestResetBay
  split
  · exact .answer .refl
  · exact .answer (State.resetBay_keepsStore _)

/-! ### Bay supply (chapter 3) -/

theorem State.setSupply_keepsStore {mode : SupplyMode} {t : State} (h : s.setSupply b mode = some t) :
    s.KeepsStore t := by
  unfold State.setSupply at h
  split at h <;> simp only [Option.some.injEq, reduceCtorEq] at h <;> subst h
  · exact .refl
  · exact .startWake (.modBay (fun _ => rfl) .refl)
  · exact .unreachQueue (.modBay (fun _ => rfl) (.modBay Bay.abandonCycle_store .refl))
  · exact .modBay (fun _ => rfl) .refl
  · unfold State.supplyOff
    exact .modBay (fun _ => rfl) (.unreachQueue (.loseAsk (.modBay (fun _ => rfl) .refl)))
  · exact .modBay (fun _ => rfl) .refl

theorem requestSetSupply_keepsStore (bay mode : Byte) : s.KeepsStore (requestSetSupply bay mode s) := by
  unfold requestSetSupply
  split
  · split
    · exact .answer .refl
    · rename_i ht
      exact .answer (State.setSupply_keepsStore _ ht)
  · exact .answer .refl

theorem eventTrip_keepsStore (milliamps : Nat) : s.KeepsStore (eventTrip b milliamps s) := by
  unfold eventTrip
  split
  · exact .refl
  · split
    · exact .raise (.modBay (fun _ => rfl) (.unreachQueue (.loseAsk (.modBay (fun _ => rfl) (.writeRecord
        (.modBay (fun _ => rfl) (.modBay (fun _ => rfl) .refl)))))))
    · exact .refl

theorem eventSag_keepsStore : s.KeepsStore (eventSag b s) := by
  unfold eventSag
  split
  · exact .refl
  · split
    · exact .startWake (.loseAsk (.modBay (fun _ => rfl) (.writeRecord (.modBay (fun _ => rfl) .refl))))
    · exact .refl

theorem eventRailRiseClear_keepsStore : s.KeepsStore (eventRailRiseClear b s) := by
  unfold eventRailRiseClear
  split
  · exact .modBay (fun _ => rfl) .refl
  · exact .refl

theorem State.cycle_keepsStore (off : Nat) (saved mode : OnMode) : s.KeepsStore (s.cycle b off saved mode) := by
  unfold State.cycle
  exact .modBay (fun _ => rfl) (.loseAsk (.modBay (fun _ => rfl) (.writeRecord (.modBay (fun _ => rfl) .refl))))

theorem requestCycleBay_keepsStore (bay : Byte) (offMs : BitVec 16) (restore : Option Byte) :
    s.KeepsStore (requestCycleBay bay offMs restore s) := by
  unfold requestCycleBay
  split
  · split
    case h_1 => exact .answer .refl
    case h_6 => exact .answer .refl
    all_goals exact .answer (State.cycle_keepsStore _ _ _ _)
  · exact .answer .refl

theorem eventCycleTimerExpiry_keepsStore : s.KeepsStore (eventCycleTimerExpiry b s) := by
  unfold eventCycleTimerExpiry
  dsimp only
  split
  · split
    · exact .startWake (.writeRecord (.modBay (fun _ => rfl) (.modBay (fun _ => rfl) .refl)))
    · exact .modBay (fun _ => rfl) .refl
  · exact .refl

/-! ### The bay link (chapter 2) -/

/-- An event that changes the link of its bay but for the tunnel-in slot, or nothing. -/
theorem State.modLink_or_keepsStore (p : Prop) [Decidable p] {f : Link → Link} (hf : ∀ l, (f l).tunnelIn = l.tunnelIn) :
    s.KeepsStore (if p then s.modBay b (fun x => x.modLink f) else s) := by
  split
  · exact .modBay (fun x => congrArg (Prod.mk x.ring) (hf x.link)) .refl
  · exact .refl

/-- A byte at the receiver reaches the receiver and its gap timer (R23). -/
theorem Link.receive_tunnelIn (l : Link) (byte : Byte) (clock : Time) :
    (l.receive byte clock).tunnelIn = l.tunnelIn := by
  unfold Link.receive
  repeat' split
  all_goals rfl

theorem eventBaySyncReceived_keepsStore (byte : Byte) : s.KeepsStore (eventBaySyncReceived b byte s) :=
  .modBay (fun x => congrArg (Prod.mk x.ring) (x.link.receive_tunnelIn byte s.clock)) .refl

theorem Link.characterFault_tunnelIn (l : Link) : l.characterFault.tunnelIn = l.tunnelIn := by
  unfold Link.characterFault
  split <;> rfl

theorem eventBayCharacterFault_keepsStore : s.KeepsStore (eventBayCharacterFault b s) :=
  .modBay (fun x => congrArg (Prod.mk x.ring) x.link.characterFault_tunnelIn) .refl

theorem eventAnswerAccepted_keepsStore (frame : BayFrame) : s.KeepsStore (eventAnswerAccepted b frame s) := by
  unfold eventAnswerAccepted
  split
  · split
    · exact .refl
    · split
      · exact .endAsk (.modBay (fun _ => rfl) .refl)
      · exact .modBay (fun _ => rfl) (.modBay (fun _ => rfl) .refl)
  · exact .refl

theorem eventTunnelInAccepted_keepsStore (frame : BayFrame) : s.KeepsStore (eventTunnelInAccepted b frame s) := by
  unfold eventTunnelInAccepted State.tunnelArrives
  split
  · split
    · exact .tunnelStored (.modBay (fun _ => rfl) .refl)
    · exact .modBay (fun _ => rfl) (.modBay (fun _ => rfl) .refl)
  · exact .refl

theorem eventDispatch_keepsStore : s.KeepsStore (eventDispatch b s) := by
  unfold eventDispatch State.dispatchHead
  split
  · split
    · exact .refl
    · split
      · exact .beginFrame (.modBay (fun _ => rfl) (.elsewhere .refl rfl rfl rfl))
      · exact .modBay (fun _ => rfl) .refl
  · exact .refl

theorem State.askLeft_keepsStore : s.KeepsStore (s.askLeft b) := by
  unfold State.askLeft
  split
  · exact .refl
  · rename_i i _
    have started : s.KeepsStore (s.modBay b (fun x => x.modLink (fun l =>
      { l with answerTimer := some (expiryAfter s.clock ((s.gather i).timeoutMs.toNat * 1000)) }))) :=
      .modBay (fun _ => rfl) .refl
    rw [State.recordSend_eq]
    split
    · exact .openWindow (.elsewhere started rfl rfl rfl)
    · exact .elsewhere started rfl rfl rfl

theorem eventAskSent_keepsStore : s.KeepsStore (eventAskSent b s) := by
  have left : s.KeepsStore (s.modBay b (fun x => x.modLink Link.frameLeft)) := .modBay (fun _ => rfl) .refl
  unfold eventAskSent
  dsimp only
  split
  · split
    · exact (left.trans (State.askLeft_keepsStore b)).beginFrame
    · exact left.beginFrame
  · exact .refl

theorem eventTunnelOutSent_keepsStore : s.KeepsStore (eventTunnelOutSent b s) := by
  unfold eventTunnelOutSent
  split
  · exact .beginFrame (.modBay (fun _ => rfl) .refl)
  · exact .refl

theorem eventAnswerTimerExpiry_keepsStore : s.KeepsStore (eventAnswerTimerExpiry b s) := by
  unfold eventAnswerTimerExpiry
  split
  · split
    · exact .endAsk .refl
    · exact .modBay (fun _ => rfl) .refl
  · exact .refl

theorem requestSetLineRate_keepsStore (bay rate : Byte) : s.KeepsStore (requestSetLineRate bay rate s) := by
  unfold requestSetLineRate
  split
  · split
    · exact .answer (.modBay (fun _ => rfl) .refl)
    · exact .answer .refl
  · exact .answer .refl

theorem requestPutTunnel_keepsStore (bay : Byte) (block : List Byte) : s.KeepsStore (requestPutTunnel bay block s) := by
  unfold requestPutTunnel
  split
  · exact .answer .refl
  · split
    · exact .answer .refl
    · split
      · exact .answer .refl
      · split
        · exact .answer .refl
        · exact .answer (.beginFrame (.modBay (fun _ => rfl) .refl))

theorem requestGetTunnel_keepsStore (bay : Byte) : s.KeepsStore (requestGetTunnel bay s) := by
  unfold requestGetTunnel
  split
  · exact .answer .refl
  · exact .answer (.takeTunnelIn .refl)

/-! ### Gathers and profiles (chapters 4 and 5) -/

theorem State.cancelSlot_keepsStore (i : GatherNo) : s.KeepsStore (s.cancelSlot i b) := by
  unfold State.cancelSlot
  split
  · exact .completeUnevaluated (.modBay (fun _ => rfl) .refl)
  · exact .refl

theorem requestCancelGather_keepsStore (index : Byte) (serial : BitVec 16) :
    s.KeepsStore (requestCancelGather index serial s) := by
  unfold requestCancelGather
  split
  · exact .answer .refl
  · dsimp only
    split
    · exact .answer (.foldl (fun _ b => State.cancelSlot_keepsStore b _) _ (.elsewhere .refl rfl rfl rfl))
    · exact .answer .refl

theorem requestReleaseGather_keepsStore (index : Byte) (serial : BitVec 16) :
    s.KeepsStore (requestReleaseGather index serial s) := by
  unfold requestReleaseGather
  split
  · exact .answer .refl
  · split
    · exact .answer (.clearNotice (.elsewhere .refl rfl rfl rfl))
    · exact .answer .refl

/-- An arm reaches the queues of the bays, and neither rings nor tunnels (R67). -/
theorem State.enqueue_keepsStore (bays : BaySet) (i : GatherNo) : s.KeepsStore (s.enqueue bays i) := by
  refine .kept .refl rfl (fun c => ?_) ⟨rfl, rfl⟩
  rw [State.enqueue_bay]
  split <;> rfl

theorem State.arm_keepsStore (i : GatherNo) (g : Gather) : s.KeepsStore (s.arm i g) := by
  have numbered : s.KeepsStore { s with gatherSerial := g.serial } := .elsewhere .refl rfl rfl rfl
  have queued := numbered.trans (State.enqueue_keepsStore g.bays i)
  unfold State.arm
  dsimp only
  split
  · exact .elsewhere queued rfl rfl rfl
  · exact .raise (.elsewhere queued rfl rfl rfl)

theorem requestArmGather_keepsStore (bays : BaySet) (command : BitVec 16) (profile : Byte) (failMask : Indicators)
    (timeoutMs : BitVec 16) (options : Byte) (args : List Byte) :
    s.KeepsStore (requestArmGather bays command profile failMask timeoutMs options args s) := by
  unfold requestArmGather
  dsimp only
  split
  · exact .answer .refl
  · exact .answer (State.arm_keepsStore _ _)

theorem requestDefineProfile_keepsStore (profile valueMode : Byte) (m d : BitVec 16) (b low high : BitVec 32)
    (latencyMs currentMa : BitVec 16) :
    s.KeepsStore (requestDefineProfile profile valueMode m d b low high latencyMs currentMa s) := by
  unfold requestDefineProfile
  dsimp only
  split
  · exact .answer .refl
  · exact .answer (.elsewhere .refl rfl rfl rfl)

theorem requestClearStats_keepsStore (profile : Byte) : s.KeepsStore (requestClearStats profile s) := by
  unfold requestClearStats
  split
  · exact .answer .refl
  · exact .answer (.elsewhere .refl rfl rfl rfl)

/-! ### Requests that only read -/

theorem requestBayStatus_keepsStore (bay : Byte) : s.KeepsStore (requestBayStatus bay s) := by
  unfold requestBayStatus
  split <;> exact .answer .refl

theorem requestPeekTunnel_keepsStore (bay : Byte) : s.KeepsStore (requestPeekTunnel bay s) := by
  unfold requestPeekTunnel
  split <;> exact .answer .refl

theorem requestGatherStatus_keepsStore (index : Byte) (serial : BitVec 16) :
    s.KeepsStore (requestGatherStatus index serial s) := by
  unfold requestGatherStatus
  split <;> exact .answer .refl

theorem requestGatherSlot_keepsStore (index : Byte) (serial : BitVec 16) (bay : Byte) :
    s.KeepsStore (requestGatherSlot index serial bay s) := by
  unfold requestGatherSlot
  split
  · exact .answer .refl
  · split <;> exact .answer .refl

theorem requestReadProfile_keepsStore (profile : Byte) : s.KeepsStore (requestReadProfile profile s) := by
  unfold requestReadProfile
  split <;> exact .answer .refl

theorem requestRingStatus_keepsStore (bay : Byte) : s.KeepsStore (requestRingStatus bay s) := by
  unfold requestRingStatus
  split <;> exact .answer .refl

theorem requestReadCal_keepsStore (bay : Byte) : s.KeepsStore (requestReadCal bay s) := by
  unfold requestReadCal
  split <;> exact .answer .refl

/-! ### Result rings (chapter 7) -/

theorem State.windowTaken_iff {base length : Nat} : s.windowTaken b base length ↔
    ∃ c, c ≠ b ∧ windowsMeet base length (s.bay c).ring.base (s.bay c).ring.length := by
  simp [State.windowTaken, mem_allBays]

/-- SET_RING takes a window within the store that shares no cell with another bay's (R143). -/
theorem State.ringChecks_ok {bay mode : Byte} {base length : Nat} {m : RingMode}
    (h : s.ringChecks bay base length mode = .ok (b, m)) : base ≤ 4095 ∧ base + length ≤ 4096 ∧
      ∀ c, c ≠ b → windowsMeet base length (s.bay c).ring.base (s.bay c).ring.length = false := by
  unfold State.ringChecks at h
  repeat' split at h
  all_goals cases h
  rename_i hstore htaken _ _
  refine ⟨by omega, by omega, fun c hc => Bool.eq_false_iff.2 fun hmeet => htaken ?_⟩
  exact (s.windowTaken_iff b).2 ⟨c, hc, hmeet⟩

/-- A window apart from those of the other bays is set (R131, R144). -/
theorem State.setWindow_keepsStore {base length : Nat} {m : RingMode} (hbase : base ≤ 4095)
    (hstore : base + length ≤ 4096)
    (hapart : ∀ c, c ≠ b → windowsMeet base length (s.bay c).ring.base (s.bay c).ring.length = false) :
    s.KeepsStore (s.modBay b (fun x => { x with ring := x.ring.setWindow base length m })) := by
  obtain ⟨hsetBase, hsetLength⟩ := (s.bay b).ring.setWindow_window base length m
  have others : ∀ c, b ≠ c →
      (s.modBay b (fun x => { x with ring := x.ring.setWindow base length m })).bay c = s.bay c :=
    fun c hc => by simp [hc]
  have own : (s.modBay b (fun x => { x with ring := x.ring.setWindow base length m })).bay b =
      { s.bay b with ring := (s.bay b).ring.setWindow base length m } := by simp
  refine ⟨fun ⟨hcons, hmeet⟩ => ⟨fun c => ?_, fun c d hcd => ?_⟩, fun hcauses c => ?_, id⟩ <;> by_cases hc : b = c
  · subst hc
    rw [own]
    exact Ring.setWindow_consistent (hcons b) m hbase hstore
  · rw [others c hc]
    exact hcons c
  · subst hc
    rw [own, others d hcd, hsetBase, hsetLength]
    exact hapart d (Ne.symm hcd)
  · by_cases hd : b = d
    · subst hd
      rw [own, others c hc, hsetBase, hsetLength, windowsMeet_comm]
      exact hapart c (Ne.symm hc)
    · rw [others c hc, others d hd]
      exact hmeet c d hcd
  · subst hc
    rw [own, Ring.setWindow_lossless]
    exact hcauses b
  · rw [others c hc]
    exact hcauses c

theorem requestSetRing_keepsStore (bay : Byte) (base length : BitVec 16) (mode : Byte) :
    s.KeepsStore (requestSetRing bay base length mode s) := by
  unfold requestSetRing
  split
  · exact .answer .refl
  · rename_i b m hok
    obtain ⟨hbase, hstore, hapart⟩ := State.ringChecks_ok b hok
    exact .answer (State.setWindow_keepsStore b hbase hstore hapart)

theorem requestReadResults_keepsStore (bay max : Byte) : s.KeepsStore (requestReadResults bay max s) := by
  unfold requestReadResults
  split
  · exact .answer .refl
  · rename_i b _
    refine .answer (.atBay b .refl (fun c hc => by simp [hc]) (fun _ _ => ⟨rfl, rfl⟩) ?_ (fun hr => ?_)
      (fun hc => ?_) id) <;> try unfold State.causesAgreeAt
    all_goals rw [State.bay_modBay, if_pos rfl]
    · exact ⟨rfl, rfl⟩
    · exact Ring.removeOldest_consistent hr _
    · exact hc

theorem lowerBy_toNat {w : Nat} (x seen : BitVec w) : (lowerBy x seen).toNat = x.toNat - seen.toNat := by
  unfold lowerBy
  split
  · rename_i h
    exact BitVec.toNat_sub_of_le h
  · have zero : (0 : BitVec w).toNat = 0 := BitVec.toNat_zero ..
    omega

theorem lowerBy_zero {w : Nat} (seen : BitVec w) : lowerBy 0 seen = 0 :=
  BitVec.eq_of_toNat_eq (by simp [lowerBy_toNat])

/-- Counts that are 0 stay 0 (R140). -/
theorem Ring.lowerCounts_of_lossless {r : Ring} (h : r.lossless) (drops overwrites : BitVec 16) :
    r.lowerCounts drops overwrites = r := by
  obtain ⟨hdrops, hoverwrites⟩ := r.lossless_iff.1 h
  cases r
  simp only [Ring.lowerCounts] at hdrops hoverwrites ⊢
  rw [hdrops, hoverwrites, lowerBy_zero, lowerBy_zero]

theorem Ring.lowerCounts_lossless {r : Ring} (h : r.lossless) (drops overwrites : BitVec 16) :
    (r.lowerCounts drops overwrites).lossless := (Ring.lowerCounts_of_lossless h drops overwrites).symm ▸ h

section
variable (s : State) (b c : BayNo) (drops overwrites : BitVec 16)

@[simp] theorem State.clearLosses_bay : (s.clearLosses b drops overwrites).bay c =
    if b = c then { s.bay b with ring := (s.bay b).ring.lowerCounts drops overwrites } else s.bay c := by
  unfold State.clearLosses
  dsimp only
  split <;> simp

theorem State.clearLosses_notices : (s.clearLosses b drops overwrites).notices =
    if ((s.bay b).ring.lowerCounts drops overwrites).lossless then (s.ringFullFalls b).notices else s.notices := by
  unfold State.clearLosses
  dsimp only
  rw [State.bay_modBay, if_pos rfl]
  split <;> rfl

theorem State.clearLosses_eq : s.clearLosses b drops overwrites = { s with
    bays := (s.clearLosses b drops overwrites).bays
    notices := (s.clearLosses b drops overwrites).notices } := by
  unfold State.clearLosses
  dsimp only
  split <;> rfl

end

/-- Counts lowered to 0 end the RING_FULL cause, and a count left above 0 was above 0 before (R140, R141). -/
theorem State.clearLosses_keepsStore (drops overwrites : BitVec 16) :
    s.KeepsStore (s.clearLosses b drops overwrites) := by
  have hown := (s.clearLosses_bay b b drops overwrites).trans (if_pos rfl)
  refine .atBay b .refl (fun c hc => by simp [hc]) (fun c hc => ?_) ?_ (fun hr => ?_) (fun ⟨hfull, htunnel⟩ => ?_)
    fun hw => ?_
  · rw [State.clearLosses_notices]
    split
    · exact ⟨s.ringFullFalls_get_ne b hc, rfl⟩
    · exact ⟨rfl, rfl⟩
  · rw [hown]; exact ⟨rfl, rfl⟩
  · rw [hown]; exact hr
  · unfold State.causesAgreeAt
    rw [hown, State.clearLosses_notices]
    split
    · rename_i hnone
      exact ⟨iff_of_true (s.ringFullFalls_get b) hnone, htunnel⟩
    · rename_i hsome
      refine ⟨iff_of_false (fun hinactive => hsome ?_) hsome, htunnel⟩
      exact Ring.lowerCounts_lossless (hfull.1 hinactive) drops overwrites
  · rw [State.clearLosses_eq]; exact hw

theorem requestClearDrops_keepsStore (bay : Byte) (drops overwrites : BitVec 16) :
    s.KeepsStore (requestClearDrops bay drops overwrites s) := by
  unfold requestClearDrops
  split
  · exact .answer .refl
  · exact .answer (State.clearLosses_keepsStore _ drops overwrites)

/-! ### Calibration, conversions and notices (chapters 6 and 9) -/

theorem requestWriteCal_keepsStore (bay : Byte) (gain offset : BitVec 16) :
    s.KeepsStore (requestWriteCal bay gain offset s) := by
  unfold requestWriteCal
  split
  · exact .answer .refl
  · split
    · exact .answer .refl
    · exact .answer (.modBay (fun _ => rfl) .refl)

theorem requestUnlockCal_keepsStore : s.KeepsStore (requestUnlockCal s) := by
  unfold requestUnlockCal
  split
  · exact .answer (.elsewhere .refl rfl rfl rfl)
  · exact .answer .refl

theorem State.creditSample_keepsStore (tied : Bool) (code : BitVec 12) : s.KeepsStore (s.creditSample b tied code) := by
  unfold State.creditSample
  split
  · exact .modBay (fun _ => rfl) .refl
  · exact .refl

theorem eventConversionEnd_keepsStore (code : BitVec 12) : s.KeepsStore (eventConversionEnd code s) := by
  unfold eventConversionEnd
  split
  · exact .refl
  · rename_i b _ tied _
    split
    · exact .kept (.elsewhere (State.creditSample_keepsStore b tied code) rfl rfl rfl) (by simp)
        (fun c => by simp [State.bay_eq_get]) (by simp)
    · exact .refl

/-- Condition places whose mark may be set are ACTIVE where they were (R163). -/
theorem State.KeepsStore.ofMarks {n : Notices}
    (hfull : ∀ b, n.ringFull.get b = .inactive ↔ s.notices.ringFull.get b = .inactive)
    (htunnel : ∀ b, n.tunnelIn.get b = .inactive ↔ s.notices.tunnelIn.get b = .inactive) :
    s.KeepsStore { s with notices := n } :=
  ⟨id, fun h b => ⟨(hfull b).trans (h b).1, (htunnel b).trans (h b).2⟩, id⟩

theorem Notices.collect_ringFull (n : Notices) (p : Place) (b : BayNo) :
    (n.collect p).ringFull.get b = .inactive ↔ n.ringFull.get b = .inactive := by
  cases p
  case ringFull c =>
    simp only [Notices.collect, vector_get_set]
    split
    · rename_i hc; subst hc; exact Condition.mark_eq_inactive _
    · rfl
  all_goals rfl

theorem Notices.collect_tunnelIn (n : Notices) (p : Place) (b : BayNo) :
    (n.collect p).tunnelIn.get b = .inactive ↔ n.tunnelIn.get b = .inactive := by
  cases p
  case tunnelIn c =>
    simp only [Notices.collect, vector_get_set]
    split
    · rename_i hc; subst hc; exact Condition.mark_eq_inactive _
    · rfl
  all_goals rfl

theorem vector_get_map {α β : Type} {n : Nat} (f : α → β) (v : Vector α n) (i : Fin n) :
    (v.map f).get i = f (v.get i) := by
  simp [Vector.get_eq_getElem]

theorem requestPollNotice_keepsStore : s.KeepsStore (requestPollNotice s) := by
  unfold requestPollNotice
  split
  · exact .answer .refl
  · exact .answer (.ofMarks (s.notices.collect_ringFull _) (s.notices.collect_tunnelIn _))

theorem requestClearNotices_keepsStore : s.KeepsStore (requestClearNotices s) := by
  refine .answer (.ofMarks (fun b => ?_) fun b => ?_) <;> unfold Notices.clearAll <;> dsimp only <;>
    rw [vector_get_map] <;> exact Condition.mark_eq_inactive _

/-! ### Run state and stop line (chapter 8) -/

theorem requestSetParam_keepsStore (number : Byte) (value : BitVec 32) :
    s.KeepsStore (requestSetParam number value s) := by
  refine .answer ?_
  unfold State.setParameter
  split <;> exact .elsewhere .refl rfl rfl rfl

theorem requestResume_keepsStore : s.KeepsStore (requestResume s) := by
  unfold requestResume
  split
  · exact .answer .refl
  · split
    · exact .answer .refl
    · exact .answer (.foldl (fun _ _ => .beginFrame .refl) _ (.elsewhere .refl rfl rfl rfl))

theorem State.abortBay_keepsStore : s.KeepsStore (s.abortBay b) := by
  unfold State.abortBay
  split
  · exact .refl
  · exact .modBay (fun _ => rfl) (.dropQueue (.loseAsk (.modBay Bay.abandonCycle_store .refl)))

theorem State.abort_keepsStore : s.KeepsStore s.abort :=
  .foldl (fun _ b => State.abortBay_keepsStore b) _ (.elsewhere .refl rfl rfl rfl)

theorem eventStopLineChange_keepsStore (asserted : Bool) : s.KeepsStore (eventStopLineChange asserted s) := by
  have raised : s.KeepsStore (({ s with stopLine := asserted } : State).raise .stopLine) :=
    .raise (.elsewhere .refl rfl rfl rfl)
  unfold eventStopLineChange State.actOnStop
  split
  · exact .refl
  · dsimp only
    split
    · split
      · exact .elsewhere raised rfl rfl rfl
      · exact raised.trans State.abort_keepsStore
    · exact raised

/-! ### Power-on, station reset and start-up (R17, R145, R158, R160) -/

/-- Rings, tunnel slots, condition places and bytes at their values of power-on. -/
theorem State.KeepsStore.of_reset {t : State} (hcells : t.cells = State.reset.cells)
    (hbay : ∀ c, (t.bay c).store = (Ring.reset c, none))
    (hnotices : t.notices = Notices.reset) : s.KeepsStore t := by
  have blank : State.reset.KeepsStore t := .kept .refl hcells (fun c => by rw [State.reset_bay]; exact hbay c)
    (by rw [hnotices]; exact ⟨rfl, rfl⟩)
  exact ⟨fun _ => blank.rings State.reset_ringsConsistent, fun _ => blank.causes State.reset_causesConsistent,
    fun _ => blank.cells wf_reset⟩

theorem requestStationReset_keepsStore : s.KeepsStore (requestStationReset s) :=
  .answer (.of_reset rfl (fun c => by rw [State.stationReset_bay]; rfl) rfl)

theorem State.poweredOn_keepsStore (stopAsserted : Bool) (contacts : BaySet) (attached : Bool) :
    s.KeepsStore (s.poweredOn stopAsserted contacts attached) :=
  .of_reset rfl (fun c => by rw [State.poweredOn_bay]; rfl) rfl

theorem State.startedUp_keepsStore : s.KeepsStore s.startedUp :=
  .kept .refl rfl (fun c => by rw [State.startedUp_bay]; rfl) ⟨rfl, rfl⟩

end

end Sys2Proof.Machine
end

section
/-! PROOFS. Every step keeps the rings, the causes and the bytes: each request and each event does, and so does what a
command finds carried out before it. -/

namespace Sys2Proof.Machine

variable {s : State}

/-- What reaches the port alone. -/
theorem State.modPort_ite_keepsStore (p : Prop) [Decidable p] (f : Port → Port) :
    s.KeepsStore (if p then s.modPort f else s) := by
  split <;> exact .elsewhere .refl rfl rfl rfl

theorem execRequestFrameAccepted_keepsStore (f : RequestFrame) {t : State}
    (ht : execRequestFrameAccepted f s = .next t) :
    s.KeepsStore t := by
  obtain rfl := Host.Outcome.next.inj ht
  split
  · exact .takeRequests (.elsewhere .refl rfl rfl rfl)
  · exact .refl

theorem execLinkAttach_keepsStore {t : State} (ht : execLinkAttach s = .next t) : s.KeepsStore t := by
  obtain rfl := Host.Outcome.next.inj ht
  split <;> exact .elsewhere .refl rfl rfl rfl

theorem execStartupDebounceEnd_keepsStore {t : State} (ht : execStartupDebounceEnd s = .next t) : s.KeepsStore t := by
  obtain rfl := Host.Outcome.next.inj ht
  split
  · exact .takeRequests State.startedUp_keepsStore
  · exact .refl

/-- The requests, by their own lemmas; no other command is carried out (R175). -/
theorem State.carryOut_keepsStore (c : Instr) : s.KeepsStore (s.carryOut c) := by
  cases c
  case setParam => exact requestSetParam_keepsStore _ _
  case resume => exact requestResume_keepsStore
  case stationReset => exact requestStationReset_keepsStore
  case bayStatus => exact requestBayStatus_keepsStore _
  case setSupply => exact requestSetSupply_keepsStore _ _
  case cycleBay => exact requestCycleBay_keepsStore _ _ _
  case releaseBay => exact requestReleaseBay_keepsStore _
  case resetBay => exact requestResetBay_keepsStore _
  case setLineRate => exact requestSetLineRate_keepsStore _ _
  case putTunnel => exact requestPutTunnel_keepsStore _ _
  case getTunnel => exact requestGetTunnel_keepsStore _
  case peekTunnel => exact requestPeekTunnel_keepsStore _
  case armGather => exact requestArmGather_keepsStore _ _ _ _ _ _ _
  case gatherStatus => exact requestGatherStatus_keepsStore _ _
  case gatherSlot => exact requestGatherSlot_keepsStore _ _ _
  case cancelGather => exact requestCancelGather_keepsStore _ _
  case releaseGather => exact requestReleaseGather_keepsStore _ _
  case defineProfile => exact requestDefineProfile_keepsStore _ _ _ _ _ _ _ _ _
  case readProfile => exact requestReadProfile_keepsStore _
  case clearStats => exact requestClearStats_keepsStore _
  case setRing => exact requestSetRing_keepsStore _ _ _ _
  case readResults => exact requestReadResults_keepsStore _ _
  case clearDrops => exact requestClearDrops_keepsStore _ _ _
  case ringStatus => exact requestRingStatus_keepsStore _
  case pollNotice => exact requestPollNotice_keepsStore
  case clearNotices => exact requestClearNotices_keepsStore
  case writeCal => exact requestWriteCal_keepsStore _ _ _
  case readCal => exact requestReadCal_keepsStore _
  case unlockCal => exact requestUnlockCal_keepsStore
  case hold | lockCal => exact .answer (.elsewhere .refl rfl rfl rfl)
  case identify | getParam | readClock => exact .answer .refl
  all_goals exact .refl

theorem State.before_keepsStore (c : Instr) : s.KeepsStore (s.before c) :=
  .foldl (fun t _ => by
    unfold State.carryInHand
    split
    · exact .refl
    · split
      · exact .refl
      · exact State.carryOut_keepsStore _) _ .refl

/-- A request at the part waits or is carried out. -/
theorem State.serve_keepsStore {c : Instr} {f : State → State} (hf : ∀ u, f u = u.carryOut c) :
    s.KeepsStore (s.serve c f) := by
  unfold State.serve
  split
  · exact .keepWaiting .refl c
  · rw [hf]
    exact (State.before_keepsStore c).trans (State.carryOut_keepsStore c)

/-- Every command: a request through carryOut, an event through its own lemma on what was carried out before it,
and what passes the requests as it stands. -/
theorem exec_keepsStore (c : Instr) {t : State} (ht : exec c s = .next t) : s.KeepsStore t := by
  have before := State.before_keepsStore (s := s) c
  cases c
  case startupDebounceEnd => exact execStartupDebounceEnd_keepsStore ht
  case requestFrameAccepted => exact execRequestFrameAccepted_keepsStore _ ht
  case linkAttach => exact execLinkAttach_keepsStore ht
  all_goals obtain rfl := Host.Outcome.next.inj ht
  case powerOn => exact State.poweredOn_keepsStore _ _ _
  case requestSyncReceived => exact .elsewhere .refl rfl rfl rfl
  case replyDelivered | linkDetach => exact State.modPort_ite_keepsStore _ _
  case requestFrameCheckFail | requestLengthDiscard | requestGapExpiry =>
    exact before.trans (State.modPort_ite_keepsStore _ _)
  case signOnAccepted => exact before.trans (eventSignOnAccepted_keepsStore _ _)
  case answerAccepted => exact before.trans (eventAnswerAccepted_keepsStore _ _)
  case tunnelInAccepted => exact before.trans (eventTunnelInAccepted_keepsStore _ _)
  case bayFrameRejected | bayFrameLengthDiscard | bayFrameGapExpiry | syncGapExpiry =>
    exact before.trans (State.modLink_or_keepsStore _ _ fun _ => rfl)
  case bayCharacterFault => exact before.trans (eventBayCharacterFault_keepsStore _)
  case baySyncReceived => exact before.trans (eventBaySyncReceived_keepsStore _ _)
  case dispatch => exact before.trans (eventDispatch_keepsStore _)
  case askSent => exact before.trans (eventAskSent_keepsStore _)
  case tunnelOutSent => exact before.trans (eventTunnelOutSent_keepsStore _)
  case answerTimerExpiry => exact before.trans (eventAnswerTimerExpiry_keepsStore _)
  case wakeTimerExpiry => exact before.trans (eventWakeTimerExpiry_keepsStore _)
  case cycleTimerExpiry => exact before.trans (eventCycleTimerExpiry_keepsStore _)
  case presenceContactChange => exact before.trans (eventPresenceContactChange_keepsStore _ _)
  case debounceExpiry => exact before.trans (eventDebounceExpiry_keepsStore _)
  case trip => exact before.trans (eventTrip_keepsStore _ _)
  case sag => exact before.trans (eventSag_keepsStore _)
  case railRiseClear => exact before.trans (eventRailRiseClear_keepsStore _)
  case stopLineChange => exact before.trans (eventStopLineChange_keepsStore _)
  case conversionEnd => exact before.trans (eventConversionEnd_keepsStore _)
  all_goals exact State.serve_keepsStore fun _ => rfl

/-- What the block does of its own accord reaches the queue of commands, the clock and the port alone. -/
theorem State.idle_keepsStore : s.KeepsStore s.idle := by
  unfold State.idle
  split
  · exact .elsewhere .refl rfl rfl rfl
  · split <;> exact .elsewhere .refl rfl rfl rfl

/-- Settles O56: the command at the front keeps the three invariants (exec_keepsStore), and so does what the block does
of its own accord. -/
theorem everyStepKeepsTheResultStore : Obligations.EveryStepKeepsTheResultStore := by
  intro s t ht
  have step : s.KeepsStore t := by
    unfold step at ht
    split at ht
    · obtain rfl := Host.Outcome.next.inj ht
      exact State.idle_keepsStore
    · rename_i rest _
      have front : s.KeepsStore { s with pending := rest } := .elsewhere .refl rfl rfl rfl
      exact front.trans (exec_keepsStore _ ht)
  exact ⟨step.rings, step.causes, step.cells⟩

end Sys2Proof.Machine
end

section
/-! PROOFS. SET_RING: the checks in their order, a new window and a new mode (R143, R144). -/

namespace Sys2Proof.Machine

variable {s : State} {b : BayNo} {bay mode : Byte} {base length : Nat} {m : RingMode}

/-- Two windows meet exactly where some cell lies in both (R131). -/
theorem windowsMeet_iff {base length base' length' : Nat} : windowsMeet base length base' length' ↔
    ∃ cell, base ≤ cell ∧ cell < base + length ∧ base' ≤ cell ∧ cell < base' + length' := by
  simp only [windowsMeet, Bool.and_eq_true, decide_eq_true_eq]
  constructor
  · intro hmeet
    exact ⟨max base base', by omega⟩
  · rintro ⟨cell, hlow, hhigh, hlow', hhigh'⟩
    omega

theorem State.holdsSlot_iff : s.holdsSlot b ↔
    ∃ i, ((s.gather i).slot b).stage = .queued ∨ ((s.gather i).slot b).stage = .sent := by
  simp [State.holdsSlot, mem_allGathers, Slot.endable_iff]

theorem Ring.sameWindow_iff (r : Ring) : r.sameWindow base length ↔ r.base = base ∧ r.length = length := by
  simp [Ring.sameWindow]

theorem ringModeOf_eq_none (h : 1 < mode.toNat) : ringModeOf mode = none := by
  have hstop : mode ≠ 0 := by rintro rfl; exact absurd h (by decide)
  have hwrap : mode ≠ 1 := by rintro rfl; exact absurd h (by decide)
  rw [ringModeOf, if_neg hstop, if_neg hwrap]

theorem code_of_ringModeOf (h : ringModeOf mode = some m) : m.code = mode := by
  unfold ringModeOf at h
  split at h
  · rename_i hstop
    cases h
    exact hstop.symm
  · split at h
    · rename_i hwrap
      cases h
      exact hwrap.symm
    · cases h

/-! ### The checks (R143) -/

theorem State.ringChecks_of_range
    (h : 23 < bay.toNat ∨ 1 < mode.toNat ∨ 4095 < base ∨ 4096 < base + length) :
    s.ringChecks bay base length mode = .error .badParam := by
  unfold State.ringChecks
  split
  · rfl
  · rename_i b hb
    split
    · rfl
    · rename_i m hm
      refine if_pos ?_
      rcases h with hbay | hmode | hstore
      · cases hb.symm.trans (bayOf_eq_none.2 hbay)
      · cases hm.symm.trans (ringModeOf_eq_none hmode)
      · exact hstore

section
variable (hb : bayOf bay = some b) (hm : ringModeOf mode = some m) (hbase : base ≤ 4095) (hstore : base + length ≤ 4096)
include hb hm hbase hstore

/-- Checks 4 and 5, when the bay, the mode and the window are in range. -/
theorem State.ringChecks_in_range : s.ringChecks bay base length mode =
    if s.windowTaken b base length then .error .badParam
    else if !(s.bay b).ring.sameWindow base length && (0 < (s.bay b).ring.occupancy || s.holdsSlot b) then .error .busy
    else .ok (b, m) := by
  rw [State.ringChecks, hb]
  dsimp only
  rw [hm]
  exact if_neg (by omega)

theorem State.ringChecks_taken (h : s.windowTaken b base length) :
    s.ringChecks bay base length mode = .error .badParam :=
  (ringChecks_in_range hb hm hbase hstore).trans (if_pos h)

theorem State.ringChecks_busy (htaken : ¬s.windowTaken b base length) (hnew : ¬(s.bay b).ring.sameWindow base length)
    (hbusy : 0 < (s.bay b).ring.occupancy ∨ s.holdsSlot b) : s.ringChecks bay base length mode = .error .busy := by
  rw [State.ringChecks_in_range hb hm hbase hstore, if_neg htaken]
  exact if_pos (by simpa [hnew] using hbusy)

theorem State.ringChecks_pass (htaken : ¬s.windowTaken b base length)
    (hfree : (s.bay b).ring.sameWindow base length ∨ (s.bay b).ring.occupancy = 0 ∧ ¬s.holdsSlot b) :
    s.ringChecks bay base length mode = .ok (b, m) := by
  rw [State.ringChecks_in_range hb hm hbase hstore, if_neg htaken]
  refine if_neg ?_
  rcases hfree with hsame | ⟨hempty, hslots⟩
  · simp [hsame]
  · simp [hempty, hslots]

end

/-! ### The window (R144) -/

theorem Ring.setWindow_of_new {r : Ring} (h : ¬r.sameWindow base length) (hempty : r.occupancy = 0) :
    r.setWindow base length m = { r with base := base, length := length, mode := m, oldest := 0 } := by
  rw [Ring.setWindow, if_neg h, ← hempty]

theorem Ring.setWindow_of_same {r : Ring} (h : r.sameWindow base length) :
    r.setWindow base length m = { r with mode := m } := if_pos h

section
variable {base length : BitVec 16}

theorem requestSetRing_refused {status : Status}
    (h : s.ringChecks bay base.toNat length.toNat mode = .error status) :
    requestSetRing bay base length mode s = s.answer (.setRing bay base length mode) status [] := by
  rw [requestSetRing, h]

theorem requestSetRing_taken (h : s.ringChecks bay base.toNat length.toNat mode = .ok (b, m)) :
    requestSetRing bay base length mode s =
      (s.setBay b { s.bay b with ring := (s.bay b).ring.setWindow base.toNat length.toNat m }).answer
        (.setRing bay base length mode) .ok (put 2 base ++ put 2 length ++ [m.code]) := by
  rw [requestSetRing, h]
  rfl

end

/-- Settles O43: the checks in their order, then the window asked for against the present one. -/
theorem setRingMovesAnEmptyWindow : Obligations.SetRingMovesAnEmptyWindow := by
  intro s bay mode base length hclear refused
  have hexec : exec (.setRing bay base length mode) s = .next (requestSetRing bay base length mode s) :=
    State.next_serve_of_clear hclear (.setRing bay base length mode) (requestSetRing bay base length mode)
  have refuse : ∀ {status}, s.ringChecks bay base.toNat length.toNat mode = .error status → refused status :=
    fun h => ⟨_, hexec, by rw [requestSetRing_refused h]; exact s.answer_repliedAs ..⟩
  refine ⟨fun hrange => refuse (State.ringChecks_of_range hrange), fun b m hb hm hbase hstore =>
    ⟨fun c cell hc hlow hhigh hlow' hhigh' => ?_, fun hapart => ?_⟩⟩
  · have htaken : s.windowTaken b base.toNat length.toNat :=
      (s.windowTaken_iff b).2 ⟨c, hc, windowsMeet_iff.2 ⟨cell, hlow, hhigh, hlow', hhigh'⟩⟩
    exact refuse (State.ringChecks_taken hb hm hbase hstore htaken)
  have htaken : ¬s.windowTaken b base.toNat length.toNat := fun h => by
    obtain ⟨c, hc, hmeet⟩ := (s.windowTaken_iff b).1 h
    obtain ⟨cell, hlow, hhigh, hshared⟩ := windowsMeet_iff.1 hmeet
    exact hapart c cell hc hlow hhigh hshared
  have granted : ∀ {r : Ring}, (s.bay b).ring.setWindow base.toNat length.toNat m = r →
      s.ringChecks bay base.toNat length.toNat mode = .ok (b, m) →
      ∃ t, exec (.setRing bay base length mode) s = .next t ∧
        t.repliedAs (s.setBay b { s.bay b with ring := r }) .ok (put 2 base ++ put 2 length ++ [mode]) := by
    rintro r rfl hok
    refine ⟨_, hexec, ?_⟩
    rw [requestSetRing_taken hok, code_of_ringModeOf hm]
    exact State.answer_repliedAs ..
  have new : (s.bay b).ring.base ≠ base.toNat ∨ (s.bay b).ring.length ≠ length.toNat →
      ¬(s.bay b).ring.sameWindow base.toNat length.toNat := fun hmoved hsame =>
    absurd ((Ring.sameWindow_iff _).1 hsame) (not_and_or.2 hmoved)
  refine ⟨fun hmoved hbusy => ?_, fun hmoved hempty hslots => ?_, fun hsameBase hsameLength => ?_⟩
  · exact refuse (State.ringChecks_busy hb hm hbase hstore htaken (new hmoved) (hbusy.imp_right State.holdsSlot_iff.2))
  · have hnone : ¬s.holdsSlot b := fun h => by
      obtain ⟨i, hstage⟩ := State.holdsSlot_iff.1 h
      exact hstage.elim (hslots i).1 (hslots i).2
    exact granted (Ring.setWindow_of_new (new hmoved) hempty)
      (State.ringChecks_pass hb hm hbase hstore htaken (.inr ⟨hempty, hnone⟩))
  · have hsame := (Ring.sameWindow_iff (s.bay b).ring).2 ⟨hsameBase, hsameLength⟩
    exact granted (Ring.setWindow_of_same hsame) (State.ringChecks_pass hb hm hbase hstore htaken (.inl hsame))

end Sys2Proof.Machine
end

section
/-! PROOFS. CLEAR_DROPS: the counts lowered by what was seen of them, and the end of the RING_FULL cause (R140,
R141). -/

namespace Sys2Proof.Machine

variable {s : State} {b : BayNo} {bay : Byte} (drops overwrites : BitVec 16)

theorem requestClearDrops_bad (h : bayOf bay = none) : requestClearDrops bay drops overwrites s =
    s.answer (.clearDrops bay drops overwrites) .badParam [] := by
  rw [requestClearDrops, h]

theorem requestClearDrops_ok (h : bayOf bay = some b) : requestClearDrops bay drops overwrites s =
    (s.clearLosses b drops overwrites).answer (.clearDrops bay drops overwrites) .ok
      (put 2 (lowerBy (s.bay b).ring.drops drops) ++ put 2 (lowerBy (s.bay b).ring.overwrites overwrites)) := by
  rw [requestClearDrops, h]
  dsimp only
  rw [State.clearLosses_bay, if_pos rfl]
  rfl

theorem State.ringFullFalls_of_inactive (h : s.notices.ringFull.get b = .inactive) : s.ringFullFalls b = s := by
  have hself : s.notices.ringFull.set b .inactive = s.notices.ringFull := by
    rw [← h]
    simp [Vector.get_eq_getElem]
  unfold State.ringFullFalls
  rw [hself]

/-- Where no loss is counted and the cause agrees, nothing changes (R141). -/
theorem State.clearLosses_of_lossless (h : (s.bay b).ring.lossless) (hcauses : s.causesAgreeAt b) :
    s.clearLosses b drops overwrites = s := by
  have hsame : s.modBay b (fun x => { x with ring := x.ring.lowerCounts drops overwrites }) = s := by
    rw [State.modBay, Ring.lowerCounts_of_lossless h]
    exact s.setBay_self b
  rw [State.clearLosses, hsame]
  exact (if_pos h).trans (ringFullFalls_of_inactive (hcauses.1.2 h))

/-- Settles O45: by whether the lowered counts are both 0. -/
theorem clearDropsEndsTheRingFullCause : Obligations.ClearDropsEndsTheRingFullCause := by
  intro s₀ bay seenDrops seenOverwrites hup s
  have hexec : exec (.clearDrops bay seenDrops seenOverwrites) s₀ =
      .next (requestClearDrops bay seenDrops seenOverwrites s) :=
    congrArg Host.Outcome.next (s₀.serve_of_up (.clearDrops bay seenDrops seenOverwrites)
      (requestClearDrops bay seenDrops seenOverwrites) hup)
  refine ⟨fun hbad => ⟨_, hexec, ?_⟩, fun b hb hcauses => ?_⟩
  · rw [requestClearDrops_bad _ _ (bayOf_eq_none.2 hbad)]
    exact s.answer_repliedAs ..
  rw [requestClearDrops_ok _ _ hb] at hexec
  refine ⟨_, _, _, hexec, ?_, fun d hd => ?_, ?_, lowerBy_toNat .., lowerBy_toNat .., fun hdrops hoverwrites => ?_,
    fun hleft => ?_, fun hdrops hoverwrites => ?_⟩
  · rw [State.answer_bays, State.answer_notices, ← State.clearLosses_eq]
    exact State.answer_repliedAs ..
  · simp [Ne.symm hd]
  · simp [Ring.lowerCounts]
  · rw [State.answer_notices, State.clearLosses_notices, if_pos ((Ring.lossless_iff _).2 ⟨hdrops, hoverwrites⟩)]
    exact s.ringFullFalls_get b
  · have hcounted : ¬((s.bay b).ring.lowerCounts seenDrops seenOverwrites).lossless := fun h =>
      absurd ((Ring.lossless_iff _).1 h) (not_and_or.2 hleft)
    rw [State.answer_notices, State.clearLosses_notices, if_neg hcounted]
    exact ⟨rfl, fun hinactive => hcounted (Ring.lowerCounts_lossless ((hcauses b).1.1 hinactive) _ _)⟩
  · rw [State.clearLosses_of_lossless _ _ ((Ring.lossless_iff _).2 ⟨hdrops, hoverwrites⟩) (hcauses b), hdrops,
      hoverwrites, lowerBy_zero, lowerBy_zero]
    exact State.answer_repliedAs ..

end Sys2Proof.Machine
end

section
/-! PROOFS. READ_RESULTS: the oldest records, their cells in the body, and the ring without them (R131, R138). -/

namespace Sys2Proof.Machine

variable {s : State} {b : BayNo} {bay max : Byte}

/-! ### The cell of a position -/

/-- The first byte of a position's cell, in a window within the store (R131). -/
theorem Ring.cellAddress_cellAt {r : Ring} (k : Nat) (hlen : r.length ≠ 0) (hstore : r.base + r.length ≤ 4096) :
    cellAddress (r.cellAt k) = 96 * (r.base + (r.oldest + k) % r.length) := by
  have hmod : (r.oldest + k) % r.length < r.length := Nat.mod_lt _ (Nat.pos_of_ne_zero hlen)
  have hval : (r.cellAt k).val = r.base + (r.oldest + k) % r.length :=
    Nat.mod_eq_of_lt (show r.base + (r.oldest + k) % r.length < 4096 by omega)
  rw [cellAddress, cellBytes, hval, Nat.mul_comm]

theorem State.recordAt_length (k : Nat) : (s.recordAt b k).length = 96 := readCells_length ..

/-- A record held, at the place that the ring's own fields give (R131). -/
theorem State.recordAt_eq (h : (s.bay b).ring.consistent) {k : Nat} (hk : k < (s.bay b).ring.occupancy) :
    s.recordAt b k = readCells s.cells
      (96 * ((s.bay b).ring.base + ((s.bay b).ring.oldest + k) % (s.bay b).ring.length)) 96 := by
  obtain ⟨hocc, -, -, hstore⟩ := (Ring.consistent_iff _).1 h
  rw [State.recordAt, Ring.cellAddress_cellAt k (by omega) hstore, cellBytes]

/-! ### How many records are read, and what is left (R138) -/

theorem clampNat_max : clampNat 1 8 max.toNat = if max = 0 then 1 else if 8 < max.toNat then 8 else max.toNat := by
  have hzero : max = 0 ↔ max.toNat < 1 := by
    rw [← BitVec.toNat_inj, Nat.lt_one_iff]
    rfl
  exact if_congr hzero.symm rfl rfl

theorem Ring.takes_le (r : Ring) (max : Byte) : r.takes max ≤ r.occupancy := Nat.min_le_right ..

theorem Ring.takes_le_eight (r : Ring) (max : Byte) : r.takes max ≤ 8 := by
  refine (Nat.min_le_left ..).trans ?_
  unfold clampNat
  split
  · decide
  · split <;> omega

/-- An empty window keeps its oldest offset, which is 0 (R131). -/
theorem Ring.removeOldest_eq {r : Ring} (h : r.consistent) (n : Nat) : r.removeOldest n = { r with
    occupancy := r.occupancy - n, oldest := if r.length = 0 then 0 else (r.oldest + n) % r.length } := by
  obtain ⟨-, hold, -, -⟩ := r.consistent_iff.1 h
  unfold Ring.removeOldest
  split
  · rename_i hlen
    rw [show r.oldest = 0 by omega]
  · rfl

/-! ### The body (R183) -/

/-- The n oldest records of a bay, one cell after the other. -/
def State.oldestRecords (s : State) (b : BayNo) (n : Nat) : List Byte := (List.range n).flatMap (s.recordAt b)

/-- The body of READ_RESULTS. -/
def resultsBody (bay : Byte) (n left : Nat) (records : List Byte) : List Byte :=
  [bay, BitVec.ofNat 8 n] ++ leBytes 2 left ++ records

theorem requestReadResults_bad (h : bayOf bay = none) :
    requestReadResults bay max s = s.answer (.readResults bay max) .badParam [] := by
  rw [requestReadResults, h]

theorem requestReadResults_ok (h : bayOf bay = some b) : requestReadResults bay max s =
    (s.setBay b { s.bay b with ring := (s.bay b).ring.removeOldest ((s.bay b).ring.takes max) }).answer
      (.readResults bay max) .ok (resultsBody bay ((s.bay b).ring.takes max)
        ((s.bay b).ring.occupancy - (s.bay b).ring.takes max) (s.oldestRecords b ((s.bay b).ring.takes max))) := by
  rw [requestReadResults, h]
  dsimp only
  rw [State.bay_modBay, if_pos rfl]
  rfl

theorem State.oldestRecords_sizes (s : State) (b : BayNo) (n : Nat) :
    ((List.range n).map (s.recordAt b)).map List.length = List.replicate n 96 := by
  simp [Function.comp_def, State.recordAt_length, List.map_const']

theorem State.oldestRecords_length (n : Nat) : (s.oldestRecords b n).length = 96 * n := by
  simp [State.oldestRecords, List.length_flatMap, State.recordAt_length, Nat.mul_comm]

theorem State.bytesAt_oldestRecords {n k : Nat} (hk : k < n) :
    bytesAt (s.oldestRecords b n) (96 * k) 96 = s.recordAt b k := by
  refine bytesAt_field (s.oldestRecords_sizes b n) k ?_ ?_ ?_
  · rw [List.take_replicate, List.sum_replicate, Nat.min_eq_left hk.le, smul_eq_mul, Nat.mul_comm]
  · simp [hk]
  · simp [hk]

section
variable {n left : Nat} {records : List Byte}

theorem resultsBody_length : (resultsBody bay n left records).length = 4 + records.length := by
  simp [resultsBody]; omega

theorem resultsBody_field (k : Nat) {offset size : Nat} {f : List Byte}
    (hoffset : ([1, 1, 2, records.length].take k).sum = offset) (hsize : [1, 1, 2, records.length][k]? = some size)
    (hf : [[bay], [BitVec.ofNat 8 n], leBytes 2 left, records][k]? = some f) :
    bytesAt (resultsBody bay n left records) offset size = f := by
  have := bytesAt_field (fields := [[bay], [BitVec.ofNat 8 n], leBytes 2 left, records]) rfl k hoffset hsize hf
  simpa [resultsBody] using this

theorem resultsBody_records (offset size : Nat) :
    bytesAt (resultsBody bay n left records) (4 + offset) size = bytesAt records offset size := by
  have hfront : ([bay, BitVec.ofNat 8 n] ++ leBytes 2 left).length = 4 := rfl
  rw [resultsBody, bytesAt_append_right (by omega), hfront, Nat.add_sub_cancel_left]

end

/-- Settles O44: the body field by field, and each record at its cell. -/
theorem readResultsTakesTheOldestRecords : Obligations.ReadResultsTakesTheOldestRecords := by
  intro s bay max hclear
  have hexec : exec (.readResults bay max) s = .next (requestReadResults bay max s) :=
    State.next_serve_of_clear hclear (.readResults bay max) (requestReadResults bay max)
  refine ⟨fun hbad => ⟨_, hexec, ?_⟩, fun b hb hring => ?_⟩
  · rw [requestReadResults_bad (bayOf_eq_none.2 hbad)]
    exact s.answer_repliedAs ..
  intro asked n
  have hn : (s.bay b).ring.takes max = n := by
    rw [Ring.takes, clampNat_max]
    exact Nat.min_def
  have hheld : n ≤ (s.bay b).ring.occupancy := hn ▸ (s.bay b).ring.takes_le max
  have height : n ≤ 8 := hn ▸ (s.bay b).ring.takes_le_eight max
  obtain ⟨hocc, -, -, hstore⟩ := (Ring.consistent_iff _).1 hring
  rw [requestReadResults_ok hb, hn, Ring.removeOldest_eq hring] at hexec
  refine ⟨_, _, hexec, ?_, State.answer_repliedAs .., getElem?_of_bytesAt (resultsBody_field 0 rfl rfl rfl),
    numberAt_of_byte (resultsBody_field 1 rfl rfl rfl) (by omega),
    numberAt_of_leBytes (resultsBody_field 2 rfl rfl rfl) (by omega), fun k hk => ?_⟩
  · rw [resultsBody_length, State.oldestRecords_length]
  · rw [resultsBody_records, State.bytesAt_oldestRecords hk, State.recordAt_eq hring (by omega)]

end Sys2Proof.Machine
end

section
/-! PROOFS. A record handed to the Result Store: where it goes, its cell byte by byte, and the RING_FULL cause (R131,
R133 to R137, R142, R184). -/

namespace Sys2Proof.Machine

variable {s : State} {b : BayNo} {kind : RecordKind} {own : List Byte}

/-! ### The bytes of the store (R134) -/

theorem Ring.keeps_iff (r : Ring) : r.keeps ↔ r.length ≠ 0 ∧ (r.occupancy < r.length ∨ r.mode = .wrap) := by
  simp [Ring.keeps, Ring.hasRoom]

theorem State.writeRecord_cells_of_not_keeps (h : ¬(s.bay b).ring.keeps) :
    (s.writeRecord b kind own).cells = s.cells := by
  rw [State.writeRecord_cells, if_neg h]

/-- A record kept stands whole at its position, and every other byte reads as before. -/
theorem State.writeRecord_cells_of_keeps (hkeeps : (s.bay b).ring.keeps) (hwf : Memory.wf s.cells)
    (hown : own.length ≤ 85) {address : Nat}
    (haddress : cellAddress ((s.bay b).ring.cellAt (s.bay b).ring.occupancy) = address) :
    readCells (s.writeRecord b kind own).cells address 96 = recordCell kind b (s.bay b).ring.nextSeq s.clock own ∧
    ∀ a, ¬(address ≤ a ∧ a < address + 96) → readCell (s.writeRecord b kind own).cells a = readCell s.cells a := by
  have hlen := recordCell_length kind b (s.bay b).ring.nextSeq s.clock own hown
  rw [State.writeRecord_cells, if_pos hkeeps, haddress]
  refine ⟨?_, fun a ha => readCell_writeCells_outside _ _ _ (by omega)⟩
  have := readCells_writeCells s.cells address (recordCell kind b (s.bay b).ring.nextSeq s.clock own) hwf
  rwa [hlen] at this

/-- The first loss from a sum of 0 (R134, R142). -/
theorem Ring.firstLoss_iff {r : Ring} (h : r.consistent) : (r.loses && r.lossless) = true ↔
    0 < r.length ∧ r.occupancy = r.length ∧ r.drops = 0 ∧ r.overwrites = 0 := by
  obtain ⟨hocc, -, -, -⟩ := r.consistent_iff.1 h
  rw [Bool.and_eq_true, Ring.loses_iff, Ring.lossless_iff, and_assoc]
  refine and_congr (Nat.pos_iff_ne_zero).symm (and_congr_left' ?_)
  omega

/-! ### The cell (R135, R184) -/

section
variable {seq : BitVec 32} {time : Time}

theorem recordCell_front_length :
    ([BitVec.ofNat 8 (b.val + 32 * kind.code)] ++ put 4 seq ++ put 6 time ++ own).length = 11 + own.length := by
  simp only [List.length_append, put_length, List.length_singleton]

/-- The common fields, the record's own bytes and the zeros. -/
theorem recordCell_eq : recordCell kind b seq time own =
    [BitVec.ofNat 8 (b.val + 32 * kind.code)] ++ put 4 seq ++ put 6 time ++ own ++
      List.replicate (85 - own.length) 0 := by
  rw [recordCell, padTo, recordCell_front_length]
  congr 2
  omega

theorem recordCell_field (k : Nat) {offset size : Nat} {f : List Byte}
    (hoffset : ([1, 4, 6, own.length, 85 - own.length].take k).sum = offset)
    (hsize : [1, 4, 6, own.length, 85 - own.length][k]? = some size)
    (hf : [[BitVec.ofNat 8 (b.val + 32 * kind.code)], put 4 seq, put 6 time, own,
      List.replicate (85 - own.length) 0][k]? = some f) :
    bytesAt (recordCell kind b seq time own) offset size = f := by
  have := bytesAt_field (fields := [[BitVec.ofNat 8 (b.val + 32 * kind.code)], put 4 seq, put 6 time, own,
      List.replicate (85 - own.length) 0]) (by simp) k hoffset hsize hf
  simpa [recordCell_eq] using this

theorem recordCell_fill {k : Nat} (hlow : 11 + own.length ≤ k) (hhigh : k < 96) :
    (recordCell kind b seq time own)[k]? = some 0 := by
  have hfront := recordCell_front_length (kind := kind) (b := b) (seq := seq) (time := time) (own := own)
  rw [recordCell_eq, List.getElem?_append_right (by omega), hfront, List.getElem?_replicate_of_lt (by omega)]

end

theorem signOnFields_field {a : SignOn} {changed : Bool} (hserial : a.serial.length ≤ 24) (k : Nat) {offset size : Nat}
    {f : List Byte} (hoffset : ([2, 1, 24, 1].take k).sum = offset) (hsize : [2, 1, 24, 1][k]? = some size)
    (hf : [put 2 a.version, [BitVec.ofNat 8 a.serial.length], padTo 24 a.serial, [flagByte changed]][k]? = some f) :
    bytesAt (signOnFields a changed) offset size = f := by
  have := bytesAt_field (fields := [put 2 a.version, [BitVec.ofNat 8 a.serial.length], padTo 24 a.serial,
    [flagByte changed]]) (by simpa using hserial) k hoffset hsize hf
  simpa [signOnFields] using this

/-- Settles O46: the ring by its occupancy and mode, then the layout of a cell. -/
theorem aRecordIsPlacedByTheRing : Obligations.ARecordIsPlacedByTheRing := by
  refine ⟨fun s b kind own hwf hring hown => ?_, fun b kind seq time own hown => ?_, fun a changed hserial => ?_,
    fun e m => ?_⟩
  · intro r t cell
    obtain ⟨-, -, -, hstore⟩ := r.consistent_iff.1 hring
    have placed : ∀ {ring}, r.afterWrite = ring → t.bay b = { s.bay b with ring := ring } := by
      rintro _ rfl
      exact (s.writeRecord_bay b b kind own).trans (if_pos rfl)
    have refused : ¬r.keeps → t.cells = s.cells := State.writeRecord_cells_of_not_keeps
    have stored : ∀ {k}, r.length ≠ 0 → r.keeps → (r.oldest + r.occupancy) % r.length = k % r.length →
        readCells t.cells (cell k) 96 = recordCell kind b r.nextSeq s.clock own ∧
        ∀ x, ¬(cell k ≤ x ∧ x < cell k + 96) → readCell t.cells x = readCell s.cells x := fun hlen hkeeps hplace =>
      State.writeRecord_cells_of_keeps hkeeps hwf hown
        ((Ring.cellAddress_cellAt _ hlen hstore).trans (by rw [hplace]))
    refine ⟨?_, fun hempty => ⟨placed (Ring.afterWrite_of_empty hempty), refused ?_⟩,
      fun hroom => ⟨placed (Ring.afterWrite_of_room hroom), stored (by omega) ?_ rfl⟩,
      fun hpos hfull hmode => ⟨placed (Ring.afterWrite_of_stop (by omega) hfull.ge hmode), refused ?_⟩,
      fun hpos hfull hmode => ⟨placed (Ring.afterWrite_of_wrap (by omega) hfull.ge hmode), stored (by omega) ?_ ?_⟩, ?_⟩
    · rw [placed rfl]
      exact r.afterWrite_nextSeq
    · exact fun hkeeps => (r.keeps_iff.1 hkeeps).1 hempty
    · exact r.keeps_iff.2 ⟨by omega, .inl hroom⟩
    · simp [Ring.keeps_iff, hfull, hmode]
    · exact r.keeps_iff.2 ⟨by omega, .inr hmode⟩
    · rw [hfull, Nat.add_mod_right]
    · exact (s.writeRecord_ringFull b kind own).2.trans (if_congr (Ring.firstLoss_iff hring) rfl rfl)
  · refine ⟨recordCell_length kind b seq time own hown, ?_,
      numberAt_of_put (recordCell_field 1 rfl rfl rfl) (by decide),
      numberAt_of_put (recordCell_field 2 rfl rfl rfl) (by decide), recordCell_field 3 rfl rfl rfl,
      fun k => recordCell_fill⟩
    have hkind : kind.code ≤ 3 := by cases kind <;> decide
    have hbyte : b.val + 32 * kind.code < 256 := by omega
    exact numberAt_of_byte (recordCell_field 0 rfl rfl rfl) hbyte
  · refine ⟨by simp [signOnFields, hserial], numberAt_of_put (signOnFields_field hserial 0 rfl rfl rfl) (by decide),
      numberAt_of_byte (signOnFields_field hserial 1 rfl rfl rfl) (by omega), signOnFields_field hserial 2 rfl rfl rfl,
      getElem?_of_bytesAt (signOnFields_field hserial 3 rfl rfl rfl)⟩
  · rw [supplyFields]
    cases e <;> cases m <;> rfl

end Sys2Proof.Machine
end

section
/-! SUPPORT. Which items of the station a command touches, as one relation between a state and a later one; what each shared
operation touches (R1, R3, R114, R124, R125, R132, R146, R155, R156). -/

namespace Sys2Proof.Machine

/-! ### The station's own items -/

/-- The station's own items, the calibration store, what a bay has of contact, presence and line rate, the port, the
arbiter's position, and the record bytes with the sequence numbers. -/
inductive Item where
  | clock | startup | stopLine | run | parameters | serial | lastGranted | lineRates | contacts | presences
  | attached | port | reply | lock | pairs | records
  deriving DecidableEq

/-- The item is in t what it was in s. -/
def Item.kept (s t : State) : Item → Prop
  | .clock => t.clock = s.clock
  | .startup => t.startup = s.startup
  | .stopLine => t.stopLine = s.stopLine
  | .run => t.run = s.run
  | .parameters => t.stopFunction = s.stopFunction ∧ t.wakeTimeout = s.wakeTimeout ∧ t.classMask = s.classMask
  | .serial => t.gatherSerial = s.gatherSerial
  | .lastGranted => t.lastGranted = s.lastGranted
  | .lineRates => ∀ b, (t.bay b).link.lineRate = (s.bay b).link.lineRate
  | .contacts => ∀ b, (t.bay b).contact = (s.bay b).contact
  | .presences => ∀ b, (t.bay b).present = (s.bay b).present
  | .attached => t.port.attached = s.port.attached
  | .port => t.port = s.port
  | .reply => t.lastReply = s.lastReply
  | .lock => t.calLock = s.calLock
  | .pairs => ∀ b, (t.bay b).cal = (s.bay b).cal
  | .records => t.cells = s.cells ∧ ∀ b, (t.bay b).ring.nextSeq = (s.bay b).ring.nextSeq

variable {s t u : State} {touched : List Item} {b : BayNo}

theorem Item.kept_refl (s : State) (item : Item) : item.kept s s := by
  cases item <;> simp [Item.kept]

theorem Item.kept.trans {item : Item} (h : item.kept s t) (h' : item.kept t u) : item.kept s u := by
  cases item <;> simp_all [Item.kept]

/-- From s to t the queue of commands and the count of rail codes stayed, and so did every item that is not listed. -/
structure State.KeepsBut (touched : List Item) (s t : State) : Prop where
  pending : t.pending = s.pending
  railReads : t.railReads = s.railReads
  items : ∀ item, item ∉ touched → item.kept s t

/-- What the items read of a bay. -/
def Bay.items (x : Bay) : Fin 4 × Bool × Bool × Calibration × BitVec 32 :=
  (x.link.lineRate, x.contact, x.present, x.cal, x.ring.nextSeq)

namespace State.KeepsBut

theorem refl : s.KeepsBut touched s := ⟨rfl, rfl, fun item _ => item.kept_refl s⟩

theorem trans (h : s.KeepsBut touched t) (h' : t.KeepsBut touched u) : s.KeepsBut touched u :=
  ⟨h'.pending.trans h.pending, h'.railReads.trans h.railReads, fun item hi => (h.items item hi).trans (h'.items item hi)⟩

theorem mono {more : List Item} (h : s.KeepsBut touched t) (hsub : touched ⊆ more) : s.KeepsBut more t :=
  ⟨h.pending, h.railReads, fun item hi => h.items item fun hmem => hi (hsub hmem)⟩

/-- A change that reaches gathers, profiles, converter and notices alone. -/
theorem elsewhere (h : s.KeepsBut touched t) (gathers : Vector Gather 16) (profiles : Vector Profile 32)
    (converter : Converter) (notices : Notices) : s.KeepsBut touched
      { t with gathers := gathers, profiles := profiles, converter := converter, notices := notices } :=
  h.trans ⟨rfl, rfl, fun item _ => item.kept_refl t⟩

/-- A change of the bays that reaches no item of a bay. -/
theorem ofBays (h : s.KeepsBut touched t) (hu : u = { t with bays := u.bays })
    (hbay : ∀ c, (u.bay c).items = (t.bay c).items) : s.KeepsBut touched u := by
  have fields : ∀ c, (u.bay c).link.lineRate = (t.bay c).link.lineRate ∧ (u.bay c).contact = (t.bay c).contact ∧
      (u.bay c).present = (t.bay c).present ∧ (u.bay c).cal = (t.bay c).cal ∧
      (u.bay c).ring.nextSeq = (t.bay c).ring.nextSeq := fun c => by simpa [Bay.items] using hbay c
  refine h.trans ⟨by rw [hu], by rw [hu], fun item _ => ?_⟩
  cases item
  case lineRates => exact fun c => (fields c).1
  case contacts => exact fun c => (fields c).2.1
  case presences => exact fun c => (fields c).2.2.1
  case pairs => exact fun c => (fields c).2.2.2.1
  case records => exact ⟨by rw [hu], fun c => (fields c).2.2.2.2⟩
  all_goals rw [hu]; simp [Item.kept]

theorem modBay {f : Bay → Bay} (hf : ∀ x, (f x).items = x.items) (h : s.KeepsBut touched t) :
    s.KeepsBut touched (t.modBay b f) :=
  h.ofBays rfl fun c => by
    rw [State.bay_modBay]
    split
    · rename_i hc; subst hc; exact hf _
    · rfl

theorem raise {p : Place} (h : s.KeepsBut touched t) : s.KeepsBut touched (t.raise p) := by
  unfold State.raise
  split
  · exact h.elsewhere ..
  · exact h

theorem clearNotice {p : Place} (h : s.KeepsBut touched t) : s.KeepsBut touched (t.clearNotice p) := h.elsewhere ..

/-- A record moves the bay's sequence number and may store bytes (R133, R135). -/
theorem writeRecord {kind : RecordKind} {own : List Byte} (h : s.KeepsBut touched t)
    (hr : Item.records ∈ touched := by simp) : s.KeepsBut touched (t.writeRecord b kind own) := by
  refine h.trans ⟨by simp, by simp, fun item hi => ?_⟩
  cases item
  case records => exact absurd hr hi
  all_goals simp [Item.kept]
  all_goals intro c; split <;> simp_all

theorem beginFrame (h : s.KeepsBut touched t) : s.KeepsBut touched (t.beginFrame b) := by
  unfold State.beginFrame
  dsimp only
  split
  · split
    · exact .modBay (fun _ => rfl) h
    · split
      · exact h
      · exact .modBay (fun _ => rfl) h
  · exact h

theorem startWake (h : s.KeepsBut touched t) : s.KeepsBut touched (t.startWake b) := .modBay (fun _ => rfl) h

/-- A grant moves the arbiter's position (R116). -/
theorem grant (h : s.KeepsBut touched t) (hg : Item.lastGranted ∈ touched := by simp) :
    s.KeepsBut touched t.grant := by
  refine h.trans ⟨by simp, by simp, fun item hi => ?_⟩
  cases item
  case lastGranted => exact absurd hg hi
  all_goals simp [Item.kept]

theorem openWindow (h : s.KeepsBut touched t) (hg : Item.lastGranted ∈ touched := by simp) :
    s.KeepsBut touched (t.openWindow b) := by
  unfold State.openWindow
  exact .grant (.modBay (fun _ => rfl) h) hg

theorem closeWindowFor {i : GatherNo} (h : s.KeepsBut touched t) : s.KeepsBut touched (t.closeWindowFor i b) := by
  unfold State.closeWindowFor State.closeWindow
  split
  · exact (h.modBay (b := b) (f := fun x => { x with window := .closed }) fun _ => rfl).elsewhere ..
  · exact h

theorem emptyTunnels (h : s.KeepsBut touched t) : s.KeepsBut touched (t.emptyTunnels b) :=
  (h.modBay (b := b) (f := fun x => x.modLink (fun l => { l with tunnelOut := none, tunnelIn := none }))
    fun _ => rfl).elsewhere ..

theorem foldl {α : Type} {f : State → α → State} (hf : ∀ (t : State) a, t.KeepsBut touched (f t a)) :
    ∀ (l : List α) {t : State}, s.KeepsBut touched t → s.KeepsBut touched (l.foldl f t)
  | [], _, h => h
  | a :: l, t, h => foldl hf l (h.trans (hf t a))

/-! ### Completions, queues and asks (R34, R64, R73 to R80) -/

theorem completeGatherIfFinal {i : GatherNo} (h : s.KeepsBut touched t) :
    s.KeepsBut touched (t.completeGatherIfFinal i) := by
  unfold State.completeGatherIfFinal
  split
  · exact h
  · exact .raise (h.elsewhere ..)

theorem completeEvaluated {i : GatherNo} {e : Ending} {a : Option Answer} (h : s.KeepsBut touched t)
    (hr : Item.records ∈ touched := by simp) : s.KeepsBut touched (t.completeEvaluated b i e a) := by
  unfold State.completeEvaluated State.finishEvaluated
  split
  · exact .completeGatherIfFinal (.writeRecord ((h.closeWindowFor (i := i) (b := b)).elsewhere ..) hr)
  · exact h

theorem completeUnevaluated {i : GatherNo} {e : Ending} (h : s.KeepsBut touched t) :
    s.KeepsBut touched (t.completeUnevaluated b i e) := by
  unfold State.completeUnevaluated
  split
  · exact .completeGatherIfFinal (h.elsewhere ..)
  · exact h

theorem unreachQueue (h : s.KeepsBut touched t) (hr : Item.records ∈ touched := by simp) :
    s.KeepsBut touched (t.unreachQueue b) :=
  foldl (fun _ _ => refl.completeEvaluated hr) _ (.modBay (fun _ => rfl) h)

theorem dropQueue {e : Ending} (h : s.KeepsBut touched t) : s.KeepsBut touched (t.dropQueue b e) :=
  foldl (fun _ _ => refl.completeUnevaluated) _ (.modBay (fun _ => rfl) h)

theorem loseAsk (h : s.KeepsBut touched t) (hr : Item.records ∈ touched := by simp) :
    s.KeepsBut touched (t.loseAsk b) := by
  unfold State.loseAsk
  split
  · dsimp only
    split
    · exact .modBay (fun _ => rfl) h
    · exact .completeEvaluated (.modBay (fun _ => rfl) h) hr
  · exact h

theorem followAsk {i : GatherNo} (h : s.KeepsBut touched t) : s.KeepsBut touched (t.followAsk b i) := by
  unfold State.followAsk
  dsimp only
  split
  · exact .dropQueue (.modBay (fun _ => rfl) h)
  · split
    · exact h.startWake
    · exact .modBay (fun _ => rfl) h

theorem endAsk {e : Ending} {a : Option Answer} (h : s.KeepsBut touched t) (hr : Item.records ∈ touched := by simp) :
    s.KeepsBut touched (t.endAsk b e a) := by
  unfold State.endAsk
  dsimp only
  split
  · exact .modBay (fun _ => rfl) (.modBay (fun _ => rfl) h)
  · exact .followAsk (.completeEvaluated (.modBay (fun _ => rfl) h) hr)

end State.KeepsBut

end Sys2Proof.Machine
end

section
/-! SUPPORT. What each event touches of the station's items. -/

namespace Sys2Proof.Machine

section
variable {s : State} {touched : List Item} (b : BayNo)

/-! ### Bays (chapter 1) -/

theorem Bay.abandonCycle_items (x : Bay) : x.abandonCycle.items = x.items := by
  rw [Bay.abandonCycle_eq]
  rfl

/-- A bay's presence taken or lost (R4, R5). -/
theorem State.KeepsBut.modPresent {t : State} {f : Bay → Bay} (h : s.KeepsBut touched t)
    (hf : ∀ x, ({ f x with present := x.present } : Bay).items = x.items)
    (hp : Item.presences ∈ touched := by simp) : s.KeepsBut touched (t.modBay b f) := by
  simp only [Bay.items, Prod.mk.injEq] at hf
  refine h.trans ⟨rfl, rfl, fun item hi => ?_⟩
  cases item
  case presences => exact absurd hp hi
  all_goals simp [Item.kept]
  all_goals intro c; split <;> simp_all

theorem State.arrive_keepsBut : s.KeepsBut [.presences, .records] (s.arrive b) := by
  unfold State.arrive
  exact .raise (.modPresent b .refl fun _ => rfl)

theorem State.remove_keepsBut : s.KeepsBut [.presences, .records] (s.remove b) := by
  have emptied : s.KeepsBut [.presences, .records] ((s.removed b).emptyTunnels b) :=
    .emptyTunnels (.unreachQueue (.loseAsk (.modBay Bay.abandonCycle_items .refl)))
  rw [State.remove_eq]
  exact .raise (.modPresent b emptied fun _ => rfl)

theorem eventPresenceContactChange_keepsBut (closed : Bool) :
    s.KeepsBut [.contacts] (eventPresenceContactChange b closed s) := by
  unfold eventPresenceContactChange
  split
  · exact .refl
  · refine ⟨rfl, rfl, fun item hi => ?_⟩
    cases item
    case contacts => simp at hi
    all_goals simp [Item.kept, Bay.contactTo]
    all_goals intro c; split <;> simp_all

theorem eventDebounceExpiry_keepsBut : s.KeepsBut [.presences, .records] (eventDebounceExpiry b s) := by
  have stopped : s.KeepsBut [.presences, .records] (s.modBay b (fun x => { x with debounce := none })) :=
    .modBay (fun _ => rfl) .refl
  unfold eventDebounceExpiry
  dsimp only
  split
  · split
    · exact stopped
    · split
      · exact stopped.trans (State.arrive_keepsBut b)
      · exact stopped.trans (State.remove_keepsBut b)
  · exact .refl

theorem eventSignOnAccepted_keepsBut (frame : BayFrame) : s.KeepsBut [.records] (eventSignOnAccepted b frame s) := by
  unfold eventSignOnAccepted
  split
  · split
    · exact .refl
    · exact .beginFrame (.raise (.writeRecord (.modBay (fun _ => rfl) (.loseAsk (.modBay (fun _ => rfl) .refl)))))
  · exact .refl

theorem eventWakeTimerExpiry_keepsBut : s.KeepsBut [.records] (eventWakeTimerExpiry b s) := by
  unfold eventWakeTimerExpiry
  dsimp only
  split
  · split
    · exact .raise (.unreachQueue (.modBay (fun _ => rfl) (.modBay (fun _ => rfl) .refl)))
    · exact .modBay (fun _ => rfl) .refl
  · exact .refl

/-! ### Bay supply (chapter 3) -/

theorem eventTrip_keepsBut (milliamps : Nat) : s.KeepsBut [.records] (eventTrip b milliamps s) := by
  unfold eventTrip
  split
  · exact .refl
  · split
    · exact .raise (.modBay (fun _ => rfl) (.unreachQueue (.loseAsk (.modBay (fun _ => rfl) (.writeRecord
        (.modBay (fun _ => rfl) (.modBay (fun _ => rfl) .refl)))))))
    · exact .refl

theorem eventSag_keepsBut : s.KeepsBut [.records] (eventSag b s) := by
  unfold eventSag
  split
  · exact .refl
  · split
    · exact .startWake (.loseAsk (.modBay (fun _ => rfl) (.writeRecord (.modBay (fun _ => rfl) .refl))))
    · exact .refl

theorem eventRailRiseClear_keepsBut : s.KeepsBut touched (eventRailRiseClear b s) := by
  unfold eventRailRiseClear
  split
  · exact .modBay (fun _ => rfl) .refl
  · exact .refl

theorem eventCycleTimerExpiry_keepsBut : s.KeepsBut [.records] (eventCycleTimerExpiry b s) := by
  unfold eventCycleTimerExpiry
  dsimp only
  split
  · split
    · exact .startWake (.writeRecord (.modBay (fun _ => rfl) (.modBay (fun _ => rfl) .refl)))
    · exact .modBay (fun _ => rfl) .refl
  · exact .refl

/-! ### The bay link (chapter 2) -/

/-- An event that changes the link of its bay but for the line rate, or nothing. -/
theorem State.modLink_or_keepsBut (p : Prop) [Decidable p] {f : Link → Link} (hf : ∀ l, (f l).lineRate = l.lineRate) :
    s.KeepsBut touched (if p then s.modBay b (fun x => x.modLink f) else s) := by
  split
  · exact .modBay (fun x => congrArg (·, x.contact, x.present, x.cal, x.ring.nextSeq) (hf x.link)) .refl
  · exact .refl

theorem Link.receive_lineRate (l : Link) (byte : Byte) (clock : Time) :
    (l.receive byte clock).lineRate = l.lineRate := by
  unfold Link.receive
  repeat' split
  all_goals rfl

theorem eventBaySyncReceived_keepsBut (byte : Byte) : s.KeepsBut touched (eventBaySyncReceived b byte s) :=
  .modBay (fun x => congrArg (·, x.contact, x.present, x.cal, x.ring.nextSeq)
    (x.link.receive_lineRate byte s.clock)) .refl

theorem Link.characterFault_lineRate (l : Link) : l.characterFault.lineRate = l.lineRate := by
  unfold Link.characterFault
  split <;> rfl

theorem eventBayCharacterFault_keepsBut : s.KeepsBut touched (eventBayCharacterFault b s) :=
  .modBay (fun x => congrArg (·, x.contact, x.present, x.cal, x.ring.nextSeq) x.link.characterFault_lineRate) .refl

theorem eventAnswerAccepted_keepsBut (frame : BayFrame) : s.KeepsBut [.records] (eventAnswerAccepted b frame s) := by
  unfold eventAnswerAccepted
  split
  · split
    · exact .refl
    · split
      · exact .endAsk (.modBay (fun _ => rfl) .refl)
      · exact .modBay (fun _ => rfl) (.modBay (fun _ => rfl) .refl)
  · exact .refl

theorem eventTunnelInAccepted_keepsBut (frame : BayFrame) : s.KeepsBut touched (eventTunnelInAccepted b frame s) := by
  have hunting : s.KeepsBut touched (s.huntAgain b) := .modBay (fun _ => rfl) .refl
  unfold eventTunnelInAccepted State.tunnelArrives
  split
  · split
    · exact (hunting.modBay (b := b) (f := fun x => x.modLink (fun l => { l with tunnelIn := some frame.body }))
        fun _ => rfl).elsewhere ..
    · exact .modBay (fun _ => rfl) hunting
  · exact .refl

theorem eventDispatch_keepsBut : s.KeepsBut touched (eventDispatch b s) := by
  unfold eventDispatch State.dispatchHead
  split
  · split
    · exact .refl
    · split
      · exact .beginFrame (.modBay (fun _ => rfl) (State.KeepsBut.refl.elsewhere ..))
      · exact .modBay (fun _ => rfl) .refl
  · exact .refl

/-- The send time of an ask may open a window, and a grant may follow (R71, R113, R116). -/
theorem State.askLeft_keepsBut : s.KeepsBut [.lastGranted] (s.askLeft b) := by
  unfold State.askLeft
  split
  · exact .refl
  · rename_i i _
    have started : s.KeepsBut [.lastGranted] (s.modBay b (fun x => x.modLink (fun l =>
      { l with answerTimer := some (expiryAfter s.clock ((s.gather i).timeoutMs.toNat * 1000)) }))) :=
      .modBay (fun _ => rfl) .refl
    rw [State.recordSend_eq]
    split
    · exact .openWindow (started.elsewhere ..)
    · exact started.elsewhere ..

theorem eventAskSent_keepsBut : s.KeepsBut [.lastGranted] (eventAskSent b s) := by
  have left : s.KeepsBut [.lastGranted] (s.modBay b (fun x => x.modLink Link.frameLeft)) := .modBay (fun _ => rfl) .refl
  unfold eventAskSent
  dsimp only
  split
  · split
    · exact (left.trans (State.askLeft_keepsBut b)).beginFrame
    · exact left.beginFrame
  · exact .refl

theorem eventTunnelOutSent_keepsBut : s.KeepsBut touched (eventTunnelOutSent b s) := by
  unfold eventTunnelOutSent
  split
  · exact .beginFrame (.modBay (fun _ => rfl) .refl)
  · exact .refl

theorem eventAnswerTimerExpiry_keepsBut : s.KeepsBut [.records] (eventAnswerTimerExpiry b s) := by
  unfold eventAnswerTimerExpiry
  split
  · split
    · exact .endAsk .refl
    · exact .modBay (fun _ => rfl) .refl
  · exact .refl

/-! ### The converter (chapter 6) -/

theorem State.creditSample_keepsBut (tied : Bool) (code : BitVec 12) :
    s.KeepsBut touched (s.creditSample b tied code) := by
  unfold State.creditSample
  split
  · exact .modBay (fun _ => rfl) .refl
  · exact .refl

theorem eventConversionEnd_keepsBut (code : BitVec 12) : s.KeepsBut [.lastGranted] (eventConversionEnd code s) := by
  unfold eventConversionEnd
  split
  · exact .refl
  · rename_i b _ tied _
    split
    · exact .grant ((State.creditSample_keepsBut b tied code).elsewhere ..)
    · exact .refl

/-! ### The stop line (chapter 8) -/

theorem State.abortBay_keepsBut : s.KeepsBut [.records] (s.abortBay b) := by
  unfold State.abortBay
  split
  · exact .refl
  · exact .modBay (fun _ => rfl) (.dropQueue (.loseAsk (.modBay Bay.abandonCycle_items .refl)))

theorem State.KeepsBut.setRun {t : State} (h : s.KeepsBut touched t) (r : RunState)
    (hr : Item.run ∈ touched := by simp) : s.KeepsBut touched { t with run := r } := by
  refine h.trans ⟨rfl, rfl, fun item hi => ?_⟩
  cases item
  case run => exact absurd hr hi
  all_goals simp [Item.kept, State.bay]

theorem State.KeepsBut.setStopLine {t : State} (h : s.KeepsBut touched t) (asserted : Bool)
    (hr : Item.stopLine ∈ touched := by simp) : s.KeepsBut touched { t with stopLine := asserted } := by
  refine h.trans ⟨rfl, rfl, fun item hi => ?_⟩
  cases item
  case stopLine => exact absurd hr hi
  all_goals simp [Item.kept, State.bay]

theorem State.abort_keepsBut : s.KeepsBut [.run, .records] s.abort :=
  .foldl (fun _ b => (State.abortBay_keepsBut b).mono (by simp)) _ ((State.KeepsBut.refl.setRun .held).elsewhere ..)

theorem eventStopLineChange_keepsBut (asserted : Bool) :
    s.KeepsBut [.stopLine, .run, .records] (eventStopLineChange asserted s) := by
  have raised : s.KeepsBut [.stopLine, .run, .records] (({ s with stopLine := asserted } : State).raise .stopLine) :=
    .raise (State.KeepsBut.refl.setStopLine asserted)
  unfold eventStopLineChange State.actOnStop
  split
  · exact .refl
  · dsimp only
    split
    · split
      · exact raised.setRun .held
      · exact raised.trans (State.abort_keepsBut.mono (by simp))
    · exact raised

end

end Sys2Proof.Machine
end

section
/-! SUPPORT. What each request touches of the station's items before its reply, and what the reply touches (R176). -/

namespace Sys2Proof.Machine

/-- The request c ends in a reply, composed on a state that differs from s in no item but those listed. -/
def State.Serves (s : State) (c : Instr) (touched : List Item) (t : State) : Prop :=
  ∃ u status body, s.KeepsBut touched u ∧ t = u.answer c status body

section
variable {s t u : State} {touched : List Item} {c : Instr}

theorem State.Serves.answer {status : Status} {body : List Byte} (h : s.KeepsBut touched u) :
    s.Serves c touched (u.answer c status body) := ⟨u, status, body, h, rfl⟩

/-- A reply reaches the request buffer alone of the port. -/
theorem State.answer_port (s : State) (c : Instr) (status : Status) (body : List Byte) :
    (s.answer c status body).port = { s.port with buffer := (s.answer c status body).port.buffer } := by
  unfold State.answer State.takeRequests
  dsimp only
  split
  · split <;> rfl
  · rfl

/-- With no request in hand a reply leaves the port alone (assumption 3). -/
theorem State.answer_port_of_none (h : s.requestInHand = none) (c : Instr) (status : Status) (body : List Byte) :
    (s.answer c status body).port = s.port := by
  have hnot : ¬({ s with lastReply := some ⟨status, s.replyFlags, body⟩ } : State).requestInHand = some c := by
    show ¬s.requestInHand = some c
    simp [h]
  unfold State.answer
  dsimp only
  rw [if_neg hnot]

/-- Composing the reply touches the port and the latest reply alone. -/
theorem State.Serves.keepsBut (h : s.Serves c touched t) : s.KeepsBut ([.port, .reply] ++ touched) t := by
  obtain ⟨u, status, body, hu, rfl⟩ := h
  refine (hu.mono (by simp)).trans ⟨by simp, by simp, fun item hi => ?_⟩
  cases item
  case port | reply => simp at hi
  case attached =>
    show ((u.answer c status body).port).attached = _
    rw [State.answer_port]
  all_goals simp [Item.kept]

theorem State.Serves.port_of_none (h : s.Serves c touched t) (hport : Item.port ∉ touched)
    (hnone : s.requestInHand = none) : t.port = s.port := by
  obtain ⟨u, status, body, hu, rfl⟩ := h
  have kept : u.port = s.port := hu.items .port hport
  rw [State.answer_port_of_none (by rw [State.requestInHand, kept]; exact hnone), kept]

/-! ### Bays (chapters 1 to 3) -/

theorem requestReleaseBay_serves (bay : Byte) : s.Serves (.releaseBay bay) [] (requestReleaseBay bay s) := by
  unfold requestReleaseBay
  split
  · exact .answer .refl
  · split
    · exact .answer (.beginFrame (.modBay (fun _ => rfl) .refl))
    · exact .answer (.startWake .refl)
    · exact .answer (.modBay (fun _ => rfl) .refl)
    all_goals exact .answer .refl

theorem State.resetBay_keepsBut (b : BayNo) : s.KeepsBut [.records] (s.resetBay b) := by
  unfold State.resetBay
  exact .modBay (fun _ => rfl) (.clearNotice (.clearNotice (.clearNotice (.clearNotice (.modBay (fun _ => rfl)
    (.emptyTunnels (.dropQueue (.loseAsk (.modBay (fun _ => rfl) .refl)))))))))

theorem requestResetBay_serves (bay : Byte) : s.Serves (.resetBay bay) [.records] (requestResetBay bay s) := by
  unfold requestResetBay
  split
  · exact .answer .refl
  · exact .answer (State.resetBay_keepsBut _)

theorem State.setSupply_keepsBut {b : BayNo} {mode : SupplyMode} (h : s.setSupply b mode = some t) :
    s.KeepsBut [.records] t := by
  unfold State.setSupply at h
  split at h <;> simp only [Option.some.injEq, reduceCtorEq] at h <;> subst h
  · exact .refl
  · exact .startWake (.modBay (fun _ => rfl) .refl)
  · exact .unreachQueue (.modBay (fun _ => rfl) (.modBay Bay.abandonCycle_items .refl))
  · exact .modBay (fun _ => rfl) .refl
  · unfold State.supplyOff
    exact .modBay (fun _ => rfl) (.unreachQueue (.loseAsk (.modBay (fun _ => rfl) .refl)))
  · exact .modBay (fun _ => rfl) .refl

theorem requestSetSupply_serves (bay mode : Byte) :
    s.Serves (.setSupply bay mode) [.records] (requestSetSupply bay mode s) := by
  unfold requestSetSupply
  split
  · split
    · exact .answer .refl
    · rename_i ht
      exact .answer (State.setSupply_keepsBut ht)
  · exact .answer .refl

theorem State.cycle_keepsBut (b : BayNo) (off : Nat) (saved mode : OnMode) :
    s.KeepsBut [.records] (s.cycle b off saved mode) := by
  unfold State.cycle
  exact .modBay (fun _ => rfl) (.loseAsk (.modBay (fun _ => rfl) (.writeRecord (.modBay (fun _ => rfl) .refl))))

theorem requestCycleBay_serves (bay : Byte) (offMs : BitVec 16) (restore : Option Byte) :
    s.Serves (.cycleBay bay offMs restore) [.records] (requestCycleBay bay offMs restore s) := by
  unfold requestCycleBay
  split
  · split
    case h_1 => exact .answer .refl
    case h_6 => exact .answer .refl
    all_goals exact .answer (State.cycle_keepsBut _ _ _ _)
  · exact .answer .refl

theorem requestSetLineRate_serves (bay rate : Byte) :
    s.Serves (.setLineRate bay rate) [.lineRates] (requestSetLineRate bay rate s) := by
  unfold requestSetLineRate
  split
  · split
    · refine .answer ⟨rfl, rfl, fun item hi => ?_⟩
      cases item
      case lineRates => simp at hi
      all_goals simp [Item.kept]
      all_goals intro c; split <;> simp_all
    · exact .answer .refl
  · exact .answer .refl

theorem requestPutTunnel_serves (bay : Byte) (block : List Byte) :
    s.Serves (.putTunnel bay block) [] (requestPutTunnel bay block s) := by
  unfold requestPutTunnel
  split
  · exact .answer .refl
  · split
    · exact .answer .refl
    · split
      · exact .answer .refl
      · split
        · exact .answer .refl
        · exact .answer (.beginFrame (.modBay (fun _ => rfl) .refl))

theorem requestGetTunnel_serves (bay : Byte) : s.Serves (.getTunnel bay) [] (requestGetTunnel bay s) := by
  unfold requestGetTunnel
  split
  · exact .answer .refl
  · rename_i b _
    exact .answer (((State.KeepsBut.refl (s := s)).modBay (b := b)
      (f := fun x => x.modLink (fun l => { l with tunnelIn := none })) fun _ => rfl).elsewhere ..)

/-! ### Gathers and profiles (chapters 4 and 5) -/

theorem State.cancelSlot_keepsBut (i : GatherNo) (b : BayNo) : s.KeepsBut touched (s.cancelSlot i b) := by
  unfold State.cancelSlot
  split
  · exact .completeUnevaluated (.modBay (fun _ => rfl) .refl)
  · exact .refl

theorem requestCancelGather_serves (index : Byte) (serial : BitVec 16) :
    s.Serves (.cancelGather index serial) [] (requestCancelGather index serial s) := by
  unfold requestCancelGather
  split
  · exact .answer .refl
  · dsimp only
    split
    · exact .answer (.foldl (fun _ b => State.cancelSlot_keepsBut _ b) _ (State.KeepsBut.refl.elsewhere ..))
    · exact .answer .refl

theorem requestReleaseGather_serves (index : Byte) (serial : BitVec 16) :
    s.Serves (.releaseGather index serial) [] (requestReleaseGather index serial s) := by
  unfold requestReleaseGather
  split
  · exact .answer .refl
  · split
    · exact .answer (.clearNotice (State.KeepsBut.refl.elsewhere ..))
    · exact .answer .refl

/-- An arm takes a serial and reaches the queues of the bays (R67). -/
theorem State.arm_keepsBut (i : GatherNo) (g : Gather) : s.KeepsBut [.serial] (s.arm i g) := by
  have numbered : s.KeepsBut [.serial] { s with gatherSerial := g.serial } := by
    refine ⟨rfl, rfl, fun item hi => ?_⟩
    cases item
    case serial => simp at hi
    all_goals simp [Item.kept, State.bay]
  have queued : s.KeepsBut [.serial] (({ s with gatherSerial := g.serial } : State).enqueue g.bays i) :=
    numbered.ofBays rfl fun c => by
      rw [State.enqueue_bay]
      split <;> rfl
  unfold State.arm
  dsimp only
  split
  · exact queued.elsewhere ..
  · exact .raise (queued.elsewhere ..)

theorem requestArmGather_serves (bays : BaySet) (command : BitVec 16) (profile : Byte) (failMask : Indicators)
    (timeoutMs : BitVec 16) (options : Byte) (args : List Byte) :
    s.Serves (.armGather bays command profile failMask timeoutMs options args) [.serial]
      (requestArmGather bays command profile failMask timeoutMs options args s) := by
  unfold requestArmGather
  dsimp only
  split
  · exact .answer .refl
  · exact .answer (State.arm_keepsBut _ _)

theorem requestDefineProfile_serves (profile valueMode : Byte) (m d : BitVec 16) (b low high : BitVec 32)
    (latencyMs currentMa : BitVec 16) :
    s.Serves (.defineProfile profile valueMode m d b low high latencyMs currentMa) []
      (requestDefineProfile profile valueMode m d b low high latencyMs currentMa s) := by
  unfold requestDefineProfile
  dsimp only
  split
  · exact .answer .refl
  · exact .answer (State.KeepsBut.refl.elsewhere ..)

theorem requestClearStats_serves (profile : Byte) : s.Serves (.clearStats profile) [] (requestClearStats profile s) := by
  unfold requestClearStats
  split
  · exact .answer .refl
  · exact .answer (State.KeepsBut.refl.elsewhere ..)

/-! ### Requests that only read -/

theorem requestBayStatus_serves (bay : Byte) : s.Serves (.bayStatus bay) [] (requestBayStatus bay s) := by
  unfold requestBayStatus
  split <;> exact .answer .refl

theorem requestPeekTunnel_serves (bay : Byte) : s.Serves (.peekTunnel bay) [] (requestPeekTunnel bay s) := by
  unfold requestPeekTunnel
  split <;> exact .answer .refl

theorem requestGatherStatus_serves (index : Byte) (serial : BitVec 16) :
    s.Serves (.gatherStatus index serial) [] (requestGatherStatus index serial s) := by
  unfold requestGatherStatus
  split <;> exact .answer .refl

theorem requestGatherSlot_serves (index : Byte) (serial : BitVec 16) (bay : Byte) :
    s.Serves (.gatherSlot index serial bay) [] (requestGatherSlot index serial bay s) := by
  unfold requestGatherSlot
  split
  · exact .answer .refl
  · split <;> exact .answer .refl

theorem requestReadProfile_serves (profile : Byte) :
    s.Serves (.readProfile profile) [] (requestReadProfile profile s) := by
  unfold requestReadProfile
  split <;> exact .answer .refl

theorem requestRingStatus_serves (bay : Byte) : s.Serves (.ringStatus bay) [] (requestRingStatus bay s) := by
  unfold requestRingStatus
  split <;> exact .answer .refl

theorem requestReadCal_serves (bay : Byte) : s.Serves (.readCal bay) [] (requestReadCal bay s) := by
  unfold requestReadCal
  split <;> exact .answer .refl

/-! ### Result rings (chapter 7) -/

/-- A ring that keeps its sequence number. -/
theorem State.KeepsBut.modRing {f : Ring → Ring} {b : BayNo} (hf : ∀ r, (f r).nextSeq = r.nextSeq)
    (h : s.KeepsBut touched u) : s.KeepsBut touched (u.modBay b (fun x => { x with ring := f x.ring })) :=
  .modBay (fun x => congrArg (x.link.lineRate, x.contact, x.present, x.cal, ·) (hf x.ring)) h

theorem Ring.setWindow_nextSeq (r : Ring) (base length : Nat) (mode : RingMode) :
    (r.setWindow base length mode).nextSeq = r.nextSeq := by
  unfold Ring.setWindow
  split <;> rfl

theorem requestSetRing_serves (bay : Byte) (base length : BitVec 16) (mode : Byte) :
    s.Serves (.setRing bay base length mode) [] (requestSetRing bay base length mode s) := by
  unfold requestSetRing
  split
  · exact .answer .refl
  · exact .answer (.modRing (fun r => r.setWindow_nextSeq _ _ _) .refl)

theorem requestReadResults_serves (bay max : Byte) :
    s.Serves (.readResults bay max) [] (requestReadResults bay max s) := by
  unfold requestReadResults
  split
  · exact .answer .refl
  · exact .answer (.modRing (f := fun r => r.removeOldest _) (fun _ => rfl) .refl)

theorem requestClearDrops_serves (bay : Byte) (drops overwrites : BitVec 16) :
    s.Serves (.clearDrops bay drops overwrites) [] (requestClearDrops bay drops overwrites s) := by
  unfold requestClearDrops State.clearLosses
  split
  · exact .answer .refl
  · rename_i b _
    have lowered : s.KeepsBut [] (s.modBay b (fun x => { x with ring := x.ring.lowerCounts drops overwrites })) :=
      .modRing (f := fun r => r.lowerCounts drops overwrites) (fun _ => rfl) .refl
    dsimp only
    split
    · exact .answer (lowered.elsewhere ..)
    · exact .answer lowered

/-! ### Calibration and notices (chapters 6 and 9) -/

theorem requestWriteCal_serves (bay : Byte) (gain offset : BitVec 16) :
    s.Serves (.writeCal bay gain offset) [.pairs] (requestWriteCal bay gain offset s) := by
  unfold requestWriteCal
  split
  · exact .answer .refl
  · split
    · exact .answer .refl
    · refine .answer ⟨rfl, rfl, fun item hi => ?_⟩
      cases item
      case pairs => simp at hi
      all_goals simp [Item.kept]
      all_goals intro c; split <;> simp_all

/-- A change of the calibration lock. -/
theorem State.setLock_keepsBut (lock : Bool) : s.KeepsBut [.lock] { s with calLock := lock } := by
  refine ⟨rfl, rfl, fun item hi => ?_⟩
  cases item
  case lock => simp at hi
  all_goals simp [Item.kept, State.bay]

theorem requestLockCal_serves : s.Serves .lockCal [.lock] (requestLockCal s) := .answer (State.setLock_keepsBut true)

theorem requestUnlockCal_serves : s.Serves .unlockCal [.lock] (requestUnlockCal s) := by
  unfold requestUnlockCal
  split
  · exact .answer (State.setLock_keepsBut false)
  · exact .answer .refl

theorem requestPollNotice_serves : s.Serves .pollNotice [] (requestPollNotice s) := by
  unfold requestPollNotice
  split
  · exact .answer .refl
  · exact .answer (State.KeepsBut.refl.elsewhere ..)

theorem requestClearNotices_serves : s.Serves .clearNotices [] (requestClearNotices s) :=
  .answer (State.KeepsBut.refl.elsewhere ..)

/-! ### Station control (chapter 8) -/

theorem requestSetParam_serves (number : Byte) (value : BitVec 32) :
    s.Serves (.setParam number value) [.parameters] (requestSetParam number value s) := by
  refine .answer ?_
  unfold State.setParameter
  split
  case h_4 => exact .refl
  all_goals
    refine ⟨rfl, rfl, fun item hi => ?_⟩
    cases item
    case parameters => simp at hi
    all_goals simp [Item.kept, State.bay]

theorem requestHold_serves : s.Serves .hold [.run] (requestHold s) := .answer (State.KeepsBut.refl.setRun .held)

theorem requestResume_serves : s.Serves .resume [.run] (requestResume s) := by
  unfold requestResume
  split
  · exact .answer .refl
  · split
    · exact .answer .refl
    · exact .answer (.foldl (fun _ _ => .beginFrame .refl) _ (State.KeepsBut.refl.setRun .run))

/-- The station reset keeps what the abort keeps, but for the parameters, the serial and the line rates (R158, R159). -/
theorem State.stationReset_keepsBut :
    s.KeepsBut [.run, .parameters, .serial, .lastGranted, .lineRates, .records] s.stationReset := by
  refine (State.abort_keepsBut.mono (by simp)).trans ?_
  have hbay := s.stationReset_bay
  unfold State.stationReset at hbay ⊢
  generalize s.abort = a at hbay ⊢
  refine ⟨rfl, rfl, fun item hi => ?_⟩
  cases item
  case run | parameters | serial | lastGranted | lineRates | records => simp at hi
  case contacts | presences | pairs => intro c; rw [hbay]; rfl
  all_goals rfl

theorem requestStationReset_serves : s.Serves .stationReset
    [.run, .parameters, .serial, .lastGranted, .lineRates, .records] (requestStationReset s) :=
  .answer State.stationReset_keepsBut

end

end Sys2Proof.Machine
end

section
/-! PROOFS. Which commands alone change the station's own items: the items each command touches, listed, and every command
touches no other (R1, R3, R114, R124, R125, R132, R146, R155, R156). -/

namespace Sys2Proof.Machine

/-- The items a command touches, but for what a command that reaches the port makes of the request buffer and the latest
reply. -/
def touches : Instr → List Item
  | .powerOn _ _ _ => [.clock, .startup, .stopLine, .run, .parameters, .serial, .lastGranted, .lineRates, .contacts,
      .presences, .attached, .records]
  | .startupDebounceEnd => [.startup, .presences]
  | .setParam _ _ => [.parameters]
  | .hold | .resume => [.run]
  | .stationReset => [.run, .parameters, .serial, .lastGranted, .lineRates, .records]
  | .stopLineChange _ => [.stopLine, .run, .records]
  | .armGather _ _ _ _ _ _ _ => [.serial]
  | .setLineRate _ _ => [.lineRates]
  | .askSent _ | .conversionEnd _ => [.lastGranted]
  | .presenceContactChange _ _ => [.contacts]
  | .debounceExpiry _ => [.presences, .records]
  | .linkDetach | .linkAttach => [.attached]
  | .lockCal | .unlockCal => [.lock]
  | .writeCal _ _ _ => [.pairs]
  | .signOnAccepted _ _ | .answerAccepted _ _ | .answerTimerExpiry _ | .wakeTimerExpiry _ | .cycleTimerExpiry _
  | .trip _ _ | .sag _ | .setSupply _ _ | .cycleBay _ _ _ | .resetBay _ => [.records]
  | _ => []

/-- What a command may touch of the port and the latest reply. -/
def portItems (c : Instr) : List Item := if reachesPort c then [.port, .reply] else []

section
variable {c : Instr}

/-! ### The commands named for each item -/

theorem touches_clock (h : ∀ x y z, c ≠ .powerOn x y z) : Item.clock ∉ touches c := by
  cases c
  case powerOn => exact absurd rfl (h _ _ _)
  all_goals exact of_decide_eq_true rfl

theorem touches_startup (h : ∀ x y z, c ≠ .powerOn x y z) (hend : c ≠ .startupDebounceEnd) :
    Item.startup ∉ touches c := by
  cases c
  case powerOn => exact absurd rfl (h _ _ _)
  case startupDebounceEnd => exact absurd rfl hend
  all_goals exact of_decide_eq_true rfl

theorem touches_stopLine (h : ∀ x y z, c ≠ .powerOn x y z) (hstop : ∀ x, c ≠ .stopLineChange x) :
    Item.stopLine ∉ touches c := by
  cases c
  case powerOn => exact absurd rfl (h _ _ _)
  case stopLineChange => exact absurd rfl (hstop _)
  all_goals exact of_decide_eq_true rfl

theorem touches_run (h : ∀ x y z, c ≠ .powerOn x y z) (hstop : ∀ x, c ≠ .stopLineChange x) (hhold : c ≠ .hold)
    (hresume : c ≠ .resume) (hreset : c ≠ .stationReset) : Item.run ∉ touches c := by
  cases c
  case powerOn => exact absurd rfl (h _ _ _)
  case stopLineChange => exact absurd rfl (hstop _)
  case hold => exact absurd rfl hhold
  case resume => exact absurd rfl hresume
  case stationReset => exact absurd rfl hreset
  all_goals exact of_decide_eq_true rfl

theorem touches_parameters (h : ∀ x y z, c ≠ .powerOn x y z) (hreset : c ≠ .stationReset)
    (hset : ∀ n v, c ≠ .setParam n v) : Item.parameters ∉ touches c := by
  cases c
  case powerOn => exact absurd rfl (h _ _ _)
  case stationReset => exact absurd rfl hreset
  case setParam => exact absurd rfl (hset _ _)
  all_goals exact of_decide_eq_true rfl

theorem touches_serial (h : ∀ x y z, c ≠ .powerOn x y z) (hreset : c ≠ .stationReset)
    (harm : ∀ a b d e f g h, c ≠ .armGather a b d e f g h) : Item.serial ∉ touches c := by
  cases c
  case powerOn => exact absurd rfl (h _ _ _)
  case stationReset => exact absurd rfl hreset
  case armGather => exact absurd rfl (harm _ _ _ _ _ _ _)
  all_goals exact of_decide_eq_true rfl

theorem touches_lineRates (h : ∀ x y z, c ≠ .powerOn x y z) (hreset : c ≠ .stationReset)
    (hset : ∀ a b, c ≠ .setLineRate a b) : Item.lineRates ∉ touches c := by
  cases c
  case powerOn => exact absurd rfl (h _ _ _)
  case stationReset => exact absurd rfl hreset
  case setLineRate => exact absurd rfl (hset _ _)
  all_goals exact of_decide_eq_true rfl

theorem touches_lastGranted (h : ∀ x y z, c ≠ .powerOn x y z) (hreset : c ≠ .stationReset)
    (hsent : ∀ b, c ≠ .askSent b) (hend : ∀ code, c ≠ .conversionEnd code) : Item.lastGranted ∉ touches c := by
  cases c
  case powerOn => exact absurd rfl (h _ _ _)
  case stationReset => exact absurd rfl hreset
  case askSent => exact absurd rfl (hsent _)
  case conversionEnd => exact absurd rfl (hend _)
  all_goals exact of_decide_eq_true rfl

theorem touches_contacts (h : ∀ x y z, c ≠ .powerOn x y z) (hcontact : ∀ a b, c ≠ .presenceContactChange a b) :
    Item.contacts ∉ touches c := by
  cases c
  case powerOn => exact absurd rfl (h _ _ _)
  case presenceContactChange => exact absurd rfl (hcontact _ _)
  all_goals exact of_decide_eq_true rfl

theorem touches_presences (h : ∀ x y z, c ≠ .powerOn x y z) (hdebounce : ∀ a, c ≠ .debounceExpiry a)
    (hend : c ≠ .startupDebounceEnd) : Item.presences ∉ touches c := by
  cases c
  case powerOn => exact absurd rfl (h _ _ _)
  case debounceExpiry => exact absurd rfl (hdebounce _)
  case startupDebounceEnd => exact absurd rfl hend
  all_goals exact of_decide_eq_true rfl

theorem touches_attached (h : ∀ x y z, c ≠ .powerOn x y z) (hdetach : c ≠ .linkDetach) (hattach : c ≠ .linkAttach) :
    Item.attached ∉ touches c := by
  cases c
  case powerOn => exact absurd rfl (h _ _ _)
  case linkDetach => exact absurd rfl hdetach
  case linkAttach => exact absurd rfl hattach
  all_goals exact of_decide_eq_true rfl

theorem touches_lock (hlock : c ≠ .lockCal) (hunlock : c ≠ .unlockCal) : Item.lock ∉ touches c := by
  cases c
  case lockCal => exact absurd rfl hlock
  case unlockCal => exact absurd rfl hunlock
  all_goals exact of_decide_eq_true rfl

theorem touches_pairs (hwrite : ∀ a b d, c ≠ .writeCal a b d) : Item.pairs ∉ touches c := by
  cases c
  case writeCal => exact absurd rfl (hwrite _ _ _)
  all_goals exact of_decide_eq_true rfl

theorem touches_port (c : Instr) : Item.port ∉ touches c ∧ Item.reply ∉ touches c := by
  cases c
  all_goals exact of_decide_eq_true rfl

end

/-! ### Every command -/

section
variable {s t : State} {touched : List Item} {c : Instr}

/-- A change of the port that keeps the attachment. -/
theorem State.KeepsBut.modPort {f : Port → Port} (hf : (f s.port).attached = s.port.attached) :
    s.KeepsBut ([.port, .reply] ++ touched) (s.modPort f) := by
  refine ⟨rfl, rfl, fun item hi => ?_⟩
  cases item
  case port => simp at hi
  case attached => exact hf
  all_goals simp [Item.kept, State.modPort, State.bay]

theorem State.KeepsBut.modPortItems (f : Port → Port) : s.KeepsBut [.port, .reply, .attached] (s.modPort f) := by
  refine ⟨rfl, rfl, fun item hi => ?_⟩
  cases item
  case port | attached => simp at hi
  all_goals simp [Item.kept, State.modPort, State.bay]

theorem State.KeepsBut.modPort_ite (p : Prop) [Decidable p] {f : Port → Port}
    (hf : (f s.port).attached = s.port.attached) :
    s.KeepsBut ([.port, .reply] ++ touched) (if p then s.modPort f else s) := by
  split
  · exact .modPort hf
  · exact .refl

/-- What the port takes stands in its buffer (R175). -/
theorem State.takeRequests_eq_modPort (s : State) :
    s.takeRequests = s.modPort (fun p => { p with buffer := s.takeRequests.port.buffer }) := by
  unfold State.takeRequests
  split <;> rfl

theorem State.keepWaiting_eq_modPort (s : State) (c : Instr) :
    s.keepWaiting c = s.modPort (fun p => { p with buffer := (s.keepWaiting c).port.buffer }) :=
  s.keepWaiting_eq c

theorem Port.receive_attached (p : Port) (byte : Byte) (clock : Time) :
    (p.receive byte clock).attached = p.attached := by
  unfold Port.receive
  repeat' split
  all_goals rfl

/-- The requests, by their own lemmas (R175). -/
theorem State.carryOut_serves (s : State) (hc : (encodeRequest c).isSome) : s.Serves c (touches c) (s.carryOut c) := by
  cases c
  case setParam => exact requestSetParam_serves _ _
  case resume => exact requestResume_serves
  case stationReset => exact requestStationReset_serves
  case bayStatus => exact requestBayStatus_serves _
  case setSupply => exact requestSetSupply_serves _ _
  case cycleBay => exact requestCycleBay_serves _ _ _
  case releaseBay => exact requestReleaseBay_serves _
  case resetBay => exact requestResetBay_serves _
  case setLineRate => exact requestSetLineRate_serves _ _
  case putTunnel => exact requestPutTunnel_serves _ _
  case getTunnel => exact requestGetTunnel_serves _
  case peekTunnel => exact requestPeekTunnel_serves _
  case armGather => exact requestArmGather_serves _ _ _ _ _ _ _
  case gatherStatus => exact requestGatherStatus_serves _ _
  case gatherSlot => exact requestGatherSlot_serves _ _ _
  case cancelGather => exact requestCancelGather_serves _ _
  case releaseGather => exact requestReleaseGather_serves _ _
  case defineProfile => exact requestDefineProfile_serves _ _ _ _ _ _ _ _ _
  case readProfile => exact requestReadProfile_serves _
  case clearStats => exact requestClearStats_serves _
  case setRing => exact requestSetRing_serves _ _ _ _
  case readResults => exact requestReadResults_serves _ _
  case clearDrops => exact requestClearDrops_serves _ _ _
  case ringStatus => exact requestRingStatus_serves _
  case pollNotice => exact requestPollNotice_serves
  case clearNotices => exact requestClearNotices_serves
  case writeCal => exact requestWriteCal_serves _ _ _
  case readCal => exact requestReadCal_serves _
  case unlockCal => exact requestUnlockCal_serves
  case hold => exact requestHold_serves
  case lockCal => exact requestLockCal_serves
  case identify | getParam | readClock => exact .answer .refl
  all_goals simp [encodeRequest] at hc

/-- Every request is served by its own effect. -/
theorem exec_request (s : State) (hc : (encodeRequest c).isSome) :
    exec c s = .next (s.serve c (fun u => u.carryOut c)) := by
  cases c
  case powerOn | startupDebounceEnd | requestFrameAccepted | requestFrameCheckFail | requestLengthDiscard
    | requestGapExpiry | replyDelivered | linkDetach | linkAttach | signOnAccepted | answerAccepted | tunnelInAccepted
    | bayFrameRejected | bayFrameLengthDiscard | bayFrameGapExpiry | bayCharacterFault | syncGapExpiry | dispatch
    | askSent | tunnelOutSent | answerTimerExpiry | wakeTimerExpiry | cycleTimerExpiry | presenceContactChange
    | debounceExpiry | trip | sag | railRiseClear | stopLineChange | conversionEnd | baySyncReceived
    | requestSyncReceived => simp [encodeRequest] at hc
  all_goals rfl

theorem State.serve_keepsBut (h : s.comesFirst c) (hc : (encodeRequest c).isSome) :
    s.KeepsBut ([.port, .reply] ++ touches c) (s.serve c (fun u => u.carryOut c)) := by
  unfold State.serve
  split
  · rw [State.keepWaiting_eq_modPort]
    exact .modPort rfl
  · rw [s.before_of_comesFirst c h]
    exact (s.carryOut_serves hc).keepsBut

theorem State.poweredOn_keepsBut (stopAsserted : Bool) (contacts : BaySet) (attached : Bool) :
    s.KeepsBut [.port, .reply, .clock, .startup, .stopLine, .run, .parameters, .serial, .lastGranted, .lineRates,
      .contacts, .presences, .attached, .records] (s.poweredOn stopAsserted contacts attached) := by
  refine ⟨rfl, rfl, fun item hi => ?_⟩
  cases item
  case lock => rfl
  case pairs => intro b; rw [State.poweredOn_bay]
  all_goals simp at hi

theorem State.startedUp_keepsBut : s.KeepsBut ([.port, .reply] ++ [.startup, .presences]) s.startedUp := by
  refine ⟨rfl, rfl, fun item hi => ?_⟩
  cases item
  case startup | presences => simp at hi
  case parameters => exact ⟨rfl, rfl, rfl⟩
  case lineRates | contacts | pairs => intro b; rw [State.startedUp_bay]
  case records => exact ⟨rfl, fun b => by rw [State.startedUp_bay]⟩
  all_goals rfl

/-- Every command that finds no other request in hand touches only the items listed for it. -/
theorem exec_keepsBut (h : s.comesFirst c) (ht : exec c s = .next t) : s.KeepsBut (portItems c ++ touches c) t := by
  have before := s.before_of_comesFirst c h
  cases c
  all_goals obtain rfl := Host.Outcome.next.inj ht
  case powerOn => exact State.poweredOn_keepsBut _ _ _
  case startupDebounceEnd =>
    split
    · rw [State.takeRequests_eq_modPort]
      exact State.startedUp_keepsBut.trans (.modPort rfl)
    · exact .refl
  case requestFrameAccepted =>
    split
    · rw [State.takeRequests_eq_modPort]
      exact .trans (.modPort rfl) (.modPort rfl)
    · exact .refl
  case requestSyncReceived =>
    refine .modPort ?_
    split
    · exact Port.receive_attached _ _ _
    · rfl
  case replyDelivered => exact .modPort_ite _ rfl
  case linkDetach =>
    split
    · exact .modPortItems Port.detach
    · exact .refl
  case linkAttach =>
    split
    · exact .refl
    · exact .modPortItems _
  case requestFrameCheckFail | requestLengthDiscard | requestGapExpiry =>
    rw [before]; exact .modPort_ite _ rfl
  case signOnAccepted => rw [before]; exact eventSignOnAccepted_keepsBut _ _
  case answerAccepted => rw [before]; exact eventAnswerAccepted_keepsBut _ _
  case tunnelInAccepted => rw [before]; exact eventTunnelInAccepted_keepsBut _ _
  case bayFrameRejected | bayFrameLengthDiscard | bayFrameGapExpiry | syncGapExpiry =>
    rw [before]; exact State.modLink_or_keepsBut _ _ fun _ => rfl
  case bayCharacterFault => rw [before]; exact eventBayCharacterFault_keepsBut _
  case baySyncReceived => rw [before]; exact eventBaySyncReceived_keepsBut _ _
  case dispatch => rw [before]; exact eventDispatch_keepsBut _
  case askSent => rw [before]; exact eventAskSent_keepsBut _
  case tunnelOutSent => rw [before]; exact eventTunnelOutSent_keepsBut _
  case answerTimerExpiry => rw [before]; exact eventAnswerTimerExpiry_keepsBut _
  case wakeTimerExpiry => rw [before]; exact eventWakeTimerExpiry_keepsBut _
  case cycleTimerExpiry => rw [before]; exact eventCycleTimerExpiry_keepsBut _
  case presenceContactChange => rw [before]; exact eventPresenceContactChange_keepsBut _ _
  case debounceExpiry => rw [before]; exact eventDebounceExpiry_keepsBut _
  case trip => rw [before]; exact eventTrip_keepsBut _ _
  case sag => rw [before]; exact eventSag_keepsBut _
  case railRiseClear => rw [before]; exact eventRailRiseClear_keepsBut _
  case stopLineChange => rw [before]; exact eventStopLineChange_keepsBut _
  case conversionEnd => rw [before]; exact eventConversionEnd_keepsBut _
  case cycleBay restore => cases restore <;> exact State.serve_keepsBut h rfl
  all_goals exact State.serve_keepsBut h rfl

/-- While the lock is set WRITE_CAL stores nothing (R125, R127). -/
theorem requestWriteCal_serves_locked (hlock : s.calLock = true) (bay : Byte) (gain offset : BitVec 16) :
    s.Serves (.writeCal bay gain offset) [] (requestWriteCal bay gain offset s) := by
  unfold requestWriteCal
  split
  · exact .answer .refl
  · rw [if_pos hlock]
    exact .answer .refl

/-- Under the lock no command changes a calibration pair (R127). -/
theorem exec_pairs_of_locked (h : s.comesFirst c) (hlock : s.calLock = true) (ht : exec c s = .next t) :
    Item.pairs.kept s t := by
  by_cases hwrite : ∃ a b d, c = .writeCal a b d
  case neg =>
    refine (exec_keepsBut h ht).items .pairs ?_
    have untouched := touches_pairs fun a b d hc => hwrite ⟨a, b, d, hc⟩
    unfold portItems
    split <;> simpa using untouched
  case pos =>
    obtain ⟨bay, gain, offset, rfl⟩ := hwrite
    rw [exec_request s rfl] at ht
    obtain rfl := Host.Outcome.next.inj ht
    unfold State.serve
    split
    · rw [State.keepWaiting_eq_modPort]
      exact Item.kept_refl s .pairs
    · rw [s.before_of_comesFirst _ h]
      exact (requestWriteCal_serves_locked hlock bay gain offset).keepsBut.items .pairs (by simp)

/-- Settles O58: every item is kept by every command that is not named for it (exec_keepsBut), the port by a request
with none in hand, and the pairs by every command while the lock is set. -/
theorem onlyTheseCommandsChangeTheStation : Obligations.OnlyTheseCommandsChangeTheStation := by
  intro c s t h ht
  have keeps := exec_keepsBut h ht
  have kept : ∀ item, item ∉ touches c → item ∉ [Item.port, Item.reply] → item.kept s t := fun item htouch hport =>
    keeps.items item (by unfold portItems; split <;> simp_all)
  refine ⟨keeps.pending, keeps.railReads, fun hp => ⟨kept .clock (touches_clock hp) (by simp),
    fun hend => kept .startup (touches_startup hp hend) (by simp), fun hstop =>
    ⟨kept .stopLine (touches_stopLine hp hstop) (by simp), fun hhold hresume hreset =>
      kept .run (touches_run hp hstop hhold hresume hreset) (by simp)⟩, fun hreset =>
    ⟨fun hset => kept .parameters (touches_parameters hp hreset hset) (by simp),
      fun harm => kept .serial (touches_serial hp hreset harm) (by simp),
      fun hset => kept .lineRates (touches_lineRates hp hreset hset) (by simp),
      fun hsent hend => kept .lastGranted (touches_lastGranted hp hreset hsent hend) (by simp)⟩,
    fun hcontact => kept .contacts (touches_contacts hp hcontact) (by simp),
    fun hdebounce hend => kept .presences (touches_presences hp hdebounce hend) (by simp),
    fun hdetach hattach => kept .attached (touches_attached hp hdetach hattach) (by simp), fun hreach => ?_,
    fun hrequest hclear => ?_⟩, fun hlock hunlock => kept .lock (touches_lock hlock hunlock) (by simp),
    fun hwrite => kept .pairs (touches_pairs hwrite) (by simp), fun hlock => exec_pairs_of_locked h hlock ht,
    fun hrecords => kept .records ?_ (by simp)⟩
  · have none : portItems c = [] := if_neg (by simp [hreach])
    obtain ⟨hport, hreply⟩ := touches_port c
    exact ⟨keeps.items .port (by simpa [none] using hport), keeps.items .reply (by simpa [none] using hreply)⟩
  · have clear := hclear
    simp only [State.portClear, Bool.and_eq_true, Option.isNone_iff_eq_none] at clear
    rw [exec_request s hrequest, s.serve_of_clear c _ hclear] at ht
    obtain rfl := Host.Outcome.next.inj ht
    exact (s.carryOut_serves hrequest).port_of_none (touches_port c).1 clear.2
  · cases c
    case powerOn | stationReset | signOnAccepted | answerAccepted | answerTimerExpiry | wakeTimerExpiry | cycleTimerExpiry
      | debounceExpiry | trip | sag | setSupply | cycleBay | resetBay | stopLineChange => exact False.elim hrecords
    all_goals exact of_decide_eq_true rfl

end

end Sys2Proof.Machine
end

section
/-! PROOFS. The block of its own accord, and the parameters and the clock as the host reads and writes them (R115, R154
to R157). -/

namespace Sys2Proof.Machine

variable {s : State}

/-! ### With no command waiting (R115, R154, R173) -/

theorem step_of_empty (h : s.pending = []) : step s = .next s.idle := by rw [step, h]

theorem State.idle_of_due {c : Instr} (h : s.dueCommand = some c) : s.idle = { s with pending := [c] } := by
  rw [State.idle, h]

theorem State.idle_of_sample (h : s.dueCommand = none) (hsample : s.awaitsSample = true) :
    s.idle = s.endConversion := by
  rw [State.idle, h]
  exact if_pos hsample

theorem State.idle_of_nothing (h : s.dueCommand = none) (hsample : s.awaitsSample = false) :
    s.idle = s.passMicrosecond := by
  rw [State.idle, h]
  exact if_neg (Bool.eq_false_iff.1 hsample)

/-- Settles O2, by the three ways in which the block acts. -/
theorem anEmptyQueueLetsTheBlockAct : Obligations.AnEmptyQueueLetsTheBlockAct := by
  intro s hempty
  rw [step_of_empty hempty]
  refine ⟨fun c hc => ?_, fun hdue hsample => ?_, fun hdue hsample => ?_⟩
  · rw [State.idle_of_due hc]
  · rw [State.idle_of_sample hdue hsample]
    rfl
  · rw [State.idle_of_nothing hdue hsample, State.passMicrosecond, Port.passMicrosecond]
    simp only [Port.accepting_iff]

/-! ### IDENTIFY (R157) -/

theorem State.next_serve_of_up (h : s.startup = none) (c : Instr) (f : State → State) :
    Host.Outcome.next (φ := Fault) (ρ := Refusal) (s.serve c f) = .next (f (s.before c)) := by
  rw [s.serve_of_up c f h]

theorem State.param_fixed (s t : State) (number : Byte) (h : number.toNat ≤ 3) : s.param number = t.param number := by
  have cases4 : number.toNat = 0 ∨ number.toNat = 1 ∨ number.toNat = 2 ∨ number.toNat = 3 := by omega
  rcases cases4 with hn | hn | hn | hn <;> simp only [State.param, hn]

/-- Settles O8: parameters 0 to 3 are the same in every state, so the requests taken before leave them alone. -/
theorem identifyReturnsParametersZeroToThree : Obligations.IdentifyReturnsParametersZeroToThree := by
  intro s hup
  refine ⟨_, State.next_serve_of_up hup .identify requestIdentify, ?_, rfl, rfl, rfl, fun number hn => ?_⟩
  · exact State.answer_repliedAs ..
  · refine ⟨_, State.next_serve_of_up hup (.getParam number) (requestGetParam number), ?_⟩
    rw [State.param_fixed s (s.before (.getParam number)) number hn]
    exact State.answer_repliedAs ..

/-! ### What SET_PARAM stores (R156) -/

theorem clampNat_of_max (high x : Nat) : clampNat 0 high x = if high < x then high else x :=
  if_neg x.not_lt_zero

theorem setParameter_stopFunction (value : BitVec 32) :
    s.setParameter 4 value = { s with stopFunction := if value = 0 then .hold else .abort } := rfl

theorem setParameter_wakeTimeout (value : BitVec 32) : s.setParameter 5 value =
    { s with wakeTimeout := if value.toNat < 1000 then 1000 else if 120000 < value.toNat then 120000 else value } := by
  show ({ s with wakeTimeout := BitVec.ofNat 32 (clampNat 1000 120000 value.toNat) } : State) = _
  unfold clampNat
  split
  · rfl
  · split
    · rfl
    · rw [BitVec.ofNat_toNat, BitVec.setWidth_eq]

theorem setParameter_classMask (value : BitVec 32) : s.setParameter 6 value =
    { s with classMask := if 255 < value.toNat then 255 else value.setWidth 8 } := by
  show ({ s with classMask := BitVec.ofNat 8 (clampNat 0 255 value.toNat) } : State) = _
  rw [clampNat_of_max]
  split
  · rfl
  · rw [BitVec.ofNat_toNat]

theorem setParameter_other {number : Byte} (value : BitVec 32) (h4 : number ≠ 4) (h5 : number ≠ 5) (h6 : number ≠ 6) :
    s.setParameter number value = s := by
  unfold State.setParameter
  split
  · exact absurd (BitVec.eq_of_toNat_eq ‹_›) h4
  · exact absurd (BitVec.eq_of_toNat_eq ‹_›) h5
  · exact absurd (BitVec.eq_of_toNat_eq ‹_›) h6
  · rfl

/-! ### The values of the parameters (R155) -/

theorem State.param_stopFunction : s.param 4 = if s.stopFunction = .hold then 0 else 1 := by
  cases h : s.stopFunction <;> simp [State.param, h]

theorem State.param_unassigned {number : Byte} (h : 11 ≤ number.toNat) : s.param number = 0 := by
  unfold State.param
  split
  case h_12 => rfl
  all_goals omega

/-- A bay set as a parameter carries bay n in bit n. -/
theorem getLsbD_setWidth_baySetOf (p : BayNo → Bool) (b : BayNo) : ((baySetOf p).setWidth 32).getLsbD b.val = p b := by
  rw [BitVec.getLsbD_setWidth, getLsbD_baySetOf, decide_eq_true (b.isLt.trans (by decide)), Bool.true_and]

theorem toNat_setWidth_baySet_lt (set : BaySet) : (set.setWidth 32).toNat < 2 ^ 24 := by
  rw [BitVec.toNat_setWidth_of_le (by decide)]
  exact set.isLt

/-- Settles O9: the three replies, what SET_PARAM stores by its number, and the value of each parameter. -/
theorem parametersAndClock : Obligations.ParametersAndClock := by
  intro s number value hclear
  refine ⟨⟨_, State.next_serve_of_clear hclear _ (requestGetParam number), State.answer_repliedAs ..⟩,
    ⟨_, State.next_serve_of_clear hclear _ requestReadClock, State.answer_repliedAs ..⟩,
    ⟨_, s.setParameter number value, State.next_serve_of_clear hclear _ (requestSetParam number value),
      State.answer_repliedAs .., ?_, ?_, ?_, setParameter_other value⟩,
    rfl, rfl, rfl, rfl, State.param_stopFunction, rfl, BitVec.toNat_setWidth_of_le (by decide),
    BitVec.toNat_setWidth_of_le (by decide), BitVec.toNat_setWidth_of_le (by decide), getLsbD_setWidth_baySetOf _,
    toNat_setWidth_baySet_lt _, getLsbD_setWidth_baySetOf _, toNat_setWidth_baySet_lt _, State.param_unassigned⟩
  · rintro rfl
    exact setParameter_stopFunction value
  · rintro rfl
    exact setParameter_wakeTimeout value
  · rintro rfl
    exact setParameter_classMask value

end Sys2Proof.Machine
end

section
/-! PROOFS. How a request joins the request buffer (R160, R172, R174, R175). -/

namespace Sys2Proof.Machine

variable {s : State}

/-! ### What the port takes when an entry joins -/

/-- An entry IN_HAND keeps the port from taking any younger one. -/
theorem takeWaiting_append_of_inHand (flags : ReplyFlags) (rest : List Entry) : ∀ {es : List Entry}, bufferOrdered es →
    (∃ x ∈ es, ∃ discard, x.phase = .inHand discard) → takeWaiting flags (es ++ rest) = es ++ rest
  | [], _, hhand => by simp at hhand
  | e :: es, hordered, hhand => by
    cases hp : e.phase with
    | inHand discard => exact takeWaiting_inHand flags e (es ++ rest) discard hp
    | replying frame =>
      have later : ∃ x ∈ es, ∃ discard, x.phase = .inHand discard := by simpa [hp] using hhand
      simp only [List.cons_append, takeWaiting, hp,
        takeWaiting_append_of_inHand flags rest (bufferOrdered_tail hordered) later]
    | waiting =>
      have waits := (bufferOrdered_cons_unanswered (by simp [hp])).1 hordered
      obtain ⟨x, hx, discard, hd⟩ := hhand
      rcases List.mem_cons.1 hx with rfl | hx
      · simp [hp] at hd
      · simp [waits x hx] at hd

theorem takeWaiting_waiting (flags : ReplyFlags) {e : Entry} (he : e.phase = .waiting) :
    takeWaiting flags [e] = [{ e with phase := match decodeRequest e.code e.body with
      | .unknown => .replying (replyFrame e.code e.seq ⟨.unknownRequest, flags, []⟩)
      | .badLength => .replying (replyFrame e.code e.seq ⟨.badLength, flags, []⟩)
      | .request _ => .inHand false }] := by
  simp only [takeWaiting, he]
  cases decodeRequest e.code e.body <;> rfl

theorem State.takeRequests_of_startup (h : s.startup ≠ none) : s.takeRequests = s := by
  unfold State.takeRequests
  split
  · rfl
  · exact absurd ‹_› h

/-! ### The two ways into the buffer -/

/-- The entry that an intact frame makes (R174). -/
def requestEntry (f : RequestFrame) : Entry := { code := f.code, seq := f.seq, body := f.body, phase := .waiting }

theorem exec_requestFrameAccepted {f : RequestFrame} (hfits : s.port.fits f.bytes = true) (hf : f.wellFormed)
    (hintact : requestIntact f) :
    exec (.requestFrameAccepted f) s = .next (s.modPort (fun p => p.accept f)).takeRequests := by
  show execRequestFrameAccepted f s = _
  rw [execRequestFrameAccepted, if_pos (by simp [hfits, hf, hintact])]

theorem Port.fits_of_inFrame {p : Port} {got bytes : List Byte} (hreceiver : p.receiver = .inFrame got)
    (hattached : p.attached = true) (hroom : p.buffer.length < 4) (hgot : got <+: bytes) : p.fits bytes = true := by
  simp only [Port.fits, hreceiver, Bool.and_eq_true, List.isPrefixOf_iff_prefix]
  exact ⟨p.accepting_iff.2 ⟨hattached, hroom⟩, hgot⟩

/-- Past the start-up the buffer is what the port takes of it with the new entry at its end. -/
theorem State.accept_buffer_of_up (h : s.startup = none) (f : RequestFrame) :
    (s.modPort (fun p => p.accept f)).takeRequests.port.buffer =
      takeWaiting s.replyFlags (s.port.buffer ++ [requestEntry f]) := by
  rw [State.takeRequests_of_up (s := s.modPort fun p => p.accept f) h]
  rfl

theorem Port.receivesFrame_iff (p : Port) :
    p.receivesFrame = true ↔ p.attached = true ∧ p.buffer.length < 4 ∧ p.receiver = .hunting := by
  rw [Port.receivesFrame, Bool.and_eq_true, p.accepting_iff, beq_iff_eq, and_assoc]

theorem State.keepWaiting_of_received {c : Instr} {code : Byte} {body : List Byte}
    (hc : encodeRequest c = some (code, body)) (hport : s.port.receivesFrame = true) (hf : c.wellFormed = true) :
    s.keepWaiting c = { s with port := { s.port with buffer :=
      s.port.buffer ++ [{ code := code, seq := 0, body := body, phase := .waiting }] } } := by
  simp only [State.keepWaiting, hc, hport, hf, Bool.and_self, if_true]
  rfl

/-- A request of the start-up whose body is too long for a frame leaves no trace. -/
theorem State.keepWaiting_of_malformed {c : Instr} (hf : c.wellFormed = false) : s.keepWaiting c = s := by
  simp only [State.keepWaiting, hf, Bool.and_false]
  split <;> rfl

/-- Settles O5: what the port takes of its buffer with the new entry at the end, and the waiting of the start-up. -/
theorem anIntactRequestJoinsTheBuffer : Obligations.AnIntactRequestJoinsTheBuffer := by
  refine ⟨fun f s got hattached hroom hreceiver hgot hf hintact => ?_, fun c s code body hc hstart => ?_⟩
  · refine ⟨_, exec_requestFrameAccepted (Port.fits_of_inFrame hreceiver hattached hroom hgot) hf hintact, ?_,
      fun hup hreplied => ?_, fun hup hordered hhand => ?_, fun hstart => ?_⟩
    · rw [State.takeRequests_eq_modPort]
      rfl
    · rw [State.accept_buffer_of_up hup, takeWaiting_append _ _ _ hreplied, takeWaiting_waiting _ rfl]
      rfl
    · rw [State.accept_buffer_of_up hup, takeWaiting_append_of_inHand _ _ hordered hhand]
      rfl
    · rw [State.takeRequests_of_startup (s := s.modPort fun p => p.accept f) hstart]
      rfl
  · rw [exec_request s (by simp [hc]), s.serve_of_startup c _ hstart]
    refine ⟨fun hattached hroom hhunting hf => ?_, fun hkept => ?_⟩
    · rw [State.keepWaiting_of_received hc (s.port.receivesFrame_iff.2 ⟨hattached, hroom, hhunting⟩) hf]
    · by_cases hport : s.port.receivesFrame = true
      · obtain ⟨hattached, hroom, hhunting⟩ := s.port.receivesFrame_iff.1 hport
        have malformed : c.wellFormed = false := by
          simpa [hattached, hhunting, Nat.not_le.2 hroom] using hkept
        rw [State.keepWaiting_of_malformed malformed]
      · rw [s.keepWaiting_of_notReceiving c (Bool.eq_false_iff.2 hport)]

end Sys2Proof.Machine
end

section
/-! SUPPORT. Something done at every bay in rising number, as one bay meets it (R148, R152). -/

namespace Sys2Proof.Machine

/-- What is done at the other bays comes before and after what is done at bay b. -/
theorem allBays_around (b : BayNo) : ∃ lower higher, allBays = lower ++ b :: higher ∧ b ∉ lower ∧ b ∉ higher := by
  obtain ⟨lower, higher, hsplit⟩ := List.append_of_mem (mem_allBays b)
  have hnodup := allBays_nodup
  rw [hsplit, List.nodup_append] at hnodup
  obtain ⟨-, hcons, hapart⟩ := hnodup
  exact ⟨lower, higher, hsplit, fun hb => hapart b hb b (by simp) rfl, (List.nodup_cons.1 hcons).1⟩

theorem State.foldl_related {f : State → BayNo → State} {R : State → State → Prop} (hrefl : ∀ t, R t t)
    (htrans : ∀ t u v, R t u → R u v → R t v) {b : BayNo} (hf : ∀ (t : State) (c : BayNo), c ≠ b → R t (f t c)) :
    ∀ (l : List BayNo), b ∉ l → ∀ s : State, R s (l.foldl f s)
  | [], _, s => hrefl s
  | c :: l, hb, s => by
    obtain ⟨hc, hl⟩ : b ≠ c ∧ b ∉ l := by simpa using hb
    exact htrans _ _ _ (hf s c (Ne.symm hc)) (foldl_related hrefl htrans hf l hl (f s c))

/-- When every other bay's turn keeps a relation, the state before bay b's turn has it to the first and the last state
to the one after the turn. -/
theorem State.eachBay_around {f : State → BayNo → State} {R : State → State → Prop} (hrefl : ∀ t, R t t)
    (htrans : ∀ t u v, R t u → R u v → R t v) (b : BayNo) (hf : ∀ (t : State) (c : BayNo), c ≠ b → R t (f t c))
    (s : State) : ∃ u, R s u ∧ R (f u b) (s.eachBay f) := by
  obtain ⟨lower, higher, hsplit, hlower, hhigher⟩ := allBays_around b
  refine ⟨lower.foldl f s, foldl_related hrefl htrans hf lower hlower s, ?_⟩
  rw [State.eachBay, hsplit, List.foldl_append, List.foldl_cons]
  exact foldl_related hrefl htrans hf higher hhigher _

end Sys2Proof.Machine
end

section
/-! PROOFS. HOLD, RESUME and the stop line in the HOLD function (R29, R147 to R150). -/

namespace Sys2Proof.Machine

variable {s t : State} {b : BayNo}

/-! ### The frames that begin with RUN (R29, R148) -/

theorem State.beginFrame_eq_bays (s : State) (b : BayNo) :
    s.beginFrame b = { s with bays := (s.beginFrame b).bays } := by
  unfold State.beginFrame
  dsimp only
  split
  · split
    · rfl
    · split <;> rfl
  · rfl

theorem State.beginFrame_bay_of_tunnelWaiting {block : List Byte} (hrun : s.run = .run)
    (hidle : (s.bay b).link.transmitter = .idle) (hwaiting : (s.bay b).tunnelWaiting)
    (hblock : (s.bay b).link.tunnelOut = some block) :
    (s.beginFrame b).bay b = { s.bay b with link :=
      { (s.bay b).link with transmitter := .sendingTunnel, frameOut := tunnelFrame block } } := by
  unfold State.beginFrame
  dsimp only
  rw [if_pos ⟨hrun, hidle⟩, if_pos hwaiting, State.bay_modBay, if_pos rfl, Bay.modLink, hblock]
  rfl

theorem State.beginFrame_bay_of_pendingAsk {ask : Ask} (hrun : s.run = .run) (hidle : (s.bay b).link.transmitter = .idle)
    (hwaiting : (s.bay b).tunnelWaiting = false) (hask : (s.bay b).link.pendingAsk = some ask) :
    (s.beginFrame b).bay b = { s.bay b with link :=
      { (s.bay b).link with transmitter := .sendingAsk, frameOut := askFrame ask, pendingAsk := none } } := by
  unfold State.beginFrame
  dsimp only
  rw [if_pos ⟨hrun, hidle⟩, if_neg (by simp [hwaiting]), hask]
  exact (State.bay_modBay ..).trans (if_pos rfl)

theorem State.beginFrame_of_noSender (hwaiting : (s.bay b).tunnelWaiting = false)
    (hask : (s.bay b).link.pendingAsk = none) : s.beginFrame b = s := by
  unfold State.beginFrame
  dsimp only
  rw [if_neg (c := (s.bay b).tunnelWaiting = true) (by simp [hwaiting]), hask]
  exact ite_self s

theorem State.beginFrame_of_busy (hbusy : (s.bay b).link.transmitter ≠ .idle) : s.beginFrame b = s := by
  unfold State.beginFrame
  exact if_neg fun h => hbusy h.2

/-- RESUME changes the run state and the bays alone. -/
theorem State.resumeRun_eq (s : State) : s.resumeRun = { s with run := .run, bays := s.resumeRun.bays } := by
  have kept : ∀ (l : List BayNo) (t : State), l.foldl State.beginFrame t = { t with
      bays := (l.foldl State.beginFrame t).bays } := fun l => by
    induction l with
    | nil => exact fun _ => rfl
    | cons c l ih =>
      intro t
      rw [List.foldl_cons, ih, State.beginFrame_eq_bays]
  exact kept allBays { s with run := .run }

/-- A bay meets RESUME as it stands, in RUN. -/
theorem State.resumeRun_bay (s : State) (b : BayNo) :
    ∃ u : State, u.run = .run ∧ u.bay b = s.bay b ∧ s.resumeRun.bay b = (u.beginFrame b).bay b := by
  obtain ⟨u, ⟨hrun, hbefore⟩, -, hafter⟩ := State.eachBay_around (f := State.beginFrame)
    (R := fun t u => u.run = t.run ∧ u.bay b = t.bay b) (fun _ => ⟨rfl, rfl⟩)
    (fun _ _ _ ⟨hrun, hbay⟩ ⟨hrun', hbay'⟩ => ⟨hrun'.trans hrun, hbay'.trans hbay⟩) b
    (fun t c hc => ⟨t.beginFrame_run c, t.beginFrame_bay_ne hc⟩) { s with run := .run }
  exact ⟨u, hrun, hbefore, hafter⟩

/-! ### The notice of the stop line (R149, R162) -/

theorem State.raise_stopLine_eq (s : State) : s.raise .stopLine = { s with
    notices := if s.classMask.getLsbD 0 then { s.notices with stopLine := true } else s.notices } := by
  unfold State.raise State.classEnabled
  show (if s.classMask.getLsbD 0 = true then _ else _) = _
  split <;> rfl

theorem eventStopLineChange_of_change {asserted : Bool} (h : s.stopLine ≠ asserted) :
    eventStopLineChange asserted s = if asserted then ({ s with stopLine := asserted }.raise .stopLine).actOnStop
      else { s with stopLine := asserted }.raise .stopLine := by
  unfold eventStopLineChange
  rw [if_neg h]

theorem State.actOnStop_of_hold (h : s.stopFunction = .hold) : s.actOnStop = { s with run := .held } := by
  unfold State.actOnStop
  rw [h]

theorem exec_stopLineChange (h : s.requestInHand = none) (asserted : Bool) :
    exec (.stopLineChange asserted) s = .next (eventStopLineChange asserted s) :=
  State.next_before_of_none h _ (eventStopLineChange asserted)

/-! ### The requests (R147, R148) -/

theorem requestResume_of_stop (h : s.stopLine = true) : requestResume s = s.answer .resume .stopAsserted [] := if_pos h

theorem requestResume_of_run (h : s.stopLine = false) (hrun : s.run = .run) :
    requestResume s = s.answer .resume .ok [] := by
  rw [requestResume, h, if_neg Bool.false_ne_true, if_pos hrun]

theorem requestResume_of_held (h : s.stopLine = false) (hrun : s.run = .held) :
    requestResume s = s.resumeRun.answer .resume .ok [] := by
  rw [requestResume, h, if_neg Bool.false_ne_true, if_neg (by simp [hrun])]

/-- Settles O14: HOLD and RESUME on the state as it stands, each bay's own turn at RESUME, and the stop line. -/
theorem runStateAndStopLine : Obligations.RunStateAndStopLine := by
  intro s hnone
  have clear (hup : s.startup = none) : s.portClear := State.portClear_of hup hnone
  refine ⟨fun hup => ⟨_, State.next_serve_of_clear (clear hup) _ requestHold, State.answer_repliedAs ..⟩,
    fun hup hstop => ⟨_, State.next_serve_of_clear (clear hup) _ requestResume, ?_⟩,
    fun hup hstop hrun => ⟨_, State.next_serve_of_clear (clear hup) _ requestResume, ?_⟩,
    fun hup hstop hrun => ⟨_, State.next_serve_of_clear (clear hup) _ requestResume, ?_, fun b => ?_⟩,
    fun hstop hfunction => ?_, fun hstop => ?_⟩
  · rw [requestResume_of_stop hstop]
    exact State.answer_repliedAs ..
  · rw [requestResume_of_run hstop hrun]
    exact State.answer_repliedAs ..
  · rw [requestResume_of_held hstop hrun, State.answer_bays, ← State.resumeRun_eq]
    exact State.answer_repliedAs ..
  · obtain ⟨u, hrunning, hbefore, hafter⟩ := s.resumeRun_bay b
    rw [requestResume_of_held hstop hrun, State.answer_bay, hafter, ← hbefore]
    refine ⟨fun hbusy => ?_, fun block hidle hwaiting hblock => ?_, fun ask hidle hwaiting hask => ?_,
      fun hidle hwaiting hask => ?_⟩
    · rw [State.beginFrame_of_busy hbusy]
    · exact State.beginFrame_bay_of_tunnelWaiting hrunning hidle hwaiting hblock
    · exact State.beginFrame_bay_of_pendingAsk hrunning hidle hwaiting hask
    · rw [State.beginFrame_of_noSender hwaiting hask]
  · rw [exec_stopLineChange hnone, eventStopLineChange_of_change (by simp [hstop]), if_pos rfl,
      State.actOnStop_of_hold (by rw [State.raise_stopFunction, hfunction]), State.raise_stopLine_eq]
  · rw [exec_stopLineChange hnone, eventStopLineChange_of_change (by simp [hstop]), if_neg Bool.false_ne_true,
      State.raise_stopLine_eq]

end Sys2Proof.Machine
end

section
/-! PROOFS. The station reset (R158, R159). -/

namespace Sys2Proof.Machine

variable {s : State} {b : BayNo}

/-! ### What the abort leaves of a bay and of the station (R151, R152) -/

theorem State.abortBay_bay_ne {c : BayNo} (h : c ≠ b) : (s.abortBay b).bay c = s.bay c :=
  (s.abortBay_acts b).only.bays c h

theorem State.abortBay_of_faulted (h : (s.bay b).state = .faulted) : s.abortBay b = s := if_pos h

/-- A bay meets the abort as it stands. -/
theorem State.abort_bay (s : State) (b : BayNo) :
    ∃ u : State, u.bay b = s.bay b ∧ s.abort.bay b = (u.abortBay b).bay b := by
  obtain ⟨u, hbefore, hafter⟩ := State.eachBay_around (f := State.abortBay) (R := fun t u => u.bay b = t.bay b)
    (fun _ => rfl) (fun _ _ _ h h' => h'.trans h) b (fun _ _ hc => State.abortBay_bay_ne hc.symm)
    ({ s with run := .held } : State).flagAborted
  exact ⟨u, hbefore, hafter⟩

theorem State.abort_bay_of_faulted (h : (s.bay b).state = .faulted) : s.abort.bay b = s.bay b := by
  obtain ⟨u, hbefore, hafter⟩ := s.abort_bay b
  rw [hafter, State.abortBay_of_faulted (by rw [hbefore, h]), hbefore]

theorem State.abort_bay_state (s : State) (b : BayNo) : (s.abort.bay b).state =
    if (s.bay b).state = .faulted then .faulted else if (s.bay b).present then .unpowered else .vacant := by
  split
  · rename_i h
    rw [State.abort_bay_of_faulted h, h]
  · rename_i h
    obtain ⟨u, hbefore, hafter⟩ := s.abort_bay b
    rw [← hbefore] at h
    obtain ⟨r, w, e⟩ := State.abortBay_bay h
    rw [hafter, e, hbefore]

theorem State.abort_bay_debounce (s : State) (b : BayNo) : (s.abort.bay b).debounce = (s.bay b).debounce := by
  by_cases h : (s.bay b).state = .faulted
  · rw [State.abort_bay_of_faulted h]
  · obtain ⟨u, hbefore, hafter⟩ := s.abort_bay b
    rw [← hbefore] at h
    obtain ⟨r, w, e⟩ := State.abortBay_bay h
    rw [hafter, e, hbefore]

theorem State.abort_run (s : State) : s.abort.run = .held :=
  (State.KeepsBut.foldl (fun _ b => State.abortBay_keepsBut b) allBays
    (State.KeepsBut.refl (touched := [.records]) (s := ({ s with run := .held } : State).flagAborted))).items .run
      (by simp)

/-! ### The state after the reset -/

theorem State.stationReset_eq (s : State) : s.stationReset = { State.reset with
    stopLine := s.stopLine, clock := s.clock, startup := s.startup, calLock := s.calLock, pending := s.pending,
    railReads := s.railReads, port := s.port, bays := s.stationReset.bays, lastReply := s.lastReply } := by
  have kept := State.abort_keepsBut (s := s)
  have stopLine : s.abort.stopLine = s.stopLine := kept.items .stopLine (by simp)
  have clock : s.abort.clock = s.clock := kept.items .clock (by simp)
  have startup : s.abort.startup = s.startup := kept.items .startup (by simp)
  have lock : s.abort.calLock = s.calLock := kept.items .lock (by simp)
  have port : s.abort.port = s.port := kept.items .port (by simp)
  have reply : s.abort.lastReply = s.lastReply := kept.items .reply (by simp)
  rw [← stopLine, ← clock, ← startup, ← lock, ← kept.pending, ← kept.railReads, ← port, ← reply]
  unfold State.stationReset State.reset
  simp only [s.abort_run]

theorem State.stationReset_bay_eq (s : State) (b : BayNo) : s.stationReset.bay b = { Bay.reset b with
    state := if (s.bay b).state = .faulted then .faulted else if (s.bay b).present then .unpowered else .vacant
    contact := (s.bay b).contact, present := (s.bay b).present, debounce := (s.bay b).debounce
    cal := (s.bay b).cal } := by
  have kept := State.abort_keepsBut (s := s)
  have contact : (s.abort.bay b).contact = (s.bay b).contact := kept.items .contacts (by simp) b
  have present : (s.abort.bay b).present = (s.bay b).present := kept.items .presences (by simp) b
  have pair : (s.abort.bay b).cal = (s.bay b).cal := kept.items .pairs (by simp) b
  rw [State.stationReset_bay, Bay.stationReset, s.abort_bay_state, contact, present, s.abort_bay_debounce, pair]

/-- Settles O16: the reset state of the station and of each bay, with the reply composed on it. -/
theorem stationResetSetsAndKeeps : Obligations.StationResetSetsAndKeeps := by
  intro s hclear
  have kept : s.stationReset.port = s.port := State.stationReset_keepsBut.items .port (by simp)
  have port := s.stationReset.answer_port .stationReset .ok []
  rw [kept] at port
  refine ⟨_, State.next_serve_of_clear hclear _ requestStationReset, State.answer_repliesWith .., ?_, ?_, ?_,
    fun b => ?_⟩
  · rw [requestStationReset, State.answer_bays, State.answer_lastReply]
    exact (State.answer_eq ..).trans (congrArg (fun u : State => { u with
      port := (s.stationReset.answer .stationReset .ok []).port
      lastReply := some ⟨.ok, s.stationReset.replyFlags, []⟩ }) s.stationReset_eq)
  · rw [requestStationReset, port]
  · rw [requestStationReset, port]
  · rw [requestStationReset, State.answer_bay]
    exact s.stationReset_bay_eq b

end Sys2Proof.Machine
end

section
/-! SUPPORT. The abort actions at one bay: what they make of its slots, records and conversion, and what they spare of
another bay (R151, R152). -/

namespace Sys2Proof.Machine

variable {s t u : State} {b : BayNo}

/-! ### The bay whose turn it is -/

/-- The bay's supply, link and wake timer off, before its ask is lost (R152, steps 1 to 3). -/
def Bay.abortedOff (x : Bay) : Bay := x.abandonCycle.switchOff.stopWake

theorem Bay.abortedOff_kept (x : Bay) : x.abortedOff.state = x.state ∧ x.abortedOff.queue = x.queue ∧
    x.abortedOff.window = x.window ∧ x.abortedOff.ring = x.ring := by
  simp [Bay.abortedOff, Bay.abandonCycle_eq, Bay.switchOff, Bay.stopWake]

/-- The bay's slots ended by the abort (R152, steps 4 and 5). -/
def State.abortEnded (s : State) (b : BayNo) : State := ((s.modBay b Bay.abortedOff).loseAsk b).dropQueue b .cancelled

theorem State.abortBay_eq (hs : (s.bay b).state ≠ .faulted) : s.abortBay b = (s.abortEnded b).modBay b (fun x =>
    (x.modLink (fun l => { l with tunnelOut := none })).outOfService) := if_neg hs

theorem State.abortBay_slot (hs : (s.bay b).state ≠ .faulted) (i : GatherNo) :
    ((s.abortBay b).gather i).slot b = ((s.abortEnded b).gather i).slot b := by
  rw [State.abortBay_eq hs]
  rfl

theorem State.abortBay_endsSlots (s : State) (b : BayNo) : s.EndsSlots b (s.abortBay b) := by
  by_cases hs : (s.bay b).state = .faulted
  · rw [State.abortBay_of_faulted hs]
    exact .refl b s
  · obtain ⟨-, -, -, hring⟩ := (s.bay b).abortedOff_kept
    rw [State.abortBay_eq hs]
    exact (((State.EndsSlots.modBay s b Bay.abortedOff (by simp [hring])).trans (State.loseAsk_ends _ b)).trans
      (State.dropQueue_ends _ b rfl)).thenBay fun _ => rfl

/-- At a bay that is not ASKING and has no queue no slot is left that could end. -/
theorem State.tableAgrees.not_endable (h : s.tableAgrees) (hask : (s.bay b).state ≠ .asking)
    (hqueue : (s.bay b).queue = []) (i : GatherNo) : ((s.gather i).slot b).endable = false := by
  rw [Bool.eq_false_iff]
  intro ho
  rcases (Slot.endable_iff _).1 ho with hq | hs
  · have := ((h.bay b).queued i).2 hq
    simp [hqueue] at this
  · exact hask ((h.bay b).asking.2 ⟨i, hs⟩)

theorem State.slotsMeet_of_not_endable (h : ∀ i, ((s.gather i).slot b).endable = false) (f : Fate) :
    s.slotsMeet s b f := fun i => by
  have hi := Bool.eq_false_iff.1 (h i)
  rw [Ne, Slot.endable_iff, not_or] at hi
  cases hstage : ((s.gather i).slot b).stage with
  | queued => exact absurd hstage hi.1
  | sent => exact absurd hstage hi.2
  | outside | final => rfl

theorem State.tableAgrees.queue_nil_of_faulted (h : s.tableAgrees) (hs : (s.bay b).state = .faulted) :
    (s.bay b).queue = [] := (h.bay b).queue_nil (by rw [hs]; rfl)

theorem State.abortBay_slotsMeet (h : s.tableAgrees) (b : BayNo) :
    s.slotsMeet (s.abortBay b) b { sent := some .lost, queued := some .cancelled } := by
  by_cases hs : (s.bay b).state = .faulted
  · rw [State.abortBay_of_faulted hs]
    exact State.slotsMeet_of_not_endable (h.not_endable (by simp [hs]) (h.queue_nil_of_faulted hs)) _
  · obtain ⟨hstate, hqueue, hwindow, -⟩ := (s.bay b).abortedOff_kept
    have before := (h.exchangeAt b).modBay Bay.abortedOff hstate hqueue hwindow
    exact (State.slotsMeet_modBay hwindow
      (State.loseAsk_dropQueue_slotsMeet rfl before.ask before.queue)).right (State.abortBay_slot hs)

theorem State.abortBay_recordsAre (h : s.tableAgrees) (hs : (s.bay b).state ≠ .faulted) :
    s.recordsAre (s.abortBay b) b (s.askRecord (s.abortBay b) b) := by
  obtain ⟨hstate, hqueue, hwindow, hring⟩ := (s.bay b).abortedOff_kept
  have before := (h.exchangeAt b).modBay Bay.abortedOff hstate hqueue hwindow
  rw [State.askRecord_congr_right (State.abortBay_slot hs), ← State.askRecord_modBay hstate]
  refine ((State.loseAsk_dropQueue_recordsAre rfl before.ask before.queue).left hring).right ?_ ?_ ?_ <;>
    rw [State.abortBay_eq hs]
  · rfl
  · simp [State.abortEnded, Bay.outOfService]
  · rfl

/-! ### The conversion in progress (R114, R117) -/

/-- The conversion in progress runs on; its tie may have ended. -/
def Converter.RunsOn (before after : Converter) : Prop :=
  match before with
  | .idle => after = .idle
  | .converting granted ends _ => ∃ tied, after = .converting granted ends tied

theorem Converter.RunsOn.refl (c : Converter) : c.RunsOn c := by
  cases c with
  | idle => rfl
  | converting granted ends tied => exact ⟨tied, rfl⟩

theorem Converter.RunsOn.trans {c d e : Converter} (h : c.RunsOn d) (h' : d.RunsOn e) : c.RunsOn e := by
  cases c with
  | idle =>
    obtain rfl : d = .idle := h
    exact h'
  | converting granted ends tied =>
    obtain ⟨_, rfl⟩ := h
    exact h'

theorem Converter.tieEnded.runsOn {before after : Converter} (h : after.tieEnded before b) : before.RunsOn after := by
  cases before with
  | idle => exact h
  | converting granted ends tied => exact ⟨_, h⟩

theorem State.abortBay_runsOn (h : s.tableAgrees) (b : BayNo) : s.converter.RunsOn (s.abortBay b).converter := by
  by_cases hs : (s.bay b).state = .faulted
  · rw [State.abortBay_of_faulted hs]
    exact .refl _
  · obtain ⟨hstate, hqueue, hwindow, -⟩ := (s.bay b).abortedOff_kept
    obtain ⟨-, htie, -⟩ := ((h.exchangeAt b).modBay Bay.abortedOff hstate hqueue hwindow).loseAsk
    have hconv : (s.abortBay b).converter = ((s.modBay b Bay.abortedOff).loseAsk b).converter := by
      rw [State.abortBay_eq hs, State.modBay_converter, State.abortEnded, State.dropQueue_converter]
    rw [hconv]
    exact Converter.tieEnded.runsOn htie

/-! ### The ABORTED flag (R81) -/

theorem State.completeEvaluated_aborted (b : BayNo) (i j : GatherNo) (e : Ending) (a : Option Answer) :
    ((s.completeEvaluated b i e a).gather j).aborted = (s.gather j).aborted := by
  unfold State.completeEvaluated
  split
  · rw [State.finishEvaluated_gather]
    split
    · rename_i hij
      subst hij
      unfold Gather.closedAt
      split <;> rfl
    · rfl
  · rfl

theorem State.completeUnevaluated_aborted (b : BayNo) (i j : GatherNo) (e : Ending) :
    ((s.completeUnevaluated b i e).gather j).aborted = (s.gather j).aborted := by
  by_cases hij : i = j
  · subst hij
    exact (State.completeUnevaluated_flags b e).2
  · unfold State.completeUnevaluated
    split
    · rw [State.finishUnevaluated_gather, if_neg hij]
    · rfl

theorem State.loseAsk_aborted (b : BayNo) (j : GatherNo) : ((s.loseAsk b).gather j).aborted = (s.gather j).aborted := by
  unfold State.loseAsk
  split
  · dsimp only
    split
    · rfl
    · exact State.completeEvaluated_aborted ..
  · rfl

theorem State.dropQueue_aborted (b : BayNo) (e : Ending) (j : GatherNo) :
    ((s.dropQueue b e).gather j).aborted = (s.gather j).aborted :=
  foldl_keeps (fun t : State => (t.gather j).aborted) _ (fun _ _ => State.completeUnevaluated_aborted ..) _ _

theorem State.abortBay_aborted (b : BayNo) (j : GatherNo) :
    ((s.abortBay b).gather j).aborted = (s.gather j).aborted := by
  unfold State.abortBay
  split
  · rfl
  · exact (State.dropQueue_aborted b .cancelled j).trans (State.loseAsk_aborted b j)

/-! ### Any other bay -/

/-- From s to t bay b was spared: its record, its slots, what they are judged by, its RING_FULL place and the bytes of its
ring's window are as they were, and the tables still agree. -/
structure State.Spares (b : BayNo) (s t : State) : Prop where
  bay : t.bay b = s.bay b
  slots : ∀ i, (t.gather i).slot b = (s.gather i).slot b
  full : t.notices.ringFull.get b = s.notices.ringFull.get b
  same : s.SameTerms t
  agrees : s.tableAgrees → t.tableAgrees
  store : s.KeepsStore t
  bytes : s.ringsConsistent → ∀ address, s.inWindow b address → readCell t.cells address = readCell s.cells address

theorem State.inWindow_congr (h : (t.bay b).ring = (s.bay b).ring) : t.inWindow b = s.inWindow b := by
  funext address
  rw [State.inWindow, State.inWindow, h]

namespace State.Spares

theorem refl (b : BayNo) (s : State) : s.Spares b s :=
  ⟨rfl, fun _ => rfl, rfl, .refl s, id, .refl, fun _ _ _ => rfl⟩

theorem trans (h : s.Spares b t) (h' : t.Spares b u) : s.Spares b u where
  bay := h'.bay.trans h.bay
  slots i := (h'.slots i).trans (h.slots i)
  full := h'.full.trans h.full
  same := h.same.trans h'.same
  agrees := h'.agrees ∘ h.agrees
  store := h.store.trans h'.store
  bytes hrings address ha := by
    have ha' : t.inWindow b address := by rwa [State.inWindow_congr (congrArg Bay.ring h.bay)]
    exact (h'.bytes (h.store.rings hrings) address ha').trans (h.bytes hrings address ha)

theorem abortBay {c : BayNo} (s : State) (hc : c ≠ b) : s.Spares b (s.abortBay c) := by
  have ends := s.abortBay_endsSlots c
  refine ⟨ends.only.bays b hc.symm, ends.only.slots b hc.symm, (ends.only.notices b hc.symm).ringFull, ends.same,
    fun h => State.abortBay_agrees h c, State.abortBay_keepsStore c, fun hrings => ?_⟩
  obtain ⟨-, -, hbytes, -⟩ := ends.only.columnKept hc.symm hrings
  exact hbytes

end State.Spares

end Sys2Proof.Machine
end

section
/-! PROOFS. A stop-line assertion in the ABORT function (R64, R73, R81, R149, R151, R152). -/

namespace Sys2Proof.Machine

variable {s t u : State} {b : BayNo}

/-! ### Records handed over for a bay, as its own ring and bytes tell them -/

theorem State.handOver_ring_congr : ∀ (l : List (RecordKind × List Byte)) {s u : State},
    (u.bay b).ring = (s.bay b).ring → u.notices.ringFull.get b = s.notices.ringFull.get b →
    ((u.handOver b l).bay b).ring = ((s.handOver b l).bay b).ring ∧
      (u.handOver b l).notices.ringFull.get b = (s.handOver b l).notices.ringFull.get b
  | [], _, _, hring, hfull => ⟨hring, hfull⟩
  | (kind, own) :: l, s, u, hring, hfull => by
    refine State.handOver_ring_congr l (s := s.writeRecord b kind own) (u := u.writeRecord b kind own) ?_ ?_
    · simpa using congrArg Ring.afterWrite hring
    · rw [State.writeRecord_notices, State.writeRecord_notices, hring]
      split
      · simp [State.ringFullRises, vector_get_set, hfull]
      · exact hfull

theorem State.writeRecord_wf (kind : RecordKind) (own : List Byte) (h : Memory.wf s.cells) :
    Memory.wf (s.writeRecord b kind own).cells := by
  rw [State.writeRecord_cells]
  split
  · exact writeCells_wf _ _ _ h
  · exact h

theorem State.handOver_byte_congr {address : Nat} : ∀ (l : List (RecordKind × List Byte)) {s u : State},
    (u.bay b).ring = (s.bay b).ring → u.clock = s.clock → Memory.wf s.cells → Memory.wf u.cells →
    readCell u.cells address = readCell s.cells address →
    readCell (u.handOver b l).cells address = readCell (s.handOver b l).cells address
  | [], _, _, _, _, _, _, h => h
  | (kind, own) :: l, s, u, hring, hclock, hs, hu, h => by
    refine State.handOver_byte_congr l (s := s.writeRecord b kind own) (u := u.writeRecord b kind own) ?_ (by simpa)
      (State.writeRecord_wf kind own hs) (State.writeRecord_wf kind own hu) ?_
    · simpa using congrArg Ring.afterWrite hring
    · rw [State.writeRecord_cells, State.writeRecord_cells, hring, hclock]
      split
      · rw [readCell_writeCells _ _ _ _ hu, readCell_writeCells _ _ _ _ hs, h]
      · exact h

/-! ### A bay that was spared before and after its turn -/

theorem State.Spares.slotsMeet {f : Fate} (h : s.Spares b u) (hu : u.slotsMeet t b f) : s.slotsMeet t b f := by
  have hafter : ∀ i e, u.slotAfter b i e = s.slotAfter b i e := fun i e => by
    cases e with
    | none => exact h.slots i
    | some e => exact State.slotEnded_congr h.same (h.slots i) (fun _ => congrArg Bay.window h.bay) e
  intro i
  rw [hu i]
  simp only [hafter, h.slots]

theorem State.Spares.askRecord (h : s.Spares b u) (t : State) : u.askRecord t b = s.askRecord t b := by
  simp only [State.askRecord, State.sentGather, h.bay, h.slots, State.outcomeRecord_congr h.same]

/-- The records of the bay's turn, as the state before and the state after everything tell them. -/
theorem State.Spares.records {v : State} {l : List (RecordKind × List Byte)} (h : s.Spares b u)
    (hu : u.recordsAre v b l) (h' : v.Spares b t) :
    (t.bay b).ring = ((s.handOver b l).bay b).ring ∧
      t.notices.ringFull.get b = (s.handOver b l).notices.ringFull.get b ∧
      (s.ringsConsistent → Memory.wf s.cells → u.KeepsStore v → ∀ address, s.inWindow b address →
        readCell t.cells address = readCell (s.handOver b l).cells address) := by
  obtain ⟨hcells, hring, hfull⟩ := hu
  have before : (u.bay b).ring = (s.bay b).ring := congrArg Bay.ring h.bay
  obtain ⟨ring, full⟩ := State.handOver_ring_congr l before h.full
  refine ⟨(congrArg Bay.ring h'.bay).trans (hring.trans ring), h'.full.trans (hfull.trans full),
    fun hrings hwf hstore address ha => ?_⟩
  have window : v.inWindow b address := by
    obtain ⟨⟨hbase, hlength, -⟩, -⟩ := State.recordsAre.ring ⟨hcells, hring, hfull⟩
    rw [State.inWindow_iff] at ha ⊢
    rwa [hbase, hlength, before]
  rw [h'.bytes (hstore.rings (h.store.rings hrings)) address window, hcells]
  exact State.handOver_byte_congr l before h.same.clock hwf (h.store.cells hwf) (h.bytes hrings address ha)

/-! ### The abort as each bay meets it -/

/-- From s to t bay b had its turn in the abort, and before and after it was spared. -/
def State.AbortsAt (s t : State) (b : BayNo) : Prop := ∃ u : State, s.Spares b u ∧ (u.abortBay b).Spares b t

theorem State.abort_abortsAt (s : State) (b : BayNo) : s.AbortsAt s.abort b := by
  have begun : s.Spares b ({ s with run := .held } : State).flagAborted :=
    ⟨rfl, fun i => by rw [State.flagAborted_gather]; rfl, rfl,
      ⟨rfl, fun i => by rw [State.flagAborted_gather]; exact Gather.termsKept_refl _,
        fun _ => Profile.definitionKept_refl _⟩,
      fun h => State.flagAborted_agrees (State.run_agrees h .held), .elsewhere .refl rfl rfl rfl, fun _ _ _ => rfl⟩
  obtain ⟨u, hbefore, hafter⟩ := State.eachBay_around (fun t => State.Spares.refl b t) (fun _ _ _ => State.Spares.trans) b
    (fun t _ hc => State.Spares.abortBay t hc) ({ s with run := .held } : State).flagAborted
  exact ⟨u, begun.trans hbefore, hafter⟩

theorem State.AbortsAt.left (h : u.AbortsAt t b) (hspared : s.Spares b u) : s.AbortsAt t b := by
  obtain ⟨v, hbefore, hafter⟩ := h
  exact ⟨v, hspared.trans hbefore, hafter⟩

theorem State.AbortsAt.slotsMeet (h : s.AbortsAt t b) (hs : s.tableAgrees) :
    s.slotsMeet t b { sent := some .lost, queued := some .cancelled } := by
  obtain ⟨u, hbefore, hafter⟩ := h
  exact hbefore.slotsMeet ((State.abortBay_slotsMeet (hbefore.agrees hs) b).right hafter.slots)

theorem State.AbortsAt.records (h : s.AbortsAt t b) (hs : s.tableAgrees) (hworking : (s.bay b).state ≠ .faulted) :
    (t.bay b).ring = ((s.handOver b (s.askRecord t b)).bay b).ring ∧
      t.notices.ringFull.get b = (s.handOver b (s.askRecord t b)).notices.ringFull.get b ∧
      (s.ringsConsistent → Memory.wf s.cells → ∀ address, s.inWindow b address →
        readCell t.cells address = readCell (s.handOver b (s.askRecord t b)).cells address) := by
  obtain ⟨u, hbefore, hafter⟩ := h
  have records := State.abortBay_recordsAre (hbefore.agrees hs) (by rwa [hbefore.bay])
  rw [← State.askRecord_congr_right hafter.slots, hbefore.askRecord] at records
  obtain ⟨ring, full, bytes⟩ := hbefore.records records hafter
  exact ⟨ring, full, fun hrings hwf => bytes hrings hwf (State.abortBay_keepsStore b)⟩

/-- The record of a bay that is not FAULTED after the abort (R152). -/
theorem State.abort_bay_of_working (hs : (s.bay b).state ≠ .faulted) :
    ∃ outstanding timer r w, s.abort.bay b = { s.bay b with
    state := if (s.bay b).present then .unpowered else .vacant
    queue := []
    supply := { (s.bay b).supply with
      mode := .off, comparator := .idle, detector := .idle
      cycleTimer := if (s.bay b).state = .cycling then none else (s.bay b).supply.cycleTimer
      saved := if (s.bay b).state = .cycling then .full else (s.bay b).supply.saved }
    link := { (s.bay b).link.disable with
      wakeTimer := none, tunnelOut := none, answerTimer := timer, outstanding := outstanding }
    window := w
    ring := r } := by
  obtain ⟨u, hbefore, hafter⟩ := s.abort_bay b
  obtain ⟨r, w, e⟩ := State.abortBay_bay (by rwa [hbefore])
  rw [hbefore] at e
  exact ⟨_, _, r, w, hafter.trans e⟩

/-! ### The conversion, and what the abort leaves no bay -/

theorem State.abort_runsOn (h : s.tableAgrees) : s.converter.RunsOn s.abort.converter := by
  have each : ∀ (l : List BayNo) (t : State), t.tableAgrees →
      t.converter.RunsOn (l.foldl State.abortBay t).converter := by
    intro l
    induction l with
    | nil => exact fun t _ => .refl _
    | cons c l ih => exact fun t ht => (State.abortBay_runsOn ht c).trans (ih _ (State.abortBay_agrees ht c))
  rw [State.abort, State.eachBay]
  exact each allBays ({ s with run := .held } : State).flagAborted (State.flagAborted_agrees (State.run_agrees h .held))

theorem State.abort_not_asking (s : State) (b : BayNo) : (s.abort.bay b).state ≠ .asking := by
  rw [State.abort_bay_state]
  repeat' split
  all_goals simp

theorem State.abort_available (s : State) (b : BayNo) : (s.abort.bay b).state.available = false := by
  rw [State.abort_bay_state]
  repeat' split
  all_goals rfl

/-- No window is open after the abort, so no conversion is tied to one. -/
theorem State.abort_converting (h : s.tableAgrees) {granted : BayNo} {ends : Time} {tied : Bool}
    (hc : s.converter = .converting granted ends tied) : s.abort.converter = .converting granted ends false := by
  have runs := State.abort_runsOn h
  rw [hc] at runs
  obtain ⟨still, hafter⟩ := runs
  cases still with
  | false => exact hafter
  | true =>
    have agreed := State.abort_agrees h
    have opened := (agreed.column granted).tie (by rw [hafter]; rfl)
    exact absurd ((agreed.bay granted).window opened).1 (s.abort_not_asking granted)

theorem State.abort_hasOpenSlot (h : s.tableAgrees) (i : GatherNo) : (s.abort.gather i).hasOpenSlot = false := by
  have agreed := State.abort_agrees h
  exact (Gather.hasOpenSlot_eq_false _).2 fun b =>
    agreed.not_endable (s.abort_not_asking b) ((agreed.bay b).queue_nil (s.abort_available b)) i

theorem State.abort_aborted (s : State) (i : GatherNo) :
    (s.abort.gather i).aborted = ((s.gather i).aborted || (s.gather i).state == .opened) := by
  have kept : (s.abort.gather i).aborted = (({ s with run := .held } : State).flagAborted.gather i).aborted :=
    foldl_keeps (fun t : State => (t.gather i).aborted) _ (fun _ c => State.abortBay_aborted c i) _ _
  rw [kept, State.flagAborted_gather]
  rfl

/-- An OPEN gather is complete after the abort (R80, R152). -/
theorem State.abort_done (h : s.tableAgrees) {i : GatherNo} (ho : (s.gather i).state = .opened) :
    (s.abort.gather i).state = .done := by
  rcases ((State.abort_forward (answered := False) h.gathers).advances i).opened ho with hopen | ⟨hdone, -⟩
  · have some := ((Gather.consistent_iff _).1 ((State.abort_agrees h).gathers i).1).1.1 hopen
    rw [State.abort_hasOpenSlot h] at some
    exact absurd some Bool.false_ne_true
  · exact hdone

/-! ### The assertion (R149) -/

/-- The stop line asserted and its notice raised, before the abort. -/
def State.stopped (s : State) : State := { s with stopLine := true }.raise .stopLine

theorem State.stopped_bay (s : State) (b : BayNo) : s.stopped.bay b = s.bay b := State.raise_bay ..

theorem State.stopped_gather (s : State) (i : GatherNo) : s.stopped.gather i = s.gather i := State.raise_gather ..

theorem State.stopped_agrees (h : s.tableAgrees) : s.stopped.tableAgrees :=
  State.tableAgrees.raise (s := { s with stopLine := true }) (State.tableAgrees_congr h rfl rfl rfl rfl) .stopLine

theorem State.stopped_spares (s : State) (b : BayNo) : s.Spares b s.stopped where
  bay := s.stopped_bay b
  slots i := by rw [State.stopped_gather]
  full := congrArg (·.get b) (State.raise_ringFull { s with stopLine := true } .stopLine)
  same := .of_eq (State.raise_clock ..) (State.raise_gathers ..) (State.raise_profiles ..)
  agrees := State.stopped_agrees
  store := .raise (.elsewhere .refl rfl rfl rfl)
  bytes _ _ _ := congrArg (readCell · _) (State.raise_cells ..)

theorem State.actOnStop_of_abort (h : s.stopFunction = .abort) : s.actOnStop = s.abort := by
  unfold State.actOnStop
  rw [h]

theorem exec_stopLineChange_abort (hnone : s.requestInHand = none) (hstop : s.stopLine = false)
    (hfunction : s.stopFunction = .abort) : exec (.stopLineChange true) s = .next s.stopped.abort := by
  rw [exec_stopLineChange hnone, eventStopLineChange_of_change (by simp [hstop]), if_pos rfl,
    State.actOnStop_of_abort (by rw [State.raise_stopFunction, hfunction])]
  rfl

/-- The abort raises no event notice but those of the gathers it completes. -/
theorem State.abort_eventsKept (s : State) : s.abort.notices.EventsKept s.notices := by
  have each : ∀ (l : List BayNo) (t : State), (l.foldl State.abortBay t).notices.EventsKept t.notices := by
    intro l
    induction l with
    | nil => exact fun t => .refl _
    | cons c l ih => exact fun t => (t.abortBay_endsSlots c).events.trans (ih _)
  rw [State.abort, State.eachBay]
  exact each allBays ({ s with run := .held } : State).flagAborted

theorem State.stopped_raisedFrom (s : State) : s.stopped.raisedFrom s .stopLine :=
  State.raise_raisedFrom_of_kept (by simp) (by simp) rfl rfl

/-- The notice of a gather that the abort completes (R80). -/
theorem State.abort_raisedFrom (h : s.tableAgrees) {i : GatherNo} (ho : (s.gather i).state = .opened) :
    s.stopped.abort.raisedFrom s (.gatherDone i) := by
  have agreed := State.stopped_agrees h
  have raised := (State.abort_forward (answered := False) agreed.gathers).raised i
  have opened : (s.stopped.gather i).state = .opened := by rw [State.stopped_gather, ho]
  have done := State.abort_done agreed opened
  have places : s.stopped.notices.gatherDone = s.notices.gatherDone := by
    unfold State.stopped State.raise
    split <;> rfl
  have mask : s.stopped.classMask = s.classMask := State.raise_classMask ..
  rw [places, opened, done, State.classEnabled_congr mask] at raised
  simpa [State.raisedFrom, Notices.waiting, Bool.or_comm] using raised

/-- Settles O15: the assertion and its notice, then each bay's own turn in the abort, and what the turns together leave of
the conversion and of the gathers. -/
theorem anAbortTakesEveryBayOutOfService : Obligations.AnAbortTakesEveryBayOutOfService := by
  intro s hnone h hstop hfunction
  have agreed := State.stopped_agrees h
  have after := State.abort_agrees agreed
  have meets (b : BayNo) : s.AbortsAt s.stopped.abort b := (s.stopped.abort_abortsAt b).left (s.stopped_spares b)
  have converter : s.stopped.converter = s.converter := State.raise_converter ..
  refine ⟨_, exec_stopLineChange_abort hnone hstop hfunction, State.abort_run _, ?_, ?_, fun b hs => ?_, fun b hs => ?_,
    fun b => (meets b).slotsMeet h, fun hidle => ?_, fun granted ends tied hc => ?_, fun i ho => ⟨?_, ?_, ?_⟩,
    fun i ho => ?_⟩
  · rw [show s.stopped.abort.stopLine = s.stopped.stopLine from State.abort_keepsBut.items .stopLine (by simp)]
    exact State.raise_stopLine ..
  · have raised := s.stopped_raisedFrom
    unfold State.raisedFrom at raised ⊢
    rw [← raised]
    exact s.stopped.abort_eventsKept.stopLine
  · rw [State.abort_bay_of_faulted (by rw [State.stopped_bay, hs]), State.stopped_bay]
  · obtain ⟨ring, full, bytes⟩ := (meets b).records h hs
    have written := Ring.window_handOver b (s.askRecord s.stopped.abort b) s
    rw [State.askRecord_length _ (h.exchangeAt b).ask] at written
    simp only [Bay.windowOfRingKept, Bay.wroteRecords, ← ring] at written
    obtain ⟨kept, wrote⟩ := written
    have quiet := (after.bay b).quiet (s.stopped.abort_not_asking b)
    have closed := (after.bay b).window_closed (s.stopped.abort_not_asking b)
    have timer := (after.bay b).cycleTimer_none (State.abort_atRest s.stopped b).2
    obtain ⟨outstanding, answerTimer, r, w, e⟩ := State.abort_bay_of_working (s := s.stopped) (b := b)
      (by rwa [State.stopped_bay])
    rw [State.stopped_bay] at e
    refine ⟨?state, ?supply, timer, ?saved, ?trips, ?sags, ⟨?receiver, ?gap, ?transmitter, ?frame, ?wake, quiet⟩,
      ?tunnelOut, ?tunnelIn, ?nextTag, ?rates, ?queue, closed, ?seat, ?identity, kept, wrote, ring, full, bytes⟩
    all_goals rw [e]
    case supply => exact ⟨rfl, rfl, rfl⟩
    case rates | seat => exact ⟨rfl, rfl, rfl, rfl⟩
    case identity => exact ⟨rfl, rfl⟩
    all_goals rfl
  · have runs := State.abort_runsOn agreed
    rw [converter, hidle] at runs
    exact runs
  · exact State.abort_converting agreed (converter.trans hc)
  · exact State.abort_done agreed (by rw [State.stopped_gather, ho])
  · rw [State.abort_aborted, State.stopped_gather, ho]
    exact Bool.or_true _
  · exact State.abort_raisedFrom h ho
  · rw [((State.abort_forward (answered := False) agreed.gathers).advances i).closed (by rwa [State.stopped_gather]),
      State.stopped_gather]

end Sys2Proof.Machine
end

section
/-! PROOFS. The Notice Unit by its places: what a poll takes and leaves, and what CLEAR_NOTICES leaves (R161, R163,
R165 to R167). -/

namespace Sys2Proof.Machine

/-! ### The places in the order of urgency (R161, R165) -/

/-- A place is more urgent than another: a lower class, or the same class and a lower source (R165). -/
def Place.Before (p q : Place) : Prop :=
  p.classNo < q.classNo ∨ p.classNo = q.classNo ∧ p.sourceNo < q.sourceNo

theorem mem_allPlaces (p : Place) : p ∈ allPlaces := by
  cases p <;> simp [allPlaces, mem_allBays, mem_allGathers]

theorem allGathers_rising : allGathers.Pairwise (· < ·) := by decide

/-- The bays rise within a class, and so do the gathers; across two classes the class numbers decide. -/
theorem allPlaces_rising : allPlaces.Pairwise Place.Before := by
  simp +contextual [allPlaces, List.pairwise_append, List.pairwise_map, Place.Before, Place.classNo, Place.sourceNo,
    allBays_rising, allGathers_rising, or_imp, forall_and]

theorem allPlaces_length : allPlaces.length = 161 := by simp [allPlaces, allBays, allGathers]

/-! ### A place collected (R163, R165) -/

theorem Condition.mark_not_unreported (c : Condition) : (c.mark == .unreported) = false := by cases c <;> rfl

/-- The place collected is CLEAR, or its mark is set. -/
theorem Notices.waiting_collect_self (n : Notices) (p : Place) : (n.collect p).waiting p = false := by
  cases p
  case ringFull | tunnelIn => simp [Notices.collect, Notices.waiting, vector_get_set, Condition.mark_not_unreported]
  all_goals simp [Notices.collect, Notices.setEvent, Notices.waiting, vector_get_set]

/-- A place of another class lies in another table; of the same class, at another source of it. -/
theorem Notices.waiting_collect_of_ne (n : Notices) {p q : Place} (h : q ≠ p) :
    (n.collect p).waiting q = n.waiting q := by
  cases p <;> cases q
  case stopLine.stopLine => exact absurd rfl h
  case ringFull.ringFull | tunnelIn.tunnelIn =>
    simp_all [Notices.collect, Notices.waiting, vector_get_set, eq_comm]
  case bayFault.bayFault | bayDark.bayDark | presence.presence | gatherDone.gatherDone | signedOn.signedOn =>
    simp_all [Notices.collect, Notices.setEvent, Notices.waiting, vector_get_set, eq_comm]
  all_goals rfl

/-! ### The unit emptied (R166) -/

theorem Notices.waiting_clearAll (n : Notices) (p : Place) : n.clearAll.waiting p = false := by
  cases p
  case stopLine => rfl
  case ringFull | tunnelIn => simp [Notices.clearAll, Notices.waiting, Condition.mark_not_unreported]
  all_goals exact vector_get_replicate ..

/-- CLEAR_NOTICES marks the condition places and leaves their causes (R166). -/
theorem Notices.clearAll_ringFull (n : Notices) (b : BayNo) :
    n.clearAll.ringFull.get b = .inactive ↔ n.ringFull.get b = .inactive := by
  rw [Notices.clearAll, vector_get_map, Condition.mark_eq_inactive]

theorem Notices.clearAll_tunnelIn (n : Notices) (b : BayNo) :
    n.clearAll.tunnelIn.get b = .inactive ↔ n.tunnelIn.get b = .inactive := by
  rw [Notices.clearAll, vector_get_map, Condition.mark_eq_inactive]

/-! ### What is reportable (R161, R165, R167) -/

variable {s : State} {p : Place}

theorem State.reportable_of_not_waiting (h : s.notices.waiting p = false) : s.reportable p = false := by
  simp [State.reportable, h]

@[simp] theorem State.answer_reportable (s : State) (c : Instr) (status : Status) (body : List Byte) :
    (s.answer c status body).reportable = s.reportable := by
  funext p
  simp [State.reportable, State.classEnabled]

theorem State.mostUrgent_of_none (h : ∀ q, s.reportable q = false) : s.mostUrgent = none :=
  List.find?_eq_none.2 fun q _ => by simp [h q]

/-- Whatever stands before the least place in allPlaces is more urgent still, and so not reportable. -/
theorem State.mostUrgent_of_least (hp : s.reportable p) (hleast : ∀ q, s.reportable q →
    p.classNo < q.classNo ∨ p.classNo = q.classNo ∧ p.sourceNo ≤ q.sourceNo) : s.mostUrgent = some p := by
  obtain ⟨front, rest, hsplit⟩ := List.append_of_mem (mem_allPlaces p)
  have rising := allPlaces_rising
  rw [hsplit, List.pairwise_append] at rising
  obtain ⟨-, -, hbefore⟩ := rising
  refine List.find?_eq_some_iff_append.2 ⟨hp, front, rest, hsplit, fun q hq => ?_⟩
  have before : q.Before p := hbefore q hq p List.mem_cons_self
  unfold Place.Before at before
  have silent : ¬s.reportable q := fun hr => by
    have := hleast q hr
    omega
  simpa using silent

/-- The count fits its byte of the reply. -/
theorem State.reportableCount_toNat (s : State) : (BitVec.ofNat 8 s.reportableCount).toNat = s.reportableCount := by
  have : s.reportableCount ≤ 161 := allPlaces_length ▸ List.countP_le_length
  rw [BitVec.toNat_ofNat, Nat.mod_eq_of_lt (by omega)]

theorem State.noticeWaiting_iff (s : State) : s.replyFlags.noticeWaiting = true ↔ 0 < s.reportableCount :=
  List.any_eq_true.trans List.countP_pos_iff.symm

theorem State.noticeWaiting_of_none (h : ∀ q, s.notices.waiting q = false) : s.replyFlags.noticeWaiting = false :=
  List.any_eq_false.2 fun q _ => by simp [State.reportable_of_not_waiting (h q)]

/-! ### The two requests -/

/-- The state with this place collected, before the reply to the poll is composed (R165). -/
def State.collected (s : State) (p : Place) : State := { s with notices := s.notices.collect p }

theorem requestPollNotice_none (h : s.mostUrgent = none) :
    requestPollNotice s = s.answer .pollNotice .ok [0, 0, 0, 0] := by
  unfold requestPollNotice
  rw [h]

theorem requestPollNotice_some (h : s.mostUrgent = some p) :
    requestPollNotice s = (s.collected p).answer .pollNotice .ok
      [1, BitVec.ofNat 8 p.classNo, BitVec.ofNat 8 p.sourceNo, BitVec.ofNat 8 (s.collected p).reportableCount] := by
  unfold requestPollNotice
  rw [h]
  rfl

/-- Settles O47: the poll by what mostUrgent finds, the flag by the places still reportable, and the unit emptied. -/
theorem noticesAreCollectedByUrgency : Obligations.NoticesAreCollectedByUrgency := by
  intro s hclear
  have hpoll : exec .pollNotice s = .next (requestPollNotice s) :=
    State.next_serve_of_clear hclear .pollNotice requestPollNotice
  have hempty : exec .clearNotices s = .next (requestClearNotices s) :=
    State.next_serve_of_clear hclear .clearNotices requestClearNotices
  refine ⟨fun hnothing => ⟨_, hpoll, ?_⟩, fun p hp hleast => ?_, ⟨_, hempty, ?_⟩⟩
  · rw [requestPollNotice_none (State.mostUrgent_of_none hnothing)]
    exact s.answer_repliedAs ..
  · have collected := requestPollNotice_some (State.mostUrgent_of_least hp hleast)
    refine ⟨_, BitVec.ofNat 8 (s.collected p).reportableCount, hpoll, ?_⟩
    rw [collected, State.answer_notices, State.answer_reportable, State.reportableCount_toNat, State.answer_lastReply]
    refine ⟨State.answer_repliedAs .., State.reportable_of_not_waiting (s.notices.waiting_collect_self p),
      fun q hq => s.notices.waiting_collect_of_ne hq, rfl, ?_,
      fun b => ⟨s.notices.collect_ringFull p b, s.notices.collect_tunnelIn p b⟩⟩
    rintro _ ⟨rfl⟩
    exact State.noticeWaiting_iff _
  · rw [requestClearNotices, State.answer_notices, State.answer_replyFlags]
    exact ⟨State.answer_repliedAs .., s.notices.waiting_clearAll, State.noticeWaiting_of_none s.notices.waiting_clearAll,
      fun b => ⟨s.notices.clearAll_ringFull b, s.notices.clearAll_tunnelIn b⟩⟩

end Sys2Proof.Machine
end

section
/-! PROOFS. The request index, read and written: every request is read back from its code and body, and only requests are
read (R172, R175, R183). -/

namespace Sys2Proof.Machine

/-! ### Bodies read back (R183) -/

theorem readSetParam_put (n : Byte) (v : BitVec 32) : readSetParam (n :: leBytes 4 v.toNat) = some (.setParam n v) := by
  simp only [leBytes, readSetParam, field_four]

theorem readCycleBay_put (bay : Byte) (offMs : BitVec 16) (restore : Option Byte) :
    readCycleBay (bay :: leBytes 2 offMs.toNat ++ restore.toList) = some (.cycleBay bay offMs restore) := by
  cases restore <;> simp only [leBytes, readCycleBay, Option.toList, List.cons_append, List.nil_append, field_two]

theorem readArmGather_put (bays : BaySet) (command : BitVec 16) (profile : Byte) (failMask : Indicators)
    (timeoutMs : BitVec 16) (options : Byte) (args : List Byte) :
    readArmGather (leBytes 3 bays.toNat ++ leBytes 2 command.toNat ++ [profile, failMask] ++
      leBytes 2 timeoutMs.toNat ++ options :: args) =
      some (.armGather bays command profile failMask timeoutMs options args) := by
  simp only [leBytes, readArmGather, List.cons_append, List.nil_append, field_two, field_three]

theorem readGather_put (f : Byte → BitVec 16 → Instr) (i : Byte) (serial : BitVec 16) :
    readGather f (i :: leBytes 2 serial.toNat) = some (f i serial) := by
  simp only [leBytes, readGather, field_two]

theorem readGatherSlot_put (i bay : Byte) (serial : BitVec 16) :
    readGatherSlot (i :: leBytes 2 serial.toNat ++ [bay]) = some (.gatherSlot i serial bay) := by
  simp only [leBytes, readGatherSlot, List.cons_append, List.nil_append, field_two]

theorem readDefineProfile_put (p mode : Byte) (m d : BitVec 16) (b low high : BitVec 32)
    (latencyMs currentMa : BitVec 16) :
    readDefineProfile (p :: mode :: (leBytes 2 m.toNat ++ leBytes 2 d.toNat ++ leBytes 4 b.toNat ++
      leBytes 4 low.toNat ++ leBytes 4 high.toNat ++ leBytes 2 latencyMs.toNat ++ leBytes 2 currentMa.toNat)) =
      some (.defineProfile p mode m d b low high latencyMs currentMa) := by
  simp only [leBytes, readDefineProfile, List.cons_append, List.nil_append, field_two, field_four]

theorem readSetRing_put (bay : Byte) (base length : BitVec 16) (mode : Byte) :
    readSetRing (bay :: (leBytes 2 base.toNat ++ leBytes 2 length.toNat ++ [mode])) =
      some (.setRing bay base length mode) := by
  simp only [leBytes, readSetRing, List.cons_append, List.nil_append, field_two]

theorem readBayTwoWords_put (f : Byte → BitVec 16 → BitVec 16 → Instr) (bay : Byte) (x y : BitVec 16) :
    readBayTwoWords f (bay :: (leBytes 2 x.toNat ++ leBytes 2 y.toNat)) = some (f bay x y) := by
  simp only [leBytes, readBayTwoWords, List.cons_append, List.nil_append, field_two]

/-! ### The index (R175) -/

variable {c : Instr} {code : Byte} {body : List Byte}

/-- The port reads a body by the row of its code. -/
theorem decodeRequest_of_row {read : List Byte → Option Instr}
    (hrow : requestTable.find? (fun row => row.code == code) = some ⟨code, read⟩) (hread : read body = some c) :
    decodeRequest code body = .request c := by
  simp only [decodeRequest, hrow, hread]

/-- What encodeRequest writes the port reads back. -/
theorem decodeRequest_of_encodeRequest (h : encodeRequest c = some (code, body)) :
    decodeRequest code body = .request c := by
  cases c
  case' cycleBay bay offMs restore => cases restore
  all_goals simp only [encodeRequest, reduceCtorEq, Option.some.injEq, Prod.mk.injEq] at h
  all_goals obtain ⟨rfl, rfl⟩ := h
  case setParam => exact decodeRequest_of_row rfl (readSetParam_put ..)
  case cycleBay.none => exact decodeRequest_of_row rfl (readCycleBay_put _ _ none)
  case cycleBay.some => exact decodeRequest_of_row rfl (readCycleBay_put _ _ (some _))
  case armGather => exact decodeRequest_of_row rfl (readArmGather_put ..)
  case gatherStatus | cancelGather | releaseGather => exact decodeRequest_of_row rfl (readGather_put ..)
  case gatherSlot => exact decodeRequest_of_row rfl (readGatherSlot_put ..)
  case defineProfile => exact decodeRequest_of_row rfl (readDefineProfile_put ..)
  case setRing => exact decodeRequest_of_row rfl (readSetRing_put ..)
  case clearDrops | writeCal => exact decodeRequest_of_row rfl (readBayTwoWords_put ..)
  all_goals exact decodeRequest_of_row rfl rfl

/-- The body of a request that can be sent fits a frame (R172). -/
theorem encodeRequest_length (h : encodeRequest c = some (code, body)) (hc : c.wellFormed) : body.length ≤ 1024 := by
  cases c
  case' cycleBay bay offMs restore => cases restore
  all_goals simp only [encodeRequest, reduceCtorEq, Option.some.injEq, Prod.mk.injEq] at h
  all_goals obtain ⟨-, rfl⟩ := h
  case putTunnel | armGather =>
    simp [Instr.wellFormed] at hc ⊢
    omega
  all_goals simp

/-- Settles O54, request by request: the row of the code reads the body back. -/
theorem decodeOfEncodeIsTheRequest : Obligations.DecodeOfEncodeIsTheRequest :=
  fun _ _ _ h => ⟨decodeRequest_of_encodeRequest h, encodeRequest_length h⟩

end Sys2Proof.Machine
end

section
/-! PROOFS. The request receiver byte by byte, the frames it discards, and the delivery of replies, detach and attach (R172
to R174, R177 to R179). -/

namespace Sys2Proof.Machine

variable {s : State} {p : Port} {got : List Byte}

/-! ### Bytes at the receiver (R172) -/

/-- A byte inside a frame, before the one at which the port judges, joins the bytes received. -/
theorem requestFrameByte_joins {byte : Byte}
    (h : got.length = 0 ∨ (∃ l0, got = [l0] ∧ (field 16 [l0, byte]).toNat ≤ 1024) ∨
      (∃ l0 l1 rest, got = l0 :: l1 :: rest ∧ rest.length + 1 < 2 + (field 16 [l0, l1]).toNat + 2)) :
    requestFrameByte got byte = some (got ++ [byte]) := by
  rcases h with hempty | ⟨l0, rfl, hlength⟩ | ⟨l0, l1, rest, rfl, hinside⟩
  · obtain rfl := List.length_eq_zero_iff.1 hempty
    rfl
  · exact if_pos hlength
  · exact if_pos (by rw [requestFrameSize]; omega)

theorem Port.receive_of_hunting (h : p.receiver = .hunting) (byte : Byte) (clock : Time) :
    p.receive byte clock = if byte = 0xC3 then
      { p with receiver := .inFrame [], gap := some (expiryAfter clock portGapLimit) } else p := by
  simp only [Port.receive, h]

theorem Port.receive_of_joins (h : p.receiver = .inFrame got) {byte : Byte}
    (hjoins : requestFrameByte got byte = some (got ++ [byte])) (clock : Time) :
    p.receive byte clock =
      { p with receiver := .inFrame (got ++ [byte]), gap := some (expiryAfter clock portGapLimit) } := by
  simp only [Port.receive, h, hjoins]

theorem exec_requestSyncReceived_of_accepting (h : s.port.accepting = true) (byte : Byte) :
    exec (.requestSyncReceived byte) s = .next { s with port := s.port.receive byte s.clock } :=
  congrArg (fun p => Host.Outcome.next (s.modPort fun _ => p)) (if_pos h)

/-- No byte arrives while the pipe is stopped (R174). -/
theorem exec_requestSyncReceived_of_stopped (h : s.port.accepting = false) (byte : Byte) :
    exec (.requestSyncReceived byte) s = .next s :=
  congrArg (fun p => Host.Outcome.next (s.modPort fun _ => p)) (if_neg (Bool.eq_false_iff.1 h))

/-! ### Frames discarded (R172, R173, R179) -/

theorem eventRequestFrameCheckFail_of_fits {f : RequestFrame} (hfits : s.port.fits f.bytes = true) (hf : f.wellFormed)
    (hbroken : requestIntact f = false) : eventRequestFrameCheckFail f s = s.modPort Port.discard :=
  if_pos (by simp [hfits, hf, hbroken])

theorem eventRequestLengthDiscard_of_fits {length : BitVec 16} (hfits : s.port.fits (leBytes 2 length.toNat) = true)
    (hlong : 1024 < length.toNat) : eventRequestLengthDiscard length s = s.modPort Port.discard :=
  if_pos (by simp [hfits, maxBody, hlong])

theorem eventRequestGapExpiry_of_stopped (h : s.port.accepting = false) : eventRequestGapExpiry s = s :=
  if_neg (by simp [s.port.gapRunOut_of_stopped s.clock h])

theorem eventRequestGapExpiry_of_inFrame (haccepting : s.port.accepting = true) (hreceiver : s.port.receiver = .inFrame got)
    {expiry : Time} (hgap : s.port.gap = some expiry) :
    eventRequestGapExpiry s = if reached expiry s.clock then s.modPort Port.discard else s := by
  simp only [eventRequestGapExpiry, Port.gapRunOut, Port.assembling, ranOut, haccepting, hreceiver, hgap, Bool.true_and]

/-- Settles O6: the stopped pipe, then each discard and each byte by the state of the receiver. -/
theorem theRequestReceiverAssemblesAndDiscards : Obligations.TheRequestReceiverAssemblesAndDiscards := by
  refine ⟨fun s hnone hstopped => ?_, fun s got hnone hattached hroom => ?_⟩
  · have stopped : s.port.accepting = false := by
      rw [Bool.eq_false_iff, ne_eq, s.port.accepting_iff]
      rintro ⟨hattached, hroom⟩
      rcases hstopped with hdetached | hfull
      · simp [hattached] at hdetached
      · omega
    refine ⟨?_, exec_requestSyncReceived_of_stopped stopped⟩
    exact (State.next_before_of_none hnone _ eventRequestGapExpiry).trans
      (congrArg _ (eventRequestGapExpiry_of_stopped stopped))
  · have accepting := s.port.accepting_iff.2 ⟨hattached, hroom⟩
    refine ⟨fun f hreceiver hgot hf hbroken => ?_, fun length hreceiver hgot hlong => ?_, fun expiry hreceiver hgap => ?_,
      fun byte hreceiver => ?_, fun byte hreceiver hinside => ?_⟩
    · exact (State.next_before_of_none hnone _ (eventRequestFrameCheckFail f)).trans (congrArg _
        (eventRequestFrameCheckFail_of_fits (Port.fits_of_inFrame hreceiver hattached hroom hgot) hf hbroken))
    · exact (State.next_before_of_none hnone _ (eventRequestLengthDiscard length)).trans (congrArg _
        (eventRequestLengthDiscard_of_fits (Port.fits_of_inFrame hreceiver hattached hroom hgot) hlong))
    · exact (State.next_before_of_none hnone _ eventRequestGapExpiry).trans
        (congrArg _ (eventRequestGapExpiry_of_inFrame accepting hreceiver hgap))
    · rw [exec_requestSyncReceived_of_accepting accepting, Port.receive_of_hunting hreceiver]
      split <;> rfl
    · rw [exec_requestSyncReceived_of_accepting accepting,
        Port.receive_of_joins hreceiver (requestFrameByte_joins hinside)]
      rfl

/-! ### Delivery, detach and attach (R177, R178) -/

theorem exec_replyDelivered_of_attached (h : s.port.attached = true) :
    exec .replyDelivered s = .next { s with port := { s.port with buffer := deliverOldest s.port.buffer } } :=
  congrArg Host.Outcome.next (if_pos h)

theorem exec_linkDetach_of_attached (h : s.port.attached = true) :
    exec .linkDetach s = .next { s with port := { s.port with
      attached := false, receiver := .disabled, gap := none, buffer := s.port.buffer.filterMap Entry.atDetach } } :=
  congrArg Host.Outcome.next (if_pos h)

theorem exec_linkAttach_of_detached (h : s.port.attached = false) :
    exec .linkAttach s =
      .next { s with port := { s.port with attached := true, receiver := .hunting, gap := none } } :=
  congrArg Host.Outcome.next (if_neg (by simp [h]))

/-- At a detach REPLYING entries leave (R178). -/
theorem filterMap_atDetach_of_replied {es : List Entry} (h : ∀ x ∈ es, ∃ frame, x.phase = .replying frame) :
    es.filterMap Entry.atDetach = [] :=
  List.filterMap_eq_nil_iff.2 fun x hx => by
    obtain ⟨frame, hframe⟩ := h x hx
    simp [Entry.atDetach, hframe]

theorem Entry.atDetach_of_inHand {e : Entry} {discard : Bool} (h : e.phase = .inHand discard) :
    e.atDetach = some { e with phase := .inHand true } := by
  simp only [Entry.atDetach, h]

/-- Settles O7: the oldest entry leaves, the entries by their phase at a detach, and the receiver at an attach. -/
theorem deliveryDetachAndAttach : Obligations.DeliveryDetachAndAttach := by
  refine ⟨fun s e rest frame hattached hbuffer he => ?_, fun s replied waiting hattached hreplied hwaiting => ?_,
    fun s hdetached => exec_linkAttach_of_detached hdetached⟩
  · rw [exec_replyDelivered_of_attached hattached, hbuffer]
    simp only [deliverOldest, he]
  · have front := filterMap_atDetach_of_replied hreplied
    have back := filterMap_atDetach_of_waiting hwaiting
    refine ⟨fun hbuffer => ?_, fun e discard he hbuffer => ?_⟩
    · rw [exec_linkDetach_of_attached hattached, hbuffer, List.filterMap_append, front, back, List.append_nil]
    · rw [exec_linkDetach_of_attached hattached, hbuffer, List.filterMap_append, front,
        List.filterMap_cons_some (Entry.atDetach_of_inHand he), back, List.nil_append]

end Sys2Proof.Machine
end

section
/-! SUPPORT. What a request does reads nothing of the request buffer: on a part with an empty buffer it does the same, and
its reply alone reaches the buffer (R175, R176). -/

namespace Sys2Proof.Machine

/-- The part with an empty request buffer. -/
def State.bufferless (s : State) : State := { s with port := { s.port with buffer := [] } }

variable (s : State)

/-! ### What is read -/

@[simp] theorem State.bufferless_run : s.bufferless.run = s.run := rfl
@[simp] theorem State.bufferless_stopLine : s.bufferless.stopLine = s.stopLine := rfl
@[simp] theorem State.bufferless_clock : s.bufferless.clock = s.clock := rfl
@[simp] theorem State.bufferless_calLock : s.bufferless.calLock = s.calLock := rfl
@[simp] theorem State.bufferless_bay (b : BayNo) : s.bufferless.bay b = s.bay b := rfl
@[simp] theorem State.bufferless_gather (i : GatherNo) : s.bufferless.gather i = s.gather i := rfl
@[simp] theorem State.bufferless_lastReply : s.bufferless.lastReply = s.lastReply := rfl
@[simp] theorem State.bufferless_replyFlags : s.bufferless.replyFlags = s.replyFlags := rfl
@[simp] theorem State.stateBody_bufferless (b : BayNo) : s.bufferless.stateBody b = s.stateBody b := rfl

/-! ### What the shared operations do -/

@[simp] theorem State.modBay_bufferless (b : BayNo) (f : Bay → Bay) :
    s.bufferless.modBay b f = (s.modBay b f).bufferless := rfl

@[simp] theorem State.modGather_bufferless (i : GatherNo) (f : Gather → Gather) :
    s.bufferless.modGather i f = (s.modGather i f).bufferless := rfl

@[simp] theorem State.setGather_bufferless (i : GatherNo) (g : Gather) :
    s.bufferless.setGather i g = (s.setGather i g).bufferless := rfl

@[simp] theorem State.modProfile_bufferless (p : ProfileNo) (f : Profile → Profile) :
    s.bufferless.modProfile p f = (s.modProfile p f).bufferless := rfl

@[simp] theorem State.startWake_bufferless (b : BayNo) : s.bufferless.startWake b = (s.startWake b).bufferless := rfl

@[simp] theorem State.clearNotice_bufferless (p : Place) :
    s.bufferless.clearNotice p = (s.clearNotice p).bufferless := rfl

@[simp] theorem State.emptyTunnels_bufferless (b : BayNo) :
    s.bufferless.emptyTunnels b = (s.emptyTunnels b).bufferless := rfl

@[simp] theorem State.raise_bufferless (p : Place) : s.bufferless.raise p = (s.raise p).bufferless := by
  unfold State.raise
  rw [apply_ite State.bufferless]
  rfl

/-- The reply of a request reaches the buffer, and the rest of the part in the same way. -/
@[simp] theorem State.answer_bufferless (c : Instr) (status : Status) (body : List Byte) :
    s.bufferless.answer c status body = (s.answer c status body).bufferless := by
  rw [s.bufferless.answer_eq, s.answer_eq, State.answer_port_of_none rfl, s.answer_port]
  rfl

/-- The same reply composed on two states that differ in the buffer alone. -/
theorem State.answer_of_bufferless {t u : State} {c : Instr} {status : Status} {body body' : List Byte}
    (ht : t = u.bufferless) (hbody : body = body') :
    t.answer c status body = (u.answer c status body').bufferless := by
  rw [ht, hbody, State.answer_bufferless]

@[simp] theorem State.writeRecord_bufferless (b : BayNo) (kind : RecordKind) (own : List Byte) :
    s.bufferless.writeRecord b kind own = (s.writeRecord b kind own).bufferless := by
  by_cases hkeeps : (s.bay b).ring.keeps <;> by_cases hlost : ((s.bay b).ring.loses && (s.bay b).ring.lossless) = true
  all_goals
    simp only [State.writeRecord, State.bufferless_bay, hkeeps, hlost, Bool.false_eq_true, if_true, if_false]
    rfl

@[simp] theorem State.beginFrame_bufferless (b : BayNo) : s.bufferless.beginFrame b = (s.beginFrame b).bufferless := by
  unfold State.beginFrame
  cases hask : (s.bay b).link.pendingAsk <;> simp only [State.bufferless_bay, hask, apply_ite State.bufferless] <;> rfl

/-- Steps that do the same with an empty buffer do so one after the other. -/
theorem State.foldl_bufferless {α : Type} {f : State → α → State}
    (hf : ∀ (t : State) a, f t.bufferless a = (f t a).bufferless) (l : List α) :
    l.foldl f s.bufferless = (l.foldl f s).bufferless :=
  List.foldl_hom State.bufferless hf

/-! ### Completions, queues and asks (R34, R64, R73 to R80) -/

@[simp] theorem State.completeGatherIfFinal_bufferless (i : GatherNo) :
    s.bufferless.completeGatherIfFinal i = (s.completeGatherIfFinal i).bufferless := by
  simp only [State.completeGatherIfFinal, State.completeGather, State.bufferless_gather, State.bufferless_clock,
    State.modGather_bufferless, State.modProfile_bufferless, State.raise_bufferless, apply_ite State.bufferless]

@[simp] theorem State.closeWindowFor_bufferless (i : GatherNo) (b : BayNo) :
    s.bufferless.closeWindowFor i b = (s.closeWindowFor i b).bufferless := by
  unfold State.closeWindowFor
  rw [apply_ite State.bufferless]
  rfl

@[simp] theorem State.finalSlot_bufferless (i : GatherNo) (b : BayNo) (e : Ending) (answer : Option Answer) :
    s.bufferless.finalSlot i b e answer = s.finalSlot i b e answer := rfl

@[simp] theorem State.completeEvaluated_bufferless (b : BayNo) (i : GatherNo) (e : Ending) (answer : Option Answer) :
    s.bufferless.completeEvaluated b i e answer = (s.completeEvaluated b i e answer).bufferless := by
  by_cases h : ((s.gather i).slot b).endable <;> simp [State.completeEvaluated, State.finishEvaluated, h]

@[simp] theorem State.completeUnevaluated_bufferless (b : BayNo) (i : GatherNo) (e : Ending) :
    s.bufferless.completeUnevaluated b i e = (s.completeUnevaluated b i e).bufferless := by
  by_cases h : ((s.gather i).slot b).endable <;> simp [State.completeUnevaluated, State.finishUnevaluated, h]

@[simp] theorem State.unreachQueue_bufferless (b : BayNo) :
    s.bufferless.unreachQueue b = (s.unreachQueue b).bufferless :=
  (s.modBay b Bay.emptyQueue).foldl_bufferless (fun t i => t.completeEvaluated_bufferless b i .unreached none)
    (s.bay b).queue

@[simp] theorem State.dropQueue_bufferless (b : BayNo) (e : Ending) :
    s.bufferless.dropQueue b e = (s.dropQueue b e).bufferless :=
  (s.modBay b Bay.emptyQueue).foldl_bufferless (fun t i => t.completeUnevaluated_bufferless b i e) (s.bay b).queue

@[simp] theorem State.sentGather_bufferless (b : BayNo) : s.bufferless.sentGather b = s.sentGather b := rfl

@[simp] theorem State.loseAsk_bufferless (b : BayNo) : s.bufferless.loseAsk b = (s.loseAsk b).bufferless := by
  by_cases h : (s.bay b).state = .asking
  · cases hsent : s.sentGather b <;> simp [State.loseAsk, h, hsent]
  · simp [State.loseAsk, h]

/-! ### Bays (chapters 1 to 3) -/

theorem requestReleaseBay_bufferless (bay : Byte) :
    requestReleaseBay bay s.bufferless = (requestReleaseBay bay s).bufferless := by
  unfold requestReleaseBay
  split
  · exact s.answer_bufferless ..
  · simp only [State.bufferless_bay, State.modBay_bufferless, State.beginFrame_bufferless, State.startWake_bufferless,
      State.stateBody_bufferless, State.answer_bufferless]
    split <;> rfl

@[simp] theorem State.resetBay_bufferless (b : BayNo) : s.bufferless.resetBay b = (s.resetBay b).bufferless := by
  simp [State.resetBay, State.clearBayNotices]

theorem requestResetBay_bufferless (bay : Byte) :
    requestResetBay bay s.bufferless = (requestResetBay bay s).bufferless := by
  unfold requestResetBay
  split
  · exact s.answer_bufferless ..
  · rw [State.resetBay_bufferless, State.stateBody_bufferless, State.answer_bufferless]

theorem requestBayStatus_bufferless (bay : Byte) :
    requestBayStatus bay s.bufferless = (requestBayStatus bay s).bufferless := by
  unfold requestBayStatus
  split <;> exact s.answer_bufferless ..

@[simp] theorem State.setSupply_bufferless (b : BayNo) (mode : SupplyMode) :
    s.bufferless.setSupply b mode = (s.setSupply b mode).map State.bufferless := by
  simp only [State.setSupply, State.supplyOff, State.cycleOff, State.bufferless_bay, State.modBay_bufferless,
    State.loseAsk_bufferless, State.unreachQueue_bufferless, State.startWake_bufferless]
  split <;> rfl

theorem requestSetSupply_bufferless (bay mode : Byte) :
    requestSetSupply bay mode s.bufferless = (requestSetSupply bay mode s).bufferless := by
  unfold requestSetSupply
  split
  · rw [State.setSupply_bufferless]
    cases s.setSupply _ _ <;> exact State.answer_of_bufferless rfl rfl
  · exact s.answer_bufferless ..

@[simp] theorem State.cycle_bufferless (b : BayNo) (off : Nat) (saved mode : OnMode) :
    s.bufferless.cycle b off saved mode = (s.cycle b off saved mode).bufferless := by
  simp [State.cycle]

theorem requestCycleBay_bufferless (bay : Byte) (offMs : BitVec 16) (restore : Option Byte) :
    requestCycleBay bay offMs restore s.bufferless = (requestCycleBay bay offMs restore s).bufferless := by
  unfold requestCycleBay
  split
  · simp only [State.bufferless_bay, State.cycle_bufferless]
    split <;> exact State.answer_of_bufferless rfl rfl
  · exact s.answer_bufferless ..

theorem requestSetLineRate_bufferless (bay rate : Byte) :
    requestSetLineRate bay rate s.bufferless = (requestSetLineRate bay rate s).bufferless := by
  unfold requestSetLineRate
  split
  · simp only [State.bufferless_bay, State.modBay_bufferless, State.answer_bufferless, apply_ite State.bufferless]
  · exact s.answer_bufferless ..

theorem requestPutTunnel_bufferless (bay : Byte) (block : List Byte) :
    requestPutTunnel bay block s.bufferless = (requestPutTunnel bay block s).bufferless := by
  unfold requestPutTunnel
  split
  · exact s.answer_bufferless ..
  · simp only [State.bufferless_bay, State.modBay_bufferless, State.beginFrame_bufferless, State.answer_bufferless,
      apply_ite State.bufferless]

theorem requestGetTunnel_bufferless (bay : Byte) :
    requestGetTunnel bay s.bufferless = (requestGetTunnel bay s).bufferless := by
  unfold requestGetTunnel
  split <;> exact State.answer_of_bufferless rfl rfl

theorem requestPeekTunnel_bufferless (bay : Byte) :
    requestPeekTunnel bay s.bufferless = (requestPeekTunnel bay s).bufferless := by
  unfold requestPeekTunnel
  split <;> exact s.answer_bufferless ..

/-! ### Gathers and profiles (chapters 4 and 5) -/

@[simp] theorem State.arm_bufferless (i : GatherNo) (g : Gather) : s.bufferless.arm i g = (s.arm i g).bufferless := by
  by_cases h : g.hasOpenSlot
  · simp only [State.arm, h, if_true]
    rfl
  · simp only [State.arm, h, Bool.false_eq_true, if_false]
    exact State.raise_bufferless ((({ s with gatherSerial := g.serial } : State).enqueue g.bays i).setGather i
      { g with state := .done, lastFinal := some g.armTime }) (.gatherDone i)

@[simp] theorem State.armChecks_bufferless (bays : BaySet) (profile : Byte) (args : List Byte) :
    s.bufferless.armChecks bays profile args = s.armChecks bays profile args := rfl

theorem requestArmGather_bufferless (bays : BaySet) (command : BitVec 16) (profile : Byte) (failMask : Indicators)
    (timeoutMs : BitVec 16) (options : Byte) (args : List Byte) :
    requestArmGather bays command profile failMask timeoutMs options args s.bufferless =
      (requestArmGather bays command profile failMask timeoutMs options args s).bufferless := by
  simp only [requestArmGather, State.armChecks_bufferless, State.arm_bufferless]
  split <;> exact State.answer_of_bufferless rfl rfl

@[simp] theorem State.named_bufferless (index : Byte) (serial : BitVec 16) :
    s.bufferless.named index serial = s.named index serial := rfl

theorem requestGatherStatus_bufferless (index : Byte) (serial : BitVec 16) :
    requestGatherStatus index serial s.bufferless = (requestGatherStatus index serial s).bufferless := by
  simp only [requestGatherStatus, State.named_bufferless]
  split <;> exact s.answer_bufferless ..

theorem requestGatherSlot_bufferless (index : Byte) (serial : BitVec 16) (bay : Byte) :
    requestGatherSlot index serial bay s.bufferless = (requestGatherSlot index serial bay s).bufferless := by
  simp only [requestGatherSlot, State.named_bufferless]
  split
  · exact s.answer_bufferless ..
  · split <;> exact s.answer_bufferless ..

@[simp] theorem State.cancelSlot_bufferless (i : GatherNo) (b : BayNo) :
    s.bufferless.cancelSlot i b = (s.cancelSlot i b).bufferless := by
  by_cases h : ((s.gather i).slot b).stage = .queued <;> simp [State.cancelSlot, h]

@[simp] theorem State.cancel_bufferless (i : GatherNo) : s.bufferless.cancel i = (s.cancel i).bufferless := by
  unfold State.cancel State.eachBay
  rw [State.modGather_bufferless]
  exact State.foldl_bufferless _ (fun t b => t.cancelSlot_bufferless i b) allBays

theorem requestCancelGather_bufferless (index : Byte) (serial : BitVec 16) :
    requestCancelGather index serial s.bufferless = (requestCancelGather index serial s).bufferless := by
  simp only [requestCancelGather, State.named_bufferless]
  split
  · exact s.answer_bufferless ..
  · rename_i i _
    by_cases h : (s.gather i).state = .opened <;> simp [h]

theorem requestReleaseGather_bufferless (index : Byte) (serial : BitVec 16) :
    requestReleaseGather index serial s.bufferless = (requestReleaseGather index serial s).bufferless := by
  simp only [requestReleaseGather, State.named_bufferless]
  split
  · exact s.answer_bufferless ..
  · rename_i i _
    by_cases h : (s.gather i).state = .done <;> simp [h]

@[simp] theorem State.defineChecks_bufferless (profile valueMode : Byte) (d : BitVec 16) (low high : BitVec 32)
    (currentMa : BitVec 16) : s.bufferless.defineChecks profile valueMode d low high currentMa =
      s.defineChecks profile valueMode d low high currentMa := rfl

theorem requestDefineProfile_bufferless (profile valueMode : Byte) (m d : BitVec 16) (b low high : BitVec 32)
    (latencyMs currentMa : BitVec 16) :
    requestDefineProfile profile valueMode m d b low high latencyMs currentMa s.bufferless =
      (requestDefineProfile profile valueMode m d b low high latencyMs currentMa s).bufferless := by
  simp only [requestDefineProfile, State.defineChecks_bufferless]
  split <;> exact State.answer_of_bufferless rfl rfl

@[simp] theorem State.namedProfile_bufferless (profile : Byte) :
    s.bufferless.namedProfile profile = s.namedProfile profile := rfl

theorem requestReadProfile_bufferless (profile : Byte) :
    requestReadProfile profile s.bufferless = (requestReadProfile profile s).bufferless := by
  simp only [requestReadProfile, State.namedProfile_bufferless]
  split <;> exact s.answer_bufferless ..

theorem requestClearStats_bufferless (profile : Byte) :
    requestClearStats profile s.bufferless = (requestClearStats profile s).bufferless := by
  simp only [requestClearStats, State.namedProfile_bufferless]
  split <;> exact State.answer_of_bufferless rfl rfl

/-! ### Rings, notices and calibration (chapters 6, 7 and 9) -/

@[simp] theorem State.ringChecks_bufferless (bay : Byte) (base length : Nat) (mode : Byte) :
    s.bufferless.ringChecks bay base length mode = s.ringChecks bay base length mode := rfl

theorem requestSetRing_bufferless (bay : Byte) (base length : BitVec 16) (mode : Byte) :
    requestSetRing bay base length mode s.bufferless = (requestSetRing bay base length mode s).bufferless := by
  simp only [requestSetRing, State.ringChecks_bufferless]
  split <;> exact State.answer_of_bufferless rfl rfl

theorem requestReadResults_bufferless (bay max : Byte) :
    requestReadResults bay max s.bufferless = (requestReadResults bay max s).bufferless := by
  unfold requestReadResults
  split <;> exact State.answer_of_bufferless rfl rfl

@[simp] theorem State.clearLosses_bufferless (b : BayNo) (drops overwrites : BitVec 16) :
    s.bufferless.clearLosses b drops overwrites = (s.clearLosses b drops overwrites).bufferless := by
  unfold State.clearLosses
  dsimp only
  rw [apply_ite State.bufferless]
  rfl

theorem requestClearDrops_bufferless (bay : Byte) (seenDrops seenOverwrites : BitVec 16) :
    requestClearDrops bay seenDrops seenOverwrites s.bufferless =
      (requestClearDrops bay seenDrops seenOverwrites s).bufferless := by
  simp only [requestClearDrops, State.clearLosses_bufferless]
  split <;> exact State.answer_of_bufferless rfl rfl

theorem requestRingStatus_bufferless (bay : Byte) :
    requestRingStatus bay s.bufferless = (requestRingStatus bay s).bufferless := by
  unfold requestRingStatus
  split <;> exact s.answer_bufferless ..

@[simp] theorem State.mostUrgent_bufferless : s.bufferless.mostUrgent = s.mostUrgent := rfl

theorem requestPollNotice_bufferless : requestPollNotice s.bufferless = (requestPollNotice s).bufferless := by
  simp only [requestPollNotice, State.mostUrgent_bufferless]
  split <;> exact State.answer_of_bufferless rfl rfl

theorem requestWriteCal_bufferless (bay : Byte) (gain offset : BitVec 16) :
    requestWriteCal bay gain offset s.bufferless = (requestWriteCal bay gain offset s).bufferless := by
  unfold requestWriteCal
  split
  · exact s.answer_bufferless ..
  · by_cases h : s.calLock <;> simp [h]

theorem requestReadCal_bufferless (bay : Byte) :
    requestReadCal bay s.bufferless = (requestReadCal bay s).bufferless := by
  unfold requestReadCal
  split <;> exact s.answer_bufferless ..

@[simp] theorem State.poweredSet_bufferless : s.bufferless.poweredSet = s.poweredSet := rfl

theorem requestUnlockCal_bufferless : requestUnlockCal s.bufferless = (requestUnlockCal s).bufferless := by
  by_cases h : s.poweredSet = 0
  · simp only [requestUnlockCal, State.poweredSet_bufferless, h, if_true]
    exact State.answer_of_bufferless rfl rfl
  · simp only [requestUnlockCal, State.poweredSet_bufferless, h, if_false, State.answer_bufferless]

/-! ### Station control (chapter 8) -/

@[simp] theorem State.setParameter_bufferless (number : Byte) (value : BitVec 32) :
    s.bufferless.setParameter number value = (s.setParameter number value).bufferless := by
  unfold State.setParameter
  split <;> rfl

/-- No parameter shows the request buffer (R155). -/
@[simp] theorem State.param_bufferless (number : Byte) : s.bufferless.param number = s.param number := rfl

theorem requestSetParam_bufferless (number : Byte) (value : BitVec 32) :
    requestSetParam number value s.bufferless = (requestSetParam number value s).bufferless := by
  simp [requestSetParam]

@[simp] theorem State.resumeRun_bufferless : s.bufferless.resumeRun = s.resumeRun.bufferless :=
  State.foldl_bufferless { s with run := .run } (fun t b => t.beginFrame_bufferless b) allBays

theorem requestResume_bufferless : requestResume s.bufferless = (requestResume s).bufferless := by
  simp [requestResume, apply_ite State.bufferless]

@[simp] theorem State.abortBay_bufferless (b : BayNo) : s.bufferless.abortBay b = (s.abortBay b).bufferless := by
  by_cases h : (s.bay b).state = .faulted <;> simp [State.abortBay, h]

@[simp] theorem State.abort_bufferless : s.bufferless.abort = s.abort.bufferless :=
  State.foldl_bufferless ({ s with run := .held } : State).flagAborted (fun t b => t.abortBay_bufferless b) allBays

theorem requestStationReset_bufferless : requestStationReset s.bufferless = (requestStationReset s).bufferless := by
  simp only [requestStationReset, State.stationReset, State.abort_bufferless]
  generalize s.abort = a
  exact State.answer_of_bufferless rfl rfl

/-! ### Every request -/

/-- With an empty buffer a request does what it does otherwise, but for the buffer (R175). -/
theorem State.carryOut_bufferless (c : Instr) : s.bufferless.carryOut c = (s.carryOut c).bufferless := by
  cases c
  case setParam => exact requestSetParam_bufferless s ..
  case resume => exact requestResume_bufferless s
  case stationReset => exact requestStationReset_bufferless s
  case bayStatus => exact requestBayStatus_bufferless s ..
  case setSupply => exact requestSetSupply_bufferless s ..
  case cycleBay => exact requestCycleBay_bufferless s ..
  case releaseBay => exact requestReleaseBay_bufferless s ..
  case resetBay => exact requestResetBay_bufferless s ..
  case setLineRate => exact requestSetLineRate_bufferless s ..
  case putTunnel => exact requestPutTunnel_bufferless s ..
  case getTunnel => exact requestGetTunnel_bufferless s ..
  case peekTunnel => exact requestPeekTunnel_bufferless s ..
  case armGather => exact requestArmGather_bufferless s ..
  case gatherStatus => exact requestGatherStatus_bufferless s ..
  case gatherSlot => exact requestGatherSlot_bufferless s ..
  case cancelGather => exact requestCancelGather_bufferless s ..
  case releaseGather => exact requestReleaseGather_bufferless s ..
  case defineProfile => exact requestDefineProfile_bufferless s ..
  case readProfile => exact requestReadProfile_bufferless s ..
  case clearStats => exact requestClearStats_bufferless s ..
  case setRing => exact requestSetRing_bufferless s ..
  case readResults => exact requestReadResults_bufferless s ..
  case clearDrops => exact requestClearDrops_bufferless s ..
  case ringStatus => exact requestRingStatus_bufferless s ..
  case pollNotice => exact requestPollNotice_bufferless s
  case writeCal => exact requestWriteCal_bufferless s ..
  case readCal => exact requestReadCal_bufferless s ..
  case unlockCal => exact requestUnlockCal_bufferless s
  case hold => exact State.answer_of_bufferless (u := { s with run := .held }) rfl rfl
  case clearNotices => exact State.answer_of_bufferless (u := { s with notices := s.notices.clearAll }) rfl rfl
  case lockCal => exact State.answer_of_bufferless (u := { s with calLock := true }) rfl rfl
  case identify | getParam | readClock => exact s.answer_bufferless ..
  all_goals rfl

end Sys2Proof.Machine
end

section
/-! SUPPORT. What is carried out before a command: each request in hand carried out leaves fewer requests without a reply, so
that the command finds the same part when the first of them was carried out before (R175, R176). -/

namespace Sys2Proof.Machine

variable {s t : State} {c d : Instr}

/-! ### Only requests are read from the buffer (R175) -/

/-- Every row of the index reads a request, whatever the body. -/
theorem requestTable_reads_requests {row : RequestRow} (hrow : row ∈ requestTable) {body : List Byte}
    (h : row.read body = some c) : (encodeRequest c).isSome := by
  fin_cases hrow
  all_goals
    simp only [readNone, readByte, readBytePair, readSetParam, readCycleBay, readPutTunnel, readArmGather, readGather,
      readGatherSlot, readDefineProfile, readSetRing, readBayTwoWords] at h
    split at h <;> cases h <;> rfl

/-- Only a request is read from an entry. -/
theorem isRequest_of_decodeRequest {code : Byte} {body : List Byte} (h : decodeRequest code body = .request c) :
    (encodeRequest c).isSome := by
  unfold decodeRequest at h
  split at h
  · cases h
  · rename_i row hrow
    split at h
    · cases h
    · rename_i d hd
      cases h
      exact requestTable_reads_requests (List.mem_of_find?_eq_some hrow) hd

theorem State.requestInHand_isRequest (h : s.requestInHand = some d) : (encodeRequest d).isSome := by
  unfold State.requestInHand at h
  split at h
  · cases h
  · split at h <;> cases h
    exact isRequest_of_decodeRequest ‹_›

theorem State.requestInHand_of_buffer {front rest : List Entry} {e : Entry} {discard : Bool}
    (hbuffer : s.port.buffer = front ++ e :: rest) (hfront : ∀ x ∈ front, ∃ frame, x.phase = .replying frame)
    (he : e.phase = .inHand discard) (hc : decodeRequest e.code e.body = .request c) : s.requestInHand = some c := by
  simp only [State.requestInHand, hbuffer, inHandEntry_append front e rest discard hfront he, hc]

/-! ### Requests without a reply -/

/-- The entry has no reply yet (R170). -/
def Entry.unanswered (e : Entry) : Bool :=
  match e.phase with
  | .replying _ => false
  | .waiting => true
  | .inHand _ => true

/-- How many requests of the buffer have no reply yet. -/
def State.unanswered (s : State) : Nat := s.port.buffer.countP Entry.unanswered

/-- Taking requests answers those that the port itself refuses, and no entry loses its reply (R175). -/
theorem takeWaiting_unanswered (flags : ReplyFlags) : ∀ es : List Entry,
    (takeWaiting flags es).countP Entry.unanswered ≤ es.countP Entry.unanswered
  | [] => Nat.le_refl _
  | e :: es => by
    have rest := takeWaiting_unanswered flags es
    cases hp : e.phase with
    | inHand discard => rw [takeWaiting_inHand flags e es discard hp]
    | replying frame =>
      simp only [takeWaiting, hp, List.countP_cons]
      omega
    | waiting =>
      simp only [takeWaiting, hp]
      split <;> simp [List.countP_cons, Entry.unanswered, hp] <;> omega

/-- The entry IN_HAND is without a reply until it gets one or leaves (R176, R178). -/
theorem finishInHand_unanswered (r : Reply) : ∀ {es : List Entry} {e : Entry}, inHandEntry es = some e →
    (finishInHand r es).countP Entry.unanswered < es.countP Entry.unanswered
  | x :: es, e, h => by
    cases hp : x.phase with
    | inHand discard => cases discard <;> simp [finishInHand, hp, Entry.unanswered]
    | replying frame =>
      simp only [inHandEntry, hp] at h
      simpa [finishInHand, hp, List.countP_cons] using finishInHand_unanswered r h
    | waiting =>
      simp only [inHandEntry, hp] at h
      simpa [finishInHand, hp, List.countP_cons] using finishInHand_unanswered r h

theorem State.inHandEntry_of_requestInHand (h : s.requestInHand = some d) : ∃ e, inHandEntry s.port.buffer = some e := by
  unfold State.requestInHand at h
  split at h
  · cases h
  · exact ⟨_, ‹_›⟩

theorem State.takeRequests_unanswered (s : State) : s.takeRequests.unanswered ≤ s.unanswered := by
  unfold State.takeRequests
  split
  · exact Nat.le_refl _
  · exact takeWaiting_unanswered ..

/-- The request in hand is answered in its entry, and then the port takes the next (R176). -/
theorem State.answer_of_inHand (h : s.requestInHand = some c) (status : Status) (body : List Byte) :
    s.answer c status body =
      (({ s with lastReply := some ⟨status, s.replyFlags, body⟩ } : State).modPort fun p =>
        { p with buffer := finishInHand ⟨status, s.replyFlags, body⟩ p.buffer }).takeRequests := if_pos h

theorem State.answer_unanswered (h : s.requestInHand = some c) (status : Status) (body : List Byte) :
    (s.answer c status body).unanswered < s.unanswered := by
  obtain ⟨e, he⟩ := State.inHandEntry_of_requestInHand h
  rw [State.answer_of_inHand h]
  exact (State.takeRequests_unanswered _).trans_lt (finishInHand_unanswered _ he)

theorem State.carryOut_unanswered (h : s.requestInHand = some d) : (s.carryOut d).unanswered < s.unanswered := by
  obtain ⟨u, status, body, hu, he⟩ := s.carryOut_serves (State.requestInHand_isRequest h)
  have hport : u.port = s.port := hu.items .port (touches_port d).1
  have hhand : u.requestInHand = some d := by rw [State.requestInHand, hport]; exact h
  have fewer := State.answer_unanswered hhand status body
  rw [he]
  rwa [show u.unanswered = s.unanswered by rw [State.unanswered, hport]; rfl] at fewer

/-- What is carried out before a command leaves the part alone, or fewer requests without a reply. -/
theorem State.carryInHand_unanswered (c : Instr) (s : State) :
    s.carryInHand c = s ∨ (s.carryInHand c).unanswered < s.unanswered := by
  cases h : s.requestInHand with
  | none => exact .inl (State.carryInHand_of_none c s h)
  | some d =>
    by_cases hd : d = c
    · exact .inl (State.carryInHand_of_self c s (hd ▸ h))
    · rw [State.carryInHand_of_other c d s h hd]
      exact .inr (State.carryOut_unanswered h)

/-! ### Carrying out one request after the other -/

/-- A step that leaves a state alone or lowers its measure leaves it alone after as many turns as the measure. -/
theorem iterate_fixed_of_measure {α : Type} {f : α → α} {measure : α → Nat}
    (hf : ∀ x, f x = x ∨ measure (f x) < measure x) :
    ∀ {n : Nat} {x : α}, measure x ≤ n → f (f^[n] x) = f^[n] x
  | n, x, hn => by
    rcases hf x with hx | hlower
    · rw [Function.iterate_fixed hx, hx]
    · cases n with
      | zero => omega
      | succ n => exact iterate_fixed_of_measure hf (x := f x) (by omega)

/-- So all counts of turns from the measure on agree. -/
theorem iterate_eq_of_measure {α : Type} {f : α → α} {measure : α → Nat}
    (hf : ∀ x, f x = x ∨ measure (f x) < measure x) {m n : Nat} {x : α} (hm : measure x ≤ m) (hn : measure x ≤ n) :
    f^[m] x = f^[n] x := by
  have settled : ∀ k, measure x ≤ k → f^[k] x = f^[measure x] x := by
    intro k hk
    obtain ⟨more, rfl⟩ := Nat.exists_eq_add_of_le' hk
    rw [Function.iterate_add_apply]
    exact Function.iterate_fixed (iterate_fixed_of_measure hf (Nat.le_refl _)) more
  rw [settled m hm, settled n hn]

theorem State.before_eq_iterate (s : State) (c : Instr) :
    s.before c = (State.carryInHand c)^[s.port.buffer.length] s :=
  List.foldl_const (State.carryInHand c) s s.port.buffer

theorem State.unanswered_le (s : State) : s.unanswered ≤ s.port.buffer.length := List.countP_le_length

/-- A command finds the same part when the request in hand has been carried out before it (R175). -/
theorem State.before_carryOut (h : s.requestInHand = some d) (hd : d ≠ c) : s.before c = (s.carryOut d).before c := by
  have fewer := State.carryOut_unanswered h
  have bound := s.unanswered_le
  obtain ⟨n, hn⟩ := Nat.exists_eq_add_one_of_ne_zero (n := s.port.buffer.length) (by omega)
  rw [s.before_eq_iterate, (s.carryOut d).before_eq_iterate, hn, Function.iterate_succ_apply,
    State.carryInHand_of_other c d s h hd]
  exact iterate_eq_of_measure (State.carryInHand_unanswered c) (by omega) (s.carryOut d).unanswered_le

/-! ### Commands that wait for the request in hand -/

theorem exec_of_request (hc : (encodeRequest c).isSome) (hup : s.startup = none) :
    exec c s = .next ((s.before c).carryOut c) := by
  rw [exec_request s hc, s.serve_of_up c _ hup]

/-- No request brings the start-up back (R160). -/
theorem State.carryOut_startup (hc : (encodeRequest c).isSome) : (s.carryOut c).startup = s.startup := by
  obtain ⟨u, status, body, hu, he⟩ := s.carryOut_serves hc
  rw [he, State.answer_startup]
  exact hu.items .startup (touches_startup (by rintro _ _ _ rfl; cases hc) (by rintro rfl; cases hc))

/-- Past the start-up such a command acts on what it finds once the requests before it have been carried out. -/
theorem exec_acts_on_before (hc : passesRequests c = false) :
    ∃ f : State → State, ∀ u : State, u.startup = none → exec c u = .next (f (u.before c)) := by
  by_cases hrequest : (encodeRequest c).isSome
  · exact ⟨fun u => u.carryOut c, fun u hup => exec_of_request hrequest hup⟩
  · cases c
    case powerOn | startupDebounceEnd | requestFrameAccepted | requestSyncReceived | replyDelivered | linkDetach
      | linkAttach => exact nomatch hc
    case' cycleBay restore => cases restore
    all_goals simp only [encodeRequest, Option.isSome, not_true, Bool.false_eq_true, not_false_eq_true] at hrequest
    all_goals exact ⟨_, fun _ _ => rfl⟩

/-- Such a command has the effect that it has once the request in hand has been carried out (R175). -/
theorem exec_after_inHand (hup : s.startup = none) (hc : passesRequests c = false) (hhand : s.requestInHand = some d)
    (hd : d ≠ c) (ht : exec d s = .next t) : exec c s = exec c t := by
  have hrequest := State.requestInHand_isRequest hhand
  have carried : t = s.carryOut d := by
    rw [exec_of_request hrequest hup, s.before_of_comesFirst d (.inr hhand)] at ht
    exact (Host.Outcome.next.inj ht).symm
  have up : t.startup = none := by
    rw [carried, State.carryOut_startup hrequest, hup]
  obtain ⟨f, hf⟩ := exec_acts_on_before hc
  rw [hf s hup, hf t up, carried, State.before_carryOut hhand hd]

end Sys2Proof.Machine
end

section
/-! PROOFS. A request in hand and its reply: what the reply makes of the buffer, and the reply frame field by field (R175,
R176, R178, R180, R182). -/

namespace Sys2Proof.Machine

variable {s : State} {c : Instr}

/-! ### The reply of the request in hand (R176, R178) -/

/-- What the reply leaves of the buffer: the entry with its frame, or without the entry, and what the port then takes. -/
theorem State.answer_buffer (hup : s.startup = none) {replied waiting : List Entry} {e : Entry} {discard : Bool}
    (hbuffer : s.port.buffer = replied ++ e :: waiting) (hreplied : ∀ x ∈ replied, ∃ frame, x.phase = .replying frame)
    (he : e.phase = .inHand discard) (hc : decodeRequest e.code e.body = .request c) (status : Status)
    (body : List Byte) :
    (s.answer c status body).port.buffer = replied ++
      (if discard then takeWaiting s.replyFlags waiting
       else { e with phase := .replying (replyFrame e.code e.seq ⟨status, s.replyFlags, body⟩) } ::
        takeWaiting s.replyFlags waiting) := by
  rw [State.answer_of_inHand (State.requestInHand_of_buffer hbuffer hreplied he hc),
    State.takeRequests_of_up (by exact hup)]
  show takeWaiting s.replyFlags (finishInHand _ s.port.buffer) = _
  rw [hbuffer, finishInHand_append _ replied e waiting discard hreplied he, takeWaiting_append _ _ _ hreplied]
  cases discard <;> rfl

/-! ### The reply frame (R182) -/

/-- A reply frame, field by field: sync byte, length, code, sequence and status, flags, body, check. -/
def replyFrameFields (code seq : Byte) (r : Reply) : List (List Byte) :=
  [[0x3C], leBytes 2 r.body.length, [code, seq, r.status.code], [r.flags.byte], r.body,
    leBytes 2 (crc (leBytes 2 r.body.length ++ [code, seq, r.status.code, r.flags.byte] ++ r.body)).toNat]

theorem replyFrame_eq_flatten (code seq : Byte) (r : Reply) :
    replyFrame code seq r = (replyFrameFields code seq r).flatten := by
  simp [replyFrame, replyFrameFields]

theorem replyFrameFields_sizes (code seq : Byte) (r : Reply) :
    (replyFrameFields code seq r).map List.length = [1, 2, 3, 1, r.body.length, 2] := by
  simp [replyFrameFields]

theorem replyFrame_length (code seq : Byte) (r : Reply) : (replyFrame code seq r).length = 9 + r.body.length := by
  rw [replyFrame_eq_flatten, List.length_flatten, replyFrameFields_sizes]
  simp only [List.sum_cons, List.sum_nil]
  omega

/-- A field of a reply frame at its offset. -/
theorem replyFrame_field {code seq : Byte} {r : Reply} (k : Nat) {offset size : Nat} {f : List Byte}
    (hoffset : ([1, 2, 3, 1, r.body.length, 2].take k).sum = offset)
    (hsize : [1, 2, 3, 1, r.body.length, 2][k]? = some size) (hf : (replyFrameFields code seq r)[k]? = some f) :
    bytesAt (replyFrame code seq r) offset size = f := by
  rw [replyFrame_eq_flatten]
  exact bytesAt_field (replyFrameFields_sizes code seq r) k hoffset hsize hf

/-- The bytes that the check of a reply frame covers are those after its sync byte (R176). -/
theorem replyFrame_covered (code seq : Byte) (r : Reply) :
    bytesAt (replyFrame code seq r) 1 (6 + r.body.length) =
      leBytes 2 r.body.length ++ [code, seq, r.status.code, r.flags.byte] ++ r.body := by
  have hcovered : (leBytes 2 r.body.length ++ [code, seq, r.status.code, r.flags.byte] ++ r.body).length =
      6 + r.body.length := by
    simp only [List.length_append, leBytes_length, List.length_cons, List.length_nil]
  rw [← hcovered]
  exact bytesAt_front _ _

theorem replyFrame_check (code seq : Byte) (r : Reply) :
    numberAt (replyFrame code seq r) (7 + r.body.length) 2 =
      (crc (bytesAt (replyFrame code seq r) 1 (6 + r.body.length))).toNat := by
  rw [replyFrame_covered]
  refine numberAt_of_leBytes (replyFrame_field 5 ?_ rfl rfl) (BitVec.isLt _)
  simp only [List.take, List.sum_cons, List.sum_nil]
  omega

/-- The flag byte of a reply, bit by bit (R182). -/
theorem replyFrame_flags (code seq : Byte) (r : Reply) :
    numberAt (replyFrame code seq r) 6 1 = (if r.flags.noticeWaiting then 1 else 0) +
      (if r.flags.stationHeld then 2 else 0) + (if r.flags.stopAsserted then 4 else 0) := by
  refine numberAt_of_byte (replyFrame_field 3 rfl rfl rfl) ?_
  have h0 := bitWhen_le r.flags.noticeWaiting 0
  have h1 := bitWhen_le r.flags.stationHeld 1
  have h2 := bitWhen_le r.flags.stopAsserted 2
  simp only [bitWhen, Nat.reducePow] at h0 h1 h2
  omega

/-! ### The request in hand carried out -/

/-- A request in hand does what it does with an empty buffer, and its reply what R176 and R178 say. -/
theorem exec_inHand (hc : (encodeRequest c).isSome) (hup : s.startup = none) {replied waiting : List Entry} {e : Entry}
    {discard : Bool} (hbuffer : s.port.buffer = replied ++ e :: waiting)
    (hreplied : ∀ x ∈ replied, ∃ frame, x.phase = .replying frame) (he : e.phase = .inHand discard)
    (hread : decodeRequest e.code e.body = .request c) :
    ∃ t u r, exec c s = .next t ∧ exec c s.bufferless = .next u ∧ u.lastReply = some r ∧ r.flags = u.replyFlags ∧
      t = { u with port := { s.port with buffer := replied ++
        (if discard then takeWaiting u.replyFlags waiting
         else { e with phase := .replying (replyFrame e.code e.seq r) } :: takeWaiting u.replyFlags waiting) } } := by
  have hhand := State.requestInHand_of_buffer hbuffer hreplied he hread
  obtain ⟨w, status, body, hw, hcarried⟩ := s.carryOut_serves hc
  have hport : w.port = s.port := hw.items .port (touches_port c).1
  have hwup : w.startup = none := by
    rw [← w.answer_startup c status body, ← hcarried, State.carryOut_startup hc, hup]
  refine ⟨s.carryOut c, (s.carryOut c).bufferless, ⟨status, w.replyFlags, body⟩, ?_, ?_, ?_, ?_, ?_⟩
  · rw [exec_of_request hc hup, s.before_of_comesFirst c (.inr hhand)]
  · rw [exec_of_request (s := s.bufferless) hc hup, s.bufferless.before_of_none c rfl, State.carryOut_bufferless]
  · rw [hcarried, State.bufferless_lastReply, State.answer_lastReply]
  · rw [hcarried, State.bufferless_replyFlags, State.answer_replyFlags]
  · rw [hcarried, State.bufferless_replyFlags, State.answer_replyFlags,
      ← State.answer_buffer hwup (hport ▸ hbuffer) hreplied he hread status body, ← hport, ← State.answer_port]
    rfl

/-- Settles O4: the request in hand, every other command past it, and the reply frame field by field. -/
theorem aReplyGoesToTheRequestInHand : Obligations.AReplyGoesToTheRequestInHand := by
  refine ⟨fun c s replied waiting e discard hc hup hbuffer hreplied he _ hread =>
      exec_inHand hc hup hbuffer hreplied he hread,
    fun c d s t hup hc hhand hd ht => exec_after_inHand hup hc hhand hd ht, fun code seq r hlen => ?_, rfl⟩
  exact ⟨replyFrame_length .., rfl, numberAt_of_leBytes (replyFrame_field 1 rfl rfl rfl) (by omega), rfl, rfl, rfl,
    replyFrame_flags .., replyFrame_field 4 rfl rfl rfl, replyFrame_check ..⟩

end Sys2Proof.Machine
end

section
/-! PROOFS. A step with a command waiting (assumptions 1, 15); `step_of_empty` is the other half. -/

namespace Sys2Proof.Machine

theorem step_of_front {s : State} {c : Instr} {rest : List Instr} (h : s.pending = c :: rest) :
    step s = exec c { s with pending := rest } := by rw [step, h]

/-- Settles O1: the branch of step at a queue that is not empty. -/
theorem stepCarriesOutTheFrontCommand : Obligations.StepCarriesOutTheFrontCommand :=
  fun _ _ _ hfront => step_of_front hfront

end Sys2Proof.Machine
end
